-- ==== Sys2Proof/Word.lean ====
section
/-! DEFINITION. The word types of the block: a register is 32 bits (R8), a byte 8. -/

namespace Sys2Proof

/-- One register's contents (R8). -/
abbrev Word := BitVec 32

/-- One byte. -/
abbrev Byte := BitVec 8

end Sys2Proof
end

