-- ==== Sys2Proof/Syntax.lean ====
section
/-! DEFINITION. The commands the block takes, one constructor per row of spec/opcode_table.json, and their operands. -/

namespace Sys2Proof

/-- The paths by which a host access reaches the registers (R9, R331). -/
inductive HostPath where
  | pcie
  | spi
  | queue
  deriving DecidableEq, Repr

/-- What power-on reset meets at its release (R280, R400, R401, R405, R416): the four straps; whether REF_IN carries a
clock and whether the chosen CK_REF source runs; the bank levels; which rails are in range; and whether every supply lay
below 0.4 V for 10 ms before. -/
structure PorInputs where
  master : Bool
  clrsel : Bool
  test : Bool
  hostsel : Bool
  refIn : Bool
  refPresent : Bool
  bank : BitVec 12
  nvm : BitVec 2
  ok : BitVec 8
  cycled : Bool
  deriving DecidableEq, Repr

/-- The converter samples one CK_FRAME cycle brings: for each ADC its samples, oldest first (32 on the main plan, 30 on the
alternative; R56, R73). -/
abbrev AdcIn := List (List (BitVec 12))

/-- The target of an image swap (Table 02-9, 0x0C). -/
inductive SwapTarget where
  | eng (e : Fin 96)
  | bench (b : Fin 12)
  deriving DecidableEq, Repr

/-- A write to a FIR bank (R79): one coefficient of bank A (false) or B (true), or the lengths. -/
inductive FirWrite where
  | coef (bank : Bool) (i : Fin 64) (v : BitVec 18)
  | ntaps (a b : BitVec 8)
  deriving DecidableEq, Repr

/-- The scopes of the protection ladder (R182). -/
inductive Scope where
  | channel (ch : Fin 192)
  | downlink
  | uplink
  | device
  deriving DecidableEq, Repr

/-- What a rotation step measured of the spare (R203 to R206): the trims it needs, the residuals of the verify window, each
in trim LSB, whether the window was quiet, and whether the interleave spurs can still be held. -/
structure SpareMeas where
  offset : Int
  gain : Int
  skew : Int
  rOffset : Nat
  rGain : Nat
  rSkew : Nat
  quiet : Bool
  specOk : Bool
  deriving DecidableEq, Repr

/-- One slice as a calibration step measured it: ADC, slice, and the trims it needs. -/
structure SliceMeas where
  adc : Fin 8
  slice : Fin 17
  offset : Int
  gain : Int
  skew : Int
  deriving DecidableEq, Repr

/-- One DAC as a loopback step measured it: the trims it needs. -/
structure DacMeas where
  dac : Fin 8
  gain : Int
  offset : Int
  deriving DecidableEq, Repr

/-- One ADC's level check (R209): both errors in Q8.8 dB; the second is used when INBAND = 1. -/
structure LevelMeas where
  adc : Fin 8
  err : Int
  errHi : Int
  deriving DecidableEq, Repr

/-- What the step of a calibration, load or level run measured, and the mean die temperature of the run (R213). -/
structure CalMeas where
  slices : List SliceMeas
  dacs : List DacMeas
  levels : List LevelMeas
  tMean : Int
  sliceOnly : Bool
  deriving DecidableEq, Repr

/-- A host RFFE command (Table 10-4): data bytes less one, slave, register address and data. -/
structure RffeCmd where
  n : BitVec 2
  usid : BitVec 4
  addr : BitVec 16
  data : Word
  deriving DecidableEq, Repr

/-- How the host answers the reads a DMA beat needs (Table 15-7, kinds 6 and 7). -/
inductive ReadResult where
  | ok
  | walkFailed
  | dataFailed
  deriving DecidableEq, Repr

/-- One checker that fails in a cycle (R358): source, the page that detects it, and whether it was injected. -/
structure FaultHit where
  src : BitVec 8
  page : BitVec 14
  inj : Bool
  deriving DecidableEq, Repr

/-- How a flash operation ends (R383). -/
inductive FlashResult where
  | good
  | mismatch
  | foreign
  deriving DecidableEq, Repr


/-- The commands of the block: one constructor per row of the operation table, in its order, with the row's rule. The
table gives no operands; these are the model's (log entry 11): which place the event concerns, and the values that come
from outside the block. -/
inductive Instr where
  /-- Power-on reset is released once every rail has been within range for 2 ms, sampling straps and choosing the CK_REF source (R416). -/
  | powerOnResetRelease (p : PorInputs)
  /-- PLLs lock and DEV_BOOT.FABRIC sets, making the register space accessible (R416). -/
  | fabricReady
  /-- The recorder finishes restoring the newest valid snapshot and matching tail and sets REC_DONE (R379). -/
  | recorderRestoreDone (usable : Bool) (slots : Fin 257) (foreign : Bool) (ms : BitVec 16)
  /-- The reference monitor declares CK_REF lost, closes gates, clears bias outputs, raises a fatal fault and holds chip reset (R23). -/
  | ckRefLoss
  /-- After CK_REF has been present for 1 ms, CK_AON returns to CK_REF and chip reset is released (R23). -/
  | ckRefReturn
  /-- RESET_N held low for at least 1 us asserts chip reset (R399). -/
  | resetNAssert
  /-- Release of RESET_N ends chip reset and the device continues as after power-on reset with always-on registers kept (R399). -/
  | resetNRelease
  /-- PERST_N resets the PCI Express endpoint alone (R399). -/
  | perstNAssert
  /-- A PCI Express Function Level Reset acts as chip reset (R329). -/
  | functionLevelReset
  /-- A rail other than VAON and VDD_NVM below range for 2 us closes gates, clears bias and enters power-on reset in the AON state (R404). -/
  | supplyDip (rail : Fin 12)
  /-- VAON below 1.62 V holds power-on reset, and below 1.40 V loses the always-on registers except the thermal latch (R404). -/
  | vaonLow (lost : Bool)
  /-- VDD_NVM below range stops the flash interface and fails any flush or tail in progress (R404). -/
  | nvmSupplyLoss
  /-- Core PLL unlock raises fatal fault source 1 with a fixed chip reset (R357). -/
  | corePllUnlock
  /-- System PLL unlock raises fatal fault source 2 with a fixed chip reset (R357). -/
  | systemPllUnlock
  /-- Haul PLL unlock raises source 3 and takes haul links out of UP (R354). -/
  | haulPllUnlock
  /-- Loss of the PCI Express reference clock raises fault source 4 (R354). -/
  | pcieRefclkLoss
  /-- The PCI Express link going down raises fault source 194 (R354). -/
  | pcieLinkDown
  /-- A host write to a register with no behaviour of its own acts on its fields under the access codes, or is counted as bad (R10). -/
  | registerWrite (path : HostPath) (addr : BitVec 32) (bytes : Nat) (data : Word)
  /-- A read of a register holding RC fields returns their values and clears them to zero (R10). -/
  | readClear (path : HostPath) (addr : BitVec 32)
  /-- A read of the lower register of an R9 pair latches the upper half for the path (R9). -/
  | pairLowerRead (path : HostPath) (addr : BitVec 32)
  /-- A read of the upper register of an R9 pair returns the latched or live upper half (R9). -/
  | pairUpperRead (path : HostPath) (addr : BitVec 32)
  /-- A write of the lower register of an R9 pair is held in the path's staging (R9). -/
  | pairLowerWrite (path : HostPath) (addr : BitVec 32) (data : Word)
  /-- A write of the upper register applies the staged lower half and the upper half together (R9). -/
  | pairUpperWrite (path : HostPath) (addr : BitVec 32) (data : Word)
  /-- A write to one of the three lower words of an event table entry is held in its staging copy (R40). -/
  | eventEntryStageWrite (path : HostPath) (n : Fin 32768) (w : Fin 3) (data : Word)
  /-- A write to the word at +0xC makes the whole staged event table entry take effect (R40). -/
  | eventEntryTopWrite (path : HostPath) (n : Fin 32768) (data : Word)
  /-- A read of the word at +0x0 latches the other three words of the entry for the path (R40). -/
  | eventEntryLatchRead (path : HostPath) (n : Fin 32768)
  /-- A write of PG_CTL.COMMIT with COMMIT_AT_EVENT = 0 starts applying the page shadow, or holds the commit one deep while BUSY (R335). -/
  | pageCommit (page : BitVec 14)
  /-- A write of COMMIT with COMMIT_AT_EVENT = 1 arms the page for the next COMMIT frame action (R336). -/
  | commitArm (page : BitVec 14)
  /-- The commit completes: checks pass or refuse, fields take effect together and PG_SEQ increments (R335). -/
  | commitComplete (page : BitVec 14)
  /-- A write of PG_CTL.SOFT_RST disarms the page, returns its fields to Reset values and releases its resources (R338). -/
  | softRst (page : BitVec 14)
  /-- The block reset completes and BUSY clears (R338). -/
  | softResetDone (page : BitVec 14)
  /-- A write to PG_EVT_SET raises PG_EVT bits as if the events had occurred (R332). -/
  | pgEvtSet (page : BitVec 14) (bits : Word)
  /-- A write of PG_FLT_INJ arms inverted check bits for the named checker (R364). -/
  | faultInjectArm (page : BitVec 14) (data : Word)
  /-- A committed or released profile takes effect at the next frame boundary, restarting chains whose half-band variant changes (R26). -/
  | profileTakeEffect
  /-- The frame counter advances by one tick per CK_FRAME cycle (R29). -/
  | tick (adc : AdcIn)
  /-- The accumulated frequency correction reaches one tick and the counter advances by 2 or 0 on that cycle (R30). -/
  | freqCorrAdjust (adc : AdcIn)
  /-- A slewed phase correction adds or withholds one tick per 4,096 ticks (R30). -/
  | slewAdjust (adc : AdcIn)
  /-- The tick count wraps to 0 and the frame number advances, running every action tied to the frame boundary (R426). -/
  | frameBoundary (adc : AdcIn)
  /-- STEP_GUARD clears after the counter has run one full frame without a further step (R50). -/
  | stepGuardClear
  /-- A Timing Acquirer detects the cell's synchronisation signals, giving a phase measurement and qualification progress (R32). -/
  | taDetection (ta : Fin 8) (pbch : Bool) (sfn : BitVec 10) (tick16 : BitVec 27)
  /-- Four sync periods without detection disqualify the TA source, switching source or entering HOLDOVER (R33). -/
  | taDetectionTimeout (ta : Fin 8)
  /-- A PPS_IN edge gives a phase measurement for frame NEXT_SFN, which then advances by 100 (R31). -/
  | ppsInEdge (sub : Fin 16)
  /-- No PPS edge within 1 s plus 10 us of the last, twice in succession, disqualifies PPS (R33). -/
  | ppsEdgeTimeout
  /-- A higher-priority source that has stayed qualified for REQUAL_S seconds becomes active (R33). -/
  | sourceTakeover
  /-- An SC TIME message marks tick 0 of the named frame as a phase measurement (R36). -/
  | time (sfn : BitVec 10) (ago : BitVec 16)
  /-- An SC SLOTS message sets the slot map of a frame, applied late where needed with cancellation of disallowed governed actions (R38). -/
  | slots (frame : BitVec 10) (scs : Fin 3) (codes : BitVec 80)
  /-- An SC BEAM message selects a beam map entry for a symbol group of a slot (R240). -/
  | beam (frame : BitVec 10) (slot : BitVec 6) (grp : BitVec 4) (idx : BitVec 8)
  /-- An SC ONOFF message turns all slots off or back to their SLOTS maps from a frame on (R36). -/
  | onoff (frame : BitVec 10) (on : Bool)
  /-- An SC message fails its CRC or framing check and is discarded and counted in SC_CRC (R36). -/
  | scMessageFail (msg : BitVec 128) (fsHigh : Bool)
  /-- SC_LOSS frames without a valid message put governed groups in off slots and disqualify SC (R39). -/
  | scLoss
  /-- The dispatcher reaches an event table entry and checks, orders and queues it or counts it late or missed (R42). -/
  | dispatcherEntryRead (n : Fin 32768)
  /-- A queued action reaches its issue time and is issued unless its governing slot map disallows it (R46). -/
  | actionIssue
  /-- A NOP frame action does nothing (R45). -/
  | nop
  /-- A COMMIT frame action applies an armed page shadow at its target tick (R336). -/
  | commit (cls : BitVec 9) (inst : BitVec 12)
  /-- A GATE_OPEN frame action opens the named transmit gates only on confirmation, else counts GATE_REFUSED (R47). -/
  | gateOpen (dtx : Bool) (mask : BitVec 4) (gov : Option (Fin 4))
  /-- A GATE_CLOSE frame action closes the named transmit gates (R42). -/
  | gateClose (dtx : Bool) (mask : BitVec 4)
  /-- A PATH_STATE frame action sets REQ of a path group at its issue time (R224). -/
  | pathState (g : Fin 4) (st : BitVec 4)
  /-- An RFFE_WR frame action enters a timed write into the master's queue (R238). -/
  | rffeWr (m : Fin 4) (usid : BitVec 4) (addr : BitVec 16) (data : BitVec 8) (long : Bool)
  /-- A GPIO_SET frame action drives an FE-mode GPIO level or high impedance (R241). -/
  | gpioSet (n : Fin 48) (level : Bool) (highz : Bool)
  /-- A BIAS_LOAD frame action strobes a bias load group at issue (R262). -/
  | biasLoad (grp : Fin 4)
  /-- A BIAS_RAMP frame action latches the group's codes and ramps outputs linearly to the target tick (R263). -/
  | biasRamp (grp : Fin 4) (lead : BitVec 15)
  /-- A CONV_WAKE frame action puts a converter to sleep or starts waking it (R427). -/
  | convWake (conv : Fin 16) (wake : Bool)
  /-- A MON_TRIG frame action registers a monitor trigger of the given kind (R246). -/
  | monTrig (inst : Fin 3) (kind : Fin 4)
  /-- A COEF_SWAP frame action requests a FIR bank swap with fade at its target tick (R82). -/
  | coefSwap (ch : Fin 192) (bank : Bool) (k : BitVec 4)
  /-- An IMG_SWAP frame action arms an engine or bench image swap at its frame boundary (R143). -/
  | imgSwap (tgt : SwapTarget)
  /-- A CANC_FREEZE frame action stops a channel's adaptation and pilot (R108). -/
  | cancFreeze (ch : Fin 192)
  /-- A CANC_RELEASE frame action restarts a channel's adaptation and pilot (R108). -/
  | cancRelease (ch : Fin 192)
  /-- A SIEVE_SYNC frame action sets the sync reference of named converters and restarts their chains (R63). -/
  | sieveSync (mask : BitVec 16)
  /-- A USER frame action raises FRAME PG_EVT bit 15 (R45). -/
  | user
  /-- An M buffer moves more than 2 entries from its set point, realigns, restarts its chains and raises a contained fault (R22). -/
  | mBufferSlip (conv : Fin 16)
  /-- The spoil fill of a chain ends after its fill length in samples (R65). -/
  | fillEnd (ch : Fin 192)
  /-- A coarse power and peak value is delivered to oscillation detection and fast gain protection (R68). -/
  | coarseValue (ch : Fin 192) (j : Fin 4)
  /-- A write to CH_FIR_SWAP requests a bank swap, checked, queued or started (R82). -/
  | chFirSwap (ch : Fin 192) (bank : Bool) (k : BitVec 4)
  /-- A write to a FIR coefficient or CH_FIR_NTAPS is stored or ignored for a locked bank and counted (R79). -/
  | firBankWrite (ch : Fin 192) (w : FirWrite)
  /-- A cross-fade reaches sample L, making the new bank active and starting any queued fade (R83). -/
  | fadeEnd (ch : Fin 192)
  /-- The canceller makes an NLMS update at every eighth channel sample or skips it (R106). -/
  | cancUpdate (ch : Fin 192)
  /-- A block of a relay stream completes in its bench ring, dropping an unread older block (R136). -/
  | streamBlockComplete (ch : Fin 192) (j : Fin 4)
  /-- The gain stage takes an output word 100 ticks after its input word, spoil if not yet written (R138). -/
  | gainStageTake (ch : Fin 192) (j : Fin 4)
  /-- The uplink gating hang expires and the channel returns to LISTEN (R187). -/
  | ulgHangExpiry (ch : Fin 192)
  /-- An engine issues one bundle per CK_ENG cycle, executing its slots under its predicate (R130). -/
  | bundleIssue (e : Fin 96)
  /-- An APPLY value reaches its target 8 cycles after issue (R139). -/
  | applyDelivery
  /-- An engine period starts, latching the counter, computing idx, FRAME_MARK and share variant (R127). -/
  | enginePeriodStart (e : Fin 96)
  /-- After SENSE_HOLD seconds without a valid reading pair the band is set to SAFE_BAND (R162). -/
  | senseHoldExpiry
  /-- Every 250 us the port-power loop measures the port and applies its trim (R159). -/
  | portPowerUpdate (dac : Fin 8)
  /-- A write of CH_GL_UL.HOLD holds the level loop at the next update and sets HELD (R168). -/
  | ulHold (ch : Fin 192)
  /-- A write of CH_GL_UL.RELEASE resumes the loop with bumpless transfer and clears HELD (R168). -/
  | ulRelease (ch : Fin 192)
  /-- 1,024 tail issues without HALT halt the engine with the same mute (R141). -/
  | tailIssueLimit (e : Fin 96)
  /-- A write of ENG_CTL.VERIFY starts verification of the shadow bank (R134). -/
  | verify (e : Fin 96)
  /-- Verification finishes, setting SHADOW_VALID or LAST_REFUSE and raising the event (R134). -/
  | verifyDone (e : Fin 96)
  /-- A write of ENG_CTL.RESTART requests the active image to start from IDLE (R142). -/
  | engineRestart (e : Fin 96)
  /-- A write of ENG_CTL.INVALIDATE clears SHADOW_VALID (R148). -/
  | invalidate (e : Fin 96)
  /-- An idle engine starts its image at the first anchor-grid period start after the next frame boundary (R142). -/
  | engineStart (e : Fin 96)
  /-- An armed swap is taken at the end of the old period, activating the shadow bank and keeping or zeroing state (R143). -/
  | swapTake (e : Fin 96)
  /-- A 1 ms emission window ends and the OOBE estimate is judged (R176). -/
  | oobeWindowEnd (ch : Fin 192) (est : BitVec 16)
  /-- A scope's back-off wait ends and its channels restart (R185). -/
  | backoffExpiry (scope : Scope)
  /-- ATTEMPT returns to 0 after RESET_S seconds of clean relay (R182). -/
  | attemptReset (scope : Scope)
  /-- CLK_A or CLK_B ends 1 ms after relock (R183). -/
  | clkVerdictEnd (syn : Fin 2)
  /-- PROT_CLR with CH_EN releases the latch of channel CH (R184). -/
  | protClrChannel (ch : BitVec 8)
  /-- PROT_CLR with ALL_CH releases every latched channel (R184). -/
  | protClrAllChannels
  /-- PROT_CLR with DL releases a latched downlink direction (R184). -/
  | protClrDownlink
  /-- PROT_CLR with UL releases a latched uplink direction (R184). -/
  | protClrUplink
  /-- PROT_CLR with DEV releases a latched device RF off (R184). -/
  | protClrDevice
  /-- REQ and EFF have differed for over 1 ms, setting DIVERGE and PG_EVT bit 31 (R189). -/
  | divergeTimeout (page : BitVec 14) (g : Fin 4)
  /-- A write of SYN_CTL.RECAL starts synthesiser calibration or is refused (R200). -/
  | synRecal (syn : Fin 2)
  /-- Synthesiser calibration declares lock after 2,048 CK_REF cycles inside the window (R199). -/
  | synLock (syn : Fin 2) (band : BitVec 6) (cp : BitVec 8) (us : BitVec 16)
  /-- No lock within 2 ms fails the calibration and raises a contained fault (R199). -/
  | synCalFail (syn : Fin 2) (band : BitVec 6) (cp : BitVec 8) (us : BitVec 16)
  /-- An unrequested unlock is detected within 200 ns and trips CLK_A or CLK_B (R201). -/
  | synUnlock (syn : Fin 2)
  /-- After 10 us without relock a full calibration runs (R201). -/
  | synRelockWaitExpiry (syn : Fin 2)
  /-- A failed relock calibration is repeated every 10 ms (R201). -/
  | synRecalRetry (syn : Fin 2)
  /-- The rotation timer starts estimating the spare at the next position (R203). -/
  | rotationStep (adc : Fin 8)
  /-- After its verify window the spare takes the position, or the step is counted as NOHAND (R204). -/
  | spareHandover (adc : Fin 8) (m : SpareMeas)
  /-- A write of CAL_CTL.START begins start-up calibration or is refused (R214). -/
  | calStart
  /-- A write of CAL_CTL.LOAD begins verification of reloaded sets or is refused (R216). -/
  | calLoad
  /-- A write of CAL_CTL.LEVEL begins a level check of the masked ADCs (R209). -/
  | calLevel
  /-- A write of CAL_CTL.ABORT stops a START or LOAD run at its next stopping point (R214). -/
  | calAbort
  /-- A calibration or reload step ends and the next begins, or the run ends DONE or FAILED (R214). -/
  | calStepEnd (m : CalMeas)
  /-- A level check ends, writing ADC_LEVEL and setting STATE to DONE (R209). -/
  | levelCheckDone (ms : List LevelMeas)
  /-- A write of FREEZE_SETS stops or resumes folding and starts signature computation (R215). -/
  | freezeSets (on : Bool)
  /-- CAL_SIG becomes current for the frozen window and SIG_VALID sets (R215). -/
  | calSigReady
  /-- A write to the set window is accepted only while frozen and idle (R216). -/
  | calSetWindowWrite (off : BitVec 13) (data : Word)
  /-- A path group begins one adjacent step toward REQ once lock and calibration holds allow (R225). -/
  | pathStepStart (g : Fin 4)
  /-- A path step completes when its hardware part and entry sequence are done, updating EFF (R225). -/
  | pathStepComplete (g : Fin 4)
  /-- An entry sequence step completes and the next starts (R234). -/
  | sequenceStepDone (g : Fin 4)
  /-- RET_DLY after a burst ends, REQ is set to the return state or the return is skipped (R232). -/
  | autoReturn (g : Fin 4)
  /-- A waking converter is clocked and its M buffer delivers, returning from power-down (R427). -/
  | converterWakeDone (conv : Fin 16)
  /-- A queued RFFE timed write starts on the bus (R238). -/
  | timedWriteStart (m : Fin 4)
  /-- An RFFE command ends on the bus, completing its step or read (R238). -/
  | rffeCommandEnd (m : Fin 4) (rd : Word) (perr : Bool)
  /-- A host register write command is issued through FE_RFFE_CMD (R239). -/
  | rffeRegisterWrite (m : Fin 4) (c : RffeCmd)
  /-- A host extended register write command is issued (R239). -/
  | rffeExtRegisterWrite (m : Fin 4) (c : RffeCmd)
  /-- A host extended register write long command is issued (R239). -/
  | rffeExtRegisterWriteLong (m : Fin 4) (c : RffeCmd)
  /-- A host register read command is issued (R239). -/
  | rffeRegisterRead (m : Fin 4) (c : RffeCmd)
  /-- A host extended register read command is issued (R239). -/
  | rffeExtRegisterRead (m : Fin 4) (c : RffeCmd)
  /-- A host extended register read long command is issued (R239). -/
  | rffeExtRegisterReadLong (m : Fin 4) (c : RffeCmd)
  /-- A pending host RFFE command starts once the timed queue is empty and the gap allows (R239). -/
  | rffeHostCmdStart (m : Fin 4)
  /-- A beam map entry is issued as a timed write at group start less LEAD (R240). -/
  | beamWriteIssue
  /-- A write of MON_CONV.GO registers a host monitor trigger (R246). -/
  | monConvGo (conv : BitVec 2) (kind : BitVec 2)
  /-- An edge on the MON_TRIG pin registers a monitor trigger (R246). -/
  | monTrigPinEdge (rising : Bool)
  /-- A monitor comparator trips on a rising crossing, setting TRIPPED and optionally triggering a conversion (R253). -/
  | comparatorTrip (n : Fin 4)
  /-- A monitor conversion ends, writing MON_LAST and the ring, and starting any pending conversion (R257). -/
  | conversionEnd (c : Fin 2) (code : BitVec 12)
  /-- The monitor reference settles after its fixed time (R254). -/
  | refSettled (extOk : Bool)
  /-- A write of BIAS_GRP_LD strobes the named load groups (R262). -/
  | biasGrpLd (groups : BitVec 4)
  /-- A falling edge of BIAS_LD_N strobes the groups in BIAS_LDPIN.MASK (R262). -/
  | biasLdNFall
  /-- Assertion of BIAS_CLR_N forces every bias output to its clear code (R266). -/
  | biasClrNAssert
  /-- Release of BIAS_CLR_N ends the clear path, leaving outputs at clear code until the next strobe (R266). -/
  | biasClrNRelease
  /-- A bias ramp or unwind reaches its code and stops (R263). -/
  | biasRampEnd (n : Fin 16)
  /-- The 2 us deglitch hold ends and the output moves to its new code (R264). -/
  | biasDeglitchEnd (n : Fin 16)
  /-- The 50 us range-change interval ends (R268). -/
  | biasRangeChangeEnd (n : Fin 16)
  /-- The current limit acting for 10 us sets SC and raises a contained fault (R269). -/
  | biasShortCircuit (n : Fin 16)
  /-- A current-range load needing over 3.0 V sets COMPLY (R269). -/
  | biasCompliance (n : Fin 16)
  /-- Every 1 ms the die diode and external sensors are read and thresholds judged (R271). -/
  | dieReading (t : BitVec 16) (fault : Fin 3)
  /-- A write of THERM_CLR releases the step-4 hold of a valid external sensor, or is counted as refused (R278). -/
  | thermClr (ext : BitVec 8)
  /-- Block lock is reached on four haul lanes and the link enters LOCK (R311). -/
  | linkBlockLock (h : Fin 3)
  /-- Alignment blocks are seen and lanes deskewed and the link enters ALIGN (R311). -/
  | linkAlign (h : Fin 3) (orderOk : Bool)
  /-- A link leaves UP or TIMED, making streams and branches absent and discarding queued MGMT frames (R311). -/
  | linkDown (h : Fin 3) (cause : BitVec 4)
  /-- A haul period of 8,192 cycles begins with alignment blocks on each lane (R287). -/
  | haulPeriodStart (h : Fin 3)
  /-- A frame position begins and the port sends a CTRL, MGMT, sample or EMPTY frame (R288). -/
  | haulFramePosition (h : Fin 3) (sub : Fin 32)
  /-- A CTRL frame is received, giving time exchange, credits, sync, enumeration, noise and schedule (R301). -/
  | ctrlFrameRx (h : Fin 3) (frame : List Byte) (sub : Fin 32)
  /-- A MGMT frame is received and routed, executed, forwarded or dropped (R305). -/
  | mgmtFrameRx (h : Fin 3) (frame : List Byte) (cut : Bool)
  /-- A sample frame is written into playout memory, poisoned on CRC failure (R308). -/
  | sampleFrameRx (h : Fin 3) (frame : List Byte)
  /-- An EMPTY frame is received, returning credit (R306). -/
  | emptyFrameRx (h : Fin 3) (frame : List Byte)
  /-- At the take period both ends change to the new slot order (R293). -/
  | scheduleTake (h : Fin 3)
  /-- A haul word is released to the junction at grid time plus PLAY, as spoil if late (R296). -/
  | playoutRelease (h : Fin 3)
  /-- ENUM with KEEP = 0 starts a full depth-first enumeration (R284). -/
  | enumFull
  /-- ENUM with KEEP = 1 addresses only unaddressed devices (R284). -/
  | enumKeep
  /-- Enumeration completes and raises its event (R284). -/
  | enumDone
  /-- A write of SYNC_GO sends a cascade-wide SIEVE_SYNC or is refused (R304). -/
  | syncGo
  /-- A device applies the haul SIEVE_SYNC at its target time, or counts it late (R304). -/
  | haulSyncApply
  /-- A doorbell write reads the queue context and sets the queue's ready bit, or is ignored (R315). -/
  | qmgrDoorbell (q : BitVec 20)
  /-- The scheduler finds the next ready address and sends one descriptor or record batch (R316). -/
  | schedulerTurn
  /-- A WR32 record executes a 32-bit register write at the target (R318). -/
  | wr32 (q : Fin 8) (cpl : Bool) (tag : BitVec 16) (addr : BitVec 26) (data : Word)
  /-- A WR64 record writes an R9 pair as one access (R319). -/
  | wr64 (q : Fin 8) (cpl : Bool) (tag : BitVec 16) (addr : BitVec 26) (data : BitVec 64)
  /-- An RD32 record reads a register and returns RD_DATA (R318). -/
  | rd32 (q : Fin 8) (tag : BitVec 16) (addr : BitVec 26)
  /-- An RD64 record reads an R9 pair as one access (R319). -/
  | rd64 (q : Fin 8) (tag : BitVec 16) (addr : BitVec 26)
  /-- A FENCE record waits until every earlier record of the device has executed and completed (R318). -/
  | fence (q : Fin 8) (cpl : Bool) (tag : BitVec 16)
  /-- An UPLOAD_TRACE record copies an engine trace ring to a host buffer (R326). -/
  | uploadTrace (q : Fin 8) (tag : BitVec 16) (addr : BitVec 26) (buf : BitVec 48) (len : BitVec 16)
  /-- An UPLOAD_REC record copies a frozen recorder image to a host buffer (R385). -/
  | uploadRec (q : Fin 8) (tag : BitVec 16) (buf : BitVec 48) (len : BitVec 16)
  /-- An upload completes and UPLOAD_DONE goes to queue 14 or 15 (R326). -/
  | uploadDone
  /-- A NOP record does nothing but may complete (R317). -/
  | descNop (q : Fin 8) (cpl : Bool) (tag : BitVec 16)
  /-- The master receives a device-to-host record, discards stale ones and writes it to its ring (R323). -/
  | deviceRecordRx (addr : BitVec 16) (idx : Fin 8) (rec : BitVec 128)
  /-- An outstanding record without completion after QMGR_TMO is answered with TIMEOUT (R325). -/
  | qmgrTimeout
  /-- An SPI WRITE command writes registers word by word on IO0 (R330). -/
  | write (addr : BitVec 32) (words : List Word)
  /-- An SPI READ command returns tokened register words on IO1 (R330). -/
  | read (addr : BitVec 32) (n : Nat)
  /-- An SPI QWRITE command writes registers on four lines (R330). -/
  | qwrite (addr : BitVec 32) (words : List Word)
  /-- An SPI QREAD command returns tokened register words on four lines (R330). -/
  | qread (addr : BitVec 32) (n : Nat)
  /-- An SPI STATUS command returns the IRQ_N, ERR_N and bad-access status byte (R330). -/
  | status
  /-- SPI_CS_N rising ends the transaction, discarding and counting a partial word (R330). -/
  | spiCsRise (inWord : Bool)
  /-- XLAT_INV_CTL.GO without ALL invalidates a range of cached translations (R342). -/
  | xlatInvRange (size : BitVec 6)
  /-- XLAT_INV_CTL.GO with ALL invalidates the whole translation cache (R342). -/
  | xlatInvAll
  /-- No beat of a removed entry remains unissued and INV_BUSY clears (R342). -/
  | invalidationComplete
  /-- A read of XLAT_FIFO(3) removes the head fault entry (R343). -/
  | faultFifoPop
  /-- A write of DMA_CTL.GO starts a DESC transfer or is refused with ERROR (R346). -/
  | dmaGo (d : Fin 16)
  /-- A write of DMA_CTL.RESUME retranslates the faulted beat (R348). -/
  | dmaResume (d : Fin 16)
  /-- A write of DMA_CTL.ABORT ends or discards the faulted transfer (R348). -/
  | dmaAbort (d : Fin 16)
  /-- A granted channel translates and writes one beat, faulting at the exact beat if translation fails (R348). -/
  | dmaBeat (r : ReadResult)
  /-- A write of DMA_FEED adds a word to the feed FIFO or is dropped when full (R345). -/
  | dmaFeed (d : Fin 16) (w : Word)
  /-- A write of IRQ_ACK re-arms a vector, sending the next message at once if still pending (R352). -/
  | irqAck (v : BitVec 6)
  /-- A checker fails, setting the sticky bit, counting, recording and starting the configured reaction (R358). -/
  | faultRaise (fs : List FaultHit)
  /-- The 100 us chip reset ends and the device continues as after power-on reset (R358). -/
  | chipResetRelease
  /-- A write of FAULT_CTL.ERR_ACK releases the ERR_N latch, or is refused and counted (R358). -/
  | errAck
  /-- A write of 1 to FAULT_STICKY clears the source in every page it covers (R363). -/
  | faultStickyClear (w : Fin 8) (bits : Word)
  /-- A write of 1 to FAULT_BLK VALID clears the first-fault record (R362). -/
  | faultRecordClear (b : Fin 32)
  /-- Each operating second advances the counter and takes histogram samples (R367). -/
  | operatingSecond
  /-- A write of REC_CTL.FLUSH requests a snapshot flush (R376). -/
  | flush
  /-- A flash erase, program, read-back or COMMIT completes and the next one begins (R377). -/
  | flashOperationDone (r : FlashResult)
  /-- A flash operation exceeds twice its declared time and fails (R373). -/
  | flashTimeout
  /-- The FAULT_GAP ends and a deferred fault flush starts (R376). -/
  | faultGapExpiry
  /-- PFAIL_N asserted for 1 us fixes the tail content and starts the tail write (R378). -/
  | pfailAssert
  /-- Release of PFAIL_N after a tail erases the next tail slot and sets TAIL_READY (R378). -/
  | pfailRelease
  /-- A write of REC_CTL.CLEAR with a token clears the scope and forces a flush, or is refused (R381). -/
  | clear (scope : BitVec 3)
  /-- A write of REC_CTL.ADOPT with a token erases a foreign flash and commits an adoption snapshot (R382). -/
  | adopt (scope : BitVec 3)
  /-- A write of REC_HOST_INC increments the named host counter (R371). -/
  | recHostInc (c : BitVec 4)
  /-- At each packet boundary the observation port sends the highest-ranked waiting packet (R389). -/
  | obsPacketSlot
  /-- A write of FREEZE = 1 stops every performance counter (R392). -/
  | counterFreeze
  /-- A write of FREEZE = 0 restarts every performance counter (R392). -/
  | counterUnfreeze
  /-- A write of OBS_PC_CTL.CLEAR sets every performance counter to zero (R392). -/
  | counterClear
  /-- The JTAG BYPASS instruction selects the bypass register (R394). -/
  | bypass
  /-- The JTAG IDCODE instruction shifts out the device identity (R394). -/
  | idcode
  /-- The JTAG SAMPLE/PRELOAD instruction samples or preloads the boundary register (R394). -/
  | samplePreload (load : Option (List Bool))
  /-- The JTAG EXTEST instruction drives pins from the boundary register (R394). -/
  | extest
  /-- The JTAG CLAMP instruction holds outputs while bypassing (R394). -/
  | jtagClamp
  /-- The JTAG HIGHZ instruction places outputs in high impedance (R394). -/
  | highz
  /-- A host read of another width or alignment, or of an address in no listed page, returns zero and increments DEV_BAD_ACC_CNT (R8). -/
  | badAccessRead (path : HostPath) (addr : BitVec 32) (bytes : Nat)
  /-- An SC message that passes its check but has an undefined type is discarded and counted in SC_CRC without breaking qualification (R36). -/
  | scMessageDiscard (msg : BitVec 128)
  /-- A haul frame of an undefined TYPE, or of a type not allowed at its position, is discarded and counted in CRC_FAIL (R288). -/
  | haulFrameFail (h : Fin 3) (frame : List Byte)
  /-- A host-to-device record with an undefined OP or nonzero reserved bits is answered with an ERROR record of code BADOP (R325). -/
  | badop (q : Fin 8) (desc : BitVec 128)
  /-- An SPI command byte that is not defined makes the rest of the transaction ignored and counted once in DEV_BAD_ACC_CNT (R330). -/
  | spiUndefinedCommand (cmd : BitVec 8)
  /-- Release of PERST_N ends the endpoint reset and lets link training begin once FABRIC is set (R419). -/
  | perstNRelease
  /-- PCI Express link training completes and the endpoint's link is up (R329). -/
  | pcieLinkUp
  /-- The 100 MHz PCI Express reference clock returns, DEV_CLK_STAT.PCIE_REF_OK sets and level source 4 stops setting again (R354). -/
  | pcieRefclkReturn
  /-- The haul PLL regains lock, DEV_CLK_STAT.HAUL_LOCK sets and level source 3 stops setting again, so haul links may come up again (R354). -/
  | haulPllRelock
  /-- VDD_NVM returns within range, PIN_SUPPLY.OK and PIN_BANK.NVM change and the recorder's flash interface can run again (R405). -/
  | nvmSupplyReturn (code : BitVec 2)
  /-- A DMA data read of host memory that has not completed after 50 ms stops the channel at its beat with fault kind 7 (R348). -/
  | dataReadTimeout (d : Fin 16)
  /-- After an unrequested unlock, lock returns by itself within the 10 us wait, without a calibration, and the CLK verdict's 1 ms end wait starts (R201). -/
  | synSelfRelock (syn : Fin 2)
  /-- With the TEST strap high, assertion of JTAG_TRST_N resets the test access port as IEEE 1149.1 requires (R394). -/
  | jtagTrstNAssert
  deriving DecidableEq, Repr

end Sys2Proof
end

