-- ==== Sys2Proof/Decode.lean ====
section
/-! DEFINITION. The block has no instruction words: commands come from outside as they are. No row of the operation table has bits, so
no word spells a command. -/

namespace Sys2Proof

/-- The command that the word `w` of `nbits` bits spells: none. -/
def decodeTableWord (_nbits _w : Nat) : Option Instr := none

end Sys2Proof
end

