-- ==== Sys2Proof/Config.lean ====
section
/-! DEFINITION. What one device fixes and the spec does not state, and the free values: every constant here is opaque,
so no proof can see what it is, and a claim holds whatever it is. -/

namespace Sys2Proof.Config

/-- A fresh value for a result the spec leaves open, drawn with the state's counter (log entry 1). -/
opaque freeVal : Nat → BitVec 256

/-- How the device rounds the exact quotient of two numbers where the spec states no rounding: up when it is true, down
otherwise; a whole quotient is never rounded (log entry 10). -/
opaque roundUp : Int → Nat → Bool

/-- The fused identity of DEV_UID_LO and DEV_UID_HI (Table 01-15; log entry 3). -/
opaque uid : BitVec 64

/-- The fixed block revision of a page type, PG_ID[11:0] (Table 15-3; log entry 3). -/
opaque blockRev : Nat → BitVec 12

/-- The 256-bit device key fused in the device (log entry 3). -/
opaque deviceKey : BitVec 256

/-- The manufacturer code in the boundary-scan identity (log entry 3). -/
opaque jep106 : BitVec 11

/-- The NCO table: the cosine of a 20-bit phase, 18-bit Q0.17 (R54; log entry 3). -/
opaque cosRom : Nat → Int

/-- The NCO table: the sine of a 20-bit phase, 18-bit Q0.17 (R54; log entry 3). -/
opaque sinRom : Nat → Int

/-- The coefficient of the decimate-by-4 and interpolate-by-4 filter at a distance from its centre, Q0.17 (R60; log entry
3). -/
opaque dec4Rom : Nat → Int

/-- The coefficient of a half-band filter of `taps` taps at an odd distance from its centre, Q0.17 (R60; log entry 3). -/
opaque hbRom : Nat → Nat → Int

/-- The resampler's ROM: phase and tap, 18-bit Q1.16 (R87; log entry 3). -/
opaque rsRom : Nat → Nat → Int

/-- The modelled leakage of one receive stream: for each path its effective taps (master copy) and the reference words under
them (R101, R103; log entry 10). -/
opaque leak : List (List (Int × Int) × List (Int × Int)) → Int × Int

/-- A tap's master copy after an update with step shift, tap, residual, reference word and window energy (R103, R106; log entry
10). -/
opaque nlmsTap : Nat → Int × Int → Int × Int → Int × Int → Nat → Int × Int

/-- C_dig of R112 in Q8.8 dB, from rank, bulk delay and the paths' effective taps (log entry 10). -/
opaque cdig : Nat → Nat → List (Nat × (Int × Int)) → Int

/-- C_res of R112 in Q8.8 dB, from rank, bulk delay, the accumulated gradients and the window energies (log entry 10). -/
opaque cres : Nat → Nat → List (Nat × (Int × Int)) → List (Nat × Nat) → Int

/-- Does the peak-to-mean ratio of the reference over the 64 estimate bins exceed 20 dB (R111; log entry 10)? -/
opaque refPeaky : List (List (Int × Int)) → Bool

/-- The amplitude of the pilot's I and Q in Q0.15 for a level in Q8.8 dB on the scale of R70 (R110; log entry 10). -/
opaque pilotAmp : Int → BitVec 15

/-- The state of the pilot's sequence at tick 0 of a frame; zero stands for one (R109; log entry 3). -/
opaque pilotSeed : BitVec 15

/-- Does a chip 0 of the pilot stand for a negative value (R109; log entry 3)? -/
opaque pilotSign : Bool

/-- The mantissa of the gain factor of a gain in Q8.8 dB: 2^16 plus this, in units of 2^-17 (R151; log entry 10). -/
opaque gainMant : Int → BitVec 16

/-- Ten times the logarithm of a sum of powers, each given in Q8.8 dB, as Q8.8 dB (R191, R300; log entry 10). -/
opaque dbSum : List Int → Int

/-- 10 log10(10^(x/10) - 1) of x in Q8.8 dB, as Q16.16 dB (R157; log entry 10). -/
opaque noiseRise : Int → Int

/-- A mantissa brought from one block exponent to another where the spec states no alignment (R128; log entry 10). -/
opaque align : Int → Int → Int → Int

/-- What a 48-bit accumulator lane holds when a sum does not fit it (R124; log entry 10). -/
opaque accOver : Int → Int

/-- The result of a scalar operation on operands of exponents for which the spec states none: operation, SA, SB, SD (R129; log
entry 10). -/
opaque scalar : Nat → Int × Int → Int × Int → Int × Int → Int × Int

/-- The ROM temperature model of a trim (0 offset, 1 gain, 2 skew of a slice; 3 gain, 4 offset of a DAC) at a temperature
difference in Q8.8 degrees, in trim LSB (R213; log entry 3). -/
opaque tempModel : Nat → Int → Int

end Sys2Proof.Config
end

