-- ==== Sys2Proof/Machine/RegMap.lean ====
section
/-! DEFINITION. The register map: every register page of Table 01-16 (R28) with its rows, access codes (Table 00-4, R10) and
reset values (R12), and a name `R.<REGISTER>_<FIELD>` for every field of every register table of the spec. -/

namespace Sys2Proof.Machine

/-- A field of a register: the register's offset in its page, the field's lowest bit and its width. -/
structure Fld where
  off : Nat
  lo : Nat
  w : Nat
  deriving DecidableEq, Repr

/-- One row of a page: a register, or an array of them with its strides and counts, its reset value (R12) and, for each
access code of Table 00-4, the mask of the bits that carry it. Bits in no mask are reserved (R11). -/
structure RegRow where
  off : Nat
  dims : List (Nat × Nat)
  reset : Nat
  rw : Nat
  ro : Nat
  w1c : Nat
  w1s : Nat
  wo : Nat
  rc : Nat
  rwc : Nat
  deriving DecidableEq, Repr

/-- The blocks of Table 01-16. -/
inductive Blk where
  | dev | frame | ch | eng | bench | adc | dac | syn | cal | fe | mon | bias | therm | prot | haul | qmgr | xlat | dma | irq | fault | recorder | obs | pin
  deriving DecidableEq, Repr

/-- One row of Table 01-16: a block, the address of its first page, its instances (0x1000 bytes apart), the bytes one
instance covers, its type code and its registers. -/
structure PageDef where
  blk : Blk
  base : Nat
  count : Nat
  span : Nat
  typ : Nat
  rows : List RegRow
  deriving DecidableEq, Repr

/-- Does the distance `d` from an array's first register fall on one of its registers? -/
def dimsHit : Nat → List (Nat × Nat) → Bool
  | d, [] => d == 0
  | d, (s, c) :: r => decide (d / s < c) && dimsHit (d % s) r

/-- The common page header (Table 15-3), with the reset value of EN. -/
def headerRows (en : Nat) : List RegRow := [
  ⟨0, [], 0, 0, 0xFFFFFFFF, 0, 0, 0, 0, 0⟩,
  ⟨4, [], 0, 0, 0x3FF07FF, 0, 0, 0, 0, 0⟩,
  ⟨8, [], en, 8, 0x10, 0, 6, 0, 0, 1⟩,
  ⟨0xC, [], 0, 0, 0x7FF, 0, 0, 0, 0, 0⟩,
  ⟨0x10, [], 0, 0, 0, 0xFFFFFFFF, 0, 0, 0, 0⟩,
  ⟨0x14, [], 0, 0xFFFFFFFF, 0, 0, 0, 0, 0, 0⟩,
  ⟨0x18, [], 0, 0, 0, 0, 0xFFFFFFFF, 0, 0, 0⟩,
  ⟨0x1C, [], 0, 0, 0, 0xFFFFFFFF, 0, 0, 0, 0⟩,
  ⟨0x20, [], 0, 0x7F, 0x80, 0, 0, 0, 0, 0⟩,
  ⟨0x24, [], 0, 0, 0x8FFFFFFF, 0, 0, 0, 0, 0⟩,
  ⟨0x28, [], 0, 0, 0xFFFFFFFF, 0, 0, 0, 0, 0⟩]

/-- Registers of the DEV pages. -/
def rowsDev : List RegRow := [
  ⟨0x40, [], 0, 0, 0x330, 0, 0, 0, 0, 3⟩,
  ⟨0x44, [], 0x11, 0, 0x30, 0, 0, 0, 0, 3⟩,
  ⟨0x48, [], 0, 0, 0xFD, 2, 0, 0, 0, 0⟩,
  ⟨0x4C, [], 0, 0, 0xFFFF0000, 0, 0, 0, 0xFFFF, 0⟩,
  ⟨0x50, [], 0, 0, 0xFFFFFFFF, 0, 0, 0, 0, 0⟩,
  ⟨0x54, [], 0, 0, 0xFFFFFFFF, 0, 0, 0, 0, 0⟩,
  ⟨0x58, [], 0, 0, 0xFFFF00FF, 0, 0, 0, 0, 0⟩,
  ⟨0x100, [], 0x3F0000, 0, 0, 0, 0, 0, 0, 0x33F1F1F⟩,
  ⟨0x104, [], 0, 0, 0, 0, 0, 0, 0, 0xFFFFFFFF⟩,
  ⟨0x108, [], 0x800, 0, 0, 0, 0, 0, 0, 0xFFF⟩,
  ⟨0x10C, [(4, 4)], 0, 0, 0, 0, 0, 0, 0, 0xFFFF⟩,
  ⟨0x120, [(4, 5)], 0xFFFF, 0, 0, 0, 0, 0, 0, 0x13FFFF⟩,
  ⟨0x140, [], 0x3008320A, 0, 0, 0, 0, 0, 0, 0xFFFFFFFF⟩,
  ⟨0x144, [], 0x1783C64, 0, 0, 0, 0, 0, 0, 0x7FFFFFF⟩,
  ⟨0x148, [], 4, 0, 0x3FF77, 0, 0, 0, 0, 0⟩,
  ⟨0x14C, [], 0, 0, 0xFFFFFFFF, 0, 0, 0, 0, 0⟩,
  ⟨0x150, [], 0, 0, 0, 0, 0, 0, 0xFFFFFFFF, 0⟩]

/-- Registers of the FRAME pages. -/
def rowsFrame : List RegRow := [
  ⟨0x40, [], 0x20A4000, 0, 0, 0, 0, 0, 0, 0xFFFFFFF⟩,
  ⟨0x44, [], 1, 0, 0, 0, 0, 0, 0, 0x7777⟩,
  ⟨0x48, [], 0, 0, 0x1FF0F77, 0, 0, 0, 0, 0⟩,
  ⟨0x4C, [], 0, 0, 0xFFFF, 0, 0, 0, 0, 0⟩,
  ⟨0x50, [], 0, 0, 0xFFFFFFFF, 0, 0, 0, 0, 0⟩,
  ⟨0x54, [], 0, 0, 0xFFFFFFFF, 0, 0, 0, 0, 0⟩,
  ⟨0x58, [], 0, 0, 0xFFFFFFFF, 0, 0, 0, 0, 0⟩,
  ⟨0x5C, [], 0, 0xFFFF03FF, 0, 0, 0, 0, 0, 0⟩,
  ⟨0x60, [], 0, 0, 0, 0, 0, 0, 0, 0xFFFF⟩,
  ⟨0x64, [], 0x34103E8, 0, 0, 0, 0, 0, 0, 0xFFFFFFFF⟩,
  ⟨0x68, [], 0x3E8, 0, 0, 0, 0, 0, 0, 0xFFFF⟩,
  ⟨0x6C, [], 0, 0, 0xFFFFFFFF, 0, 0, 0, 0, 0⟩,
  ⟨0x70, [], 0, 0, 0, 0, 0, 0, 0xFFFFFFFF, 0⟩,
  ⟨0x74, [], 0, 0, 0, 0, 0, 0, 0xFFFFFFFF, 0⟩,
  ⟨0x78, [], 0, 0, 0, 0, 0, 0, 0xFFFFFFFF, 0⟩,
  ⟨0x7C, [], 0, 0, 0, 0, 0, 0, 0xFFFFFFFF, 0⟩,
  ⟨0x80, [], 0, 0, 0, 0, 0, 0, 0xFFFFFFFF, 0⟩,
  ⟨0x84, [], 0, 0, 0xF7FFF, 0, 0, 0, 0, 0⟩,
  ⟨0x88, [], 0, 0, 0x7FFF, 0, 0, 0, 0, 0⟩,
  ⟨0xA0, [(8, 8)], 0x400000, 0, 0, 0, 0, 0, 0, 0x7FFFFF⟩,
  ⟨0xA4, [(8, 8)], 0, 0, 0, 0, 0, 0, 0, 0x3FFFF⟩]

/-- Registers of the CH pages, part 0. -/
def rowsCh0 : List RegRow := [
  ⟨0x40, [], 0x3000000, 0, 0, 0, 0, 0, 0, 0x37FFFF7⟩,
  ⟨0x44, [], 0, 0, 0xFF, 0, 0, 0, 0xFFFF0000, 0⟩,
  ⟨0x80, [], 0, 0, 0, 0, 0, 0, 0, 0xFFFFFFFF⟩,
  ⟨0x84, [], 0, 0, 0, 0, 0, 0, 0, 0xFFFF⟩,
  ⟨0x88, [], 0, 0, 0, 0, 0, 0, 0, 1⟩,
  ⟨0x8C, [(4, 4)], 0, 0, 0, 0, 0, 0, 0, 0xFFFFFFFF⟩,
  ⟨0x9C, [], 0, 0, 0, 0, 0, 0, 0, 0⟩,
  ⟨0xA0, [], 0, 0, 0, 0, 0, 0, 0, 7⟩,
  ⟨0xA4, [], 0, 0, 0xF3, 4, 0, 0, 0, 0⟩,
  ⟨0xA8, [(4, 4)], 0x80008000, 0, 0xFFFFFFFF, 0, 0, 0, 0, 0⟩,
  ⟨0xB8, [], 0, 0, 0, 0, 0, 0, 0xFFFFFFFF, 0⟩,
  ⟨0xBC, [], 0, 0, 0, 0, 0, 0, 0xFFFFFFFF, 0⟩,
  ⟨0xC0, [], 0, 0, 0xFFF, 0, 0, 0, 0, 0⟩,
  ⟨0xC4, [], 0, 0, 0, 0, 0, 0x1F, 0, 0⟩,
  ⟨0xC8, [], 0, 0xFFFF, 0, 0, 0, 0, 0, 0⟩,
  ⟨0xCC, [], 0, 0, 0, 0, 0, 0, 0xFFFFFF, 0⟩,
  ⟨0xD0, [], 0x40000000, 0, 0, 0, 0, 0, 0, 0xFFFFFFFF⟩,
  ⟨0xD4, [], 0, 0, 0, 0, 0, 0, 0, 0xFF⟩,
  ⟨0xD8, [], 0, 0, 0xFFFFFFFF, 0, 0, 0, 0, 0⟩,
  ⟨0xDC, [], 0, 0, 0, 0, 0, 0, 0, 1⟩,
  ⟨0xE0, [], 0, 0, 0, 0, 0, 0, 0, 0xFFFFFFFF⟩,
  ⟨0xE4, [], 0, 0, 0, 0, 0, 0, 0, 0xFFFF⟩,
  ⟨0xE8, [(4, 4)], 0, 0, 0, 0, 0, 0, 0, 0xFFFFFFFF⟩,
  ⟨0xF8, [], 0, 0, 0xFFFF, 0, 0, 0, 0, 0⟩]

/-- Registers of the CH pages, part 1. -/
def rowsCh1 : List RegRow := [
  ⟨0xFC, [], 0, 0, 0, 0, 0, 0, 0, 0⟩,
  ⟨0x100, [(4, 64)], 0, 0x3FFFF, 0, 0, 0, 0, 0, 0⟩,
  ⟨0x200, [(4, 64)], 0, 0x3FFFF, 0, 0, 0, 0, 0, 0⟩,
  ⟨0x300, [], 0, 0, 0xFFF0FFF, 0, 0, 0, 0, 0⟩,
  ⟨0x304, [], 0, 0, 0xFFF, 0, 0, 0, 0, 0⟩,
  ⟨0x308, [], 0x1E0F9631, 0, 0, 0, 0, 0, 0, 0xFFFFFFF1⟩,
  ⟨0x30C, [], 0, 0, 0, 0, 0, 0, 0, 0xFFFF⟩,
  ⟨0x310, [], 0, 0, 0x73F, 0xC0, 0, 0, 0, 0⟩,
  ⟨0x314, [], 0x80008000, 0, 0xFFFFFFFF, 0, 0, 0, 0, 0⟩,
  ⟨0x318, [], 0, 0, 0xFFFFFFFF, 0, 0, 0, 0, 0⟩,
  ⟨0x31C, [], 0x80008000, 0, 0xFFFFFFFF, 0, 0, 0, 0, 0⟩,
  ⟨0x320, [], 0xF00, 0, 0, 0, 0, 0, 0, 0xFFFF⟩,
  ⟨0x324, [], 0x8000, 0, 0, 0, 0, 0, 0, 0xFFFF⟩,
  ⟨0x328, [], 0x8000, 0, 0xFFFFFFFF, 0, 0, 0, 0, 0⟩,
  ⟨0x32C, [], 0xC4000C18, 0, 0, 0, 0, 0, 0, 0xFFFFFFFF⟩,
  ⟨0x330, [], 0xA00, 0, 0, 0, 0, 0, 0, 0x73F03⟩,
  ⟨0x334, [], 0, 0, 0, 0, 0, 0, 0, 0xFFFFF⟩,
  ⟨0x338, [], 0, 0, 0, 0, 0, 0, 0, 0xFFFFF⟩,
  ⟨0x33C, [], 0, 0, 0, 0, 0, 0, 0xFFFFFFFF, 0⟩,
  ⟨0x340, [], 0, 0, 0, 0, 0, 0, 0xFFFFFFFF, 0⟩,
  ⟨0x344, [], 0, 0, 0, 0, 0, 0, 0xFFFFFFFF, 0⟩,
  ⟨0x380, [], 0x813, 0, 0, 0, 0, 0, 0, 0xFF1F⟩,
  ⟨0x384, [], 0, 0, 0, 0, 0, 0, 0, 0xFFFFFFFF⟩,
  ⟨0x388, [], 0, 0, 0, 0, 0, 0, 0, 0xFFFF⟩]

/-- Registers of the CH pages, part 2. -/
def rowsCh2 : List RegRow := [
  ⟨0x38C, [], 0x80008000, 0, 0, 0, 0, 0, 0, 0xFFFFFFFF⟩,
  ⟨0x390, [], 0x80C, 0, 0, 0, 0, 0, 0, 0xFFFF⟩,
  ⟨0x394, [], 0x100, 0, 0, 0, 0, 0, 0, 0xFFFFFFFF⟩,
  ⟨0x398, [], 0x8000, 0, 0, 0, 0, 0, 0, 0xFFFF⟩,
  ⟨0x39C, [], 0, 0, 0, 0, 3, 0, 0, 0⟩,
  ⟨0x3A0, [], 0, 0, 0x3F0F07, 0, 0, 0, 0, 0⟩,
  ⟨0x3A4, [], 0x80008000, 0, 0xFFFFFFFF, 0, 0, 0, 0, 0⟩,
  ⟨0x3A8, [], 0x80008000, 0, 0xFFFFFFFF, 0, 0, 0, 0, 0⟩,
  ⟨0x3AC, [], 0x80008000, 0, 0xFFFFFFFF, 0, 0, 0, 0, 0⟩,
  ⟨0x3B0, [], 0, 0, 0xFFFFFFFF, 0, 0, 0, 0, 0⟩,
  ⟨0x3B4, [], 0, 0, 0, 0, 0, 0, 0xFFFFFFFF, 0⟩,
  ⟨0x3B8, [], 0, 0, 0, 0, 0, 0, 0xFFFFFFFF, 0⟩,
  ⟨0x3BC, [], 0x100100, 0, 0, 0, 0, 0, 0, 0xFFFFFF⟩,
  ⟨0x400, [(16, 64)], 0, 0, 0, 0, 0, 0, 0, 0xFFFFFFFF⟩,
  ⟨0x404, [(16, 64)], 0, 0, 0, 0, 0, 0, 0, 0xFFFFFFFF⟩,
  ⟨0x408, [(16, 64)], 0, 0, 0, 0, 0, 0, 0, 0xFFFFFFFF⟩,
  ⟨0x40C, [(16, 64)], 0, 0, 0, 0, 0, 0, 0, 0x80FFFFFF⟩]

/-- Registers of the ENG pages. -/
def rowsEng : List RegRow := [
  ⟨0x40, [], 0, 0, 0xFF1F3, 0, 0, 0, 0, 0⟩,
  ⟨0x44, [], 0, 0, 0, 0, 7, 0, 0, 0⟩,
  ⟨0x48, [], 0, 0xFFFFFFFF, 0, 0, 0, 0, 0, 0⟩,
  ⟨0x4C, [], 0, 0xFFFFFFFF, 0, 0, 0, 0, 0, 0⟩,
  ⟨0x50, [], 0, 0, 0xFFFFFFFF, 0, 0, 0, 0, 0⟩,
  ⟨0x54, [], 0, 0, 0xFFFFFFFF, 0, 0, 0, 0, 0⟩,
  ⟨0x58, [], 0, 0, 0x7FFFFF, 0, 0, 0, 0, 0⟩,
  ⟨0x5C, [], 0, 0, 0xFFFFFFFF, 0, 0, 0, 0, 0⟩,
  ⟨0x60, [], 0, 0, 0x1FFFF01, 0, 0, 0, 0, 0⟩,
  ⟨0x64, [], 0, 0, 0xFFFFFFFF, 0, 0, 0, 0, 0⟩,
  ⟨0x68, [], 0, 0, 0, 0, 0, 0, 0xFFFFFFFF, 0⟩,
  ⟨0x6C, [], 0, 0, 0, 0, 0, 0, 0xFFFFFFFF, 0⟩,
  ⟨0x70, [], 0, 0, 0, 0, 0, 0, 0xFFFFFFFF, 0⟩,
  ⟨0x74, [], 0, 0, 0, 0xFFFFFFFF, 0, 0, 0, 0⟩,
  ⟨0x78, [], 0, 0, 0, 0xFFFFFFFF, 0, 0, 0, 0⟩,
  ⟨0x7C, [], 0, 0x3FF, 0x1FF0000, 0, 0, 0, 0, 0⟩,
  ⟨0x80, [], 0, 0, 0, 0, 0, 0, 0, 0xFFFF0031⟩,
  ⟨0x800, [(4, 512)], 0, 0, 0xFFFFFFFF, 0, 0, 0, 0, 0⟩]

/-- Registers of the BENCH pages. -/
def rowsBench : List RegRow := [
  ⟨0x40, [], 0, 0, 0, 0, 0, 0, 0, 0xF⟩,
  ⟨0x44, [], 0xFF, 0, 0, 0, 0, 0, 0, 0xFF⟩,
  ⟨0x48, [], 0, 0, 0xFFFF, 0, 0, 0, 0, 0⟩,
  ⟨0x4C, [], 0, 0, 0, 0, 0, 0, 0xFFFFFFFF, 0⟩,
  ⟨0x50, [], 0, 0, 0, 0, 0, 0, 0xFFFFFFFF, 0⟩]

/-- Registers of the ADC pages. -/
def rowsAdc : List RegRow := [
  ⟨0x40, [], 3, 0, 0, 0, 0, 0, 0, 3⟩,
  ⟨0x44, [], 0x3E8, 0, 0, 0, 0, 0, 0, 0xFFFF⟩,
  ⟨0x48, [], 0x10, 0, 0x70F1F, 0, 0, 0, 0, 0⟩,
  ⟨0x4C, [], 0x80000000, 0, 0xFFFFFFFF, 0, 0, 0, 0, 0⟩,
  ⟨0x50, [(4, 3)], 0, 0, 0x3FFFFFFF, 0, 0, 0, 0, 0⟩,
  ⟨0x60, [(4, 17)], 0, 0, 0xFFFFFFFF, 0, 0, 0, 0, 0⟩,
  ⟨0xA4, [], 0, 0, 0, 0, 0, 0, 0xFFFFFFFF, 0⟩,
  ⟨0xA8, [], 0, 0, 0xFFFF0000, 0, 0, 0, 0xFFFF, 0⟩,
  ⟨0x800, [], 0, 0, 0x1FF, 0, 0, 0, 0, 0⟩,
  ⟨0x804, [], 0, 0, 0x7FFFFF, 0, 0, 0, 0, 0⟩,
  ⟨0x808, [], 0, 0, 0x303FF, 0, 0, 0, 0, 0⟩,
  ⟨0x80C, [], 0, 0, 0, 0, 0, 0, 0xFFFFFFFF, 0⟩,
  ⟨0x810, [], 0, 0, 0, 0, 0, 0, 0xFFFF, 0⟩]

/-- Registers of the DAC pages. -/
def rowsDac : List RegRow := [
  ⟨0x40, [], 1, 0, 0, 0, 0, 0, 0, 1⟩,
  ⟨0x44, [], 0, 0, 0xFFFFFF, 0, 0, 0, 0, 0⟩,
  ⟨0x800, [], 0, 0, 0x1FF, 0, 0, 0, 0, 0⟩,
  ⟨0x804, [], 0, 0, 0x7FFFFF, 0, 0, 0, 0, 0⟩,
  ⟨0x808, [], 0, 0, 0x303FF, 0, 0, 0, 0, 0⟩,
  ⟨0x80C, [], 0, 0, 0, 0, 0, 0, 0xFFFFFFFF, 0⟩,
  ⟨0x810, [], 0, 0, 0, 0, 0, 0, 0xFFFF, 0⟩,
  ⟨0x820, [], 0, 0, 0, 0, 0, 0, 0, 7⟩,
  ⟨0x824, [], 0, 0, 0, 0, 0, 0, 0xFFFFFFFF, 0⟩,
  ⟨0x830, [], 0xEC000000, 0, 0, 0, 0, 0, 0, 0xFFFFFFFF⟩,
  ⟨0x834, [], 0x200000, 0, 0, 0, 0, 0, 0, 0xFFFFFF⟩,
  ⟨0x838, [], 0x8000, 0, 0xFFFFFFFF, 0, 0, 0, 0, 0⟩,
  ⟨0x83C, [], 0, 0, 0, 0, 0, 0, 0xFFFF, 0⟩]

/-- Registers of the SYN pages. -/
def rowsSyn : List RegRow := [
  ⟨0x40, [], 0, 0, 0, 0, 2, 0, 0, 1⟩,
  ⟨0x44, [], 0, 0, 0xFF03F7, 0, 0, 0, 0, 0⟩,
  ⟨0x48, [], 0, 0, 0xFFFF, 0, 0, 0, 0, 0⟩,
  ⟨0x4C, [], 0, 0, 0, 0, 0, 0, 0xFFFFFFFF, 0⟩]

/-- Registers of the CAL pages. -/
def rowsCal : List RegRow := [
  ⟨0x40, [], 0, 0x10, 0, 0, 0xF, 0, 0, 0⟩,
  ⟨0x44, [], 0xFFFF, 0xFFFF, 0, 0, 0, 0, 0, 0⟩,
  ⟨0x48, [], 0, 0, 0xFFFF07F7, 0, 0, 0, 0, 0⟩,
  ⟨0x4C, [], 0x1900, 0, 0xFFFF, 0, 0, 0, 0, 0⟩,
  ⟨0x50, [], 0, 0, 0xFFFFFFFF, 0, 0, 0, 0, 0⟩,
  ⟨0x54, [], 0, 0xFFFFFFFF, 0, 0, 0, 0, 0, 0⟩,
  ⟨0x1000, [(640, 8)], 0, 0, 0, 0, 0, 0, 0, 0x3FFFF⟩,
  ⟨0x1004, [(640, 8)], 0, 0, 0, 0, 0, 0, 0, 0xFFFFFFFF⟩,
  ⟨0x1008, [(640, 8)], 0, 0, 0, 0, 0, 0, 0, 0⟩,
  ⟨0x100C, [(640, 8)], 0, 0, 0, 0, 0, 0, 0, 0⟩,
  ⟨0x1010, [(640, 8), (4, 136)], 0, 0, 0, 0, 0, 0, 0, 0xFFFFFFFF⟩,
  ⟨0x1230, [(640, 8), (4, 8)], 0, 0, 0, 0, 0, 0, 0, 0xFFFFFF⟩,
  ⟨0x1250, [(640, 8), (4, 12)], 0, 0, 0, 0, 0, 0, 0, 0⟩]

/-- Registers of the FE pages. -/
def rowsFe : List RegRow := [
  ⟨0x40, [(16, 4)], 0, 0, 0, 0, 0, 0, 0, 0xFFFFF3F⟩,
  ⟨0x44, [(16, 4)], 0, 0, 0xFFFF, 0, 0, 0, 0, 0⟩,
  ⟨0x48, [(16, 4)], 0, 0, 0, 0, 0, 0, 0xFFFFFFFF, 0⟩,
  ⟨0x4C, [(16, 4)], 0, 0, 0xFFFFF, 0, 0, 0, 0, 0⟩,
  ⟨0x1000, [(256, 4)], 0xBE, 0, 0, 0, 0, 0, 0, 0x3FF⟩,
  ⟨0x1004, [(256, 4)], 0, 0xFFFFF37, 0, 0, 0x80000000, 0, 0, 0⟩,
  ⟨0x1008, [(256, 4)], 0, 0xFFFFFFFF, 0, 0, 0, 0, 0, 0⟩,
  ⟨0x100C, [(256, 4)], 0, 0, 0x3F01, 2, 0, 0, 0, 0⟩,
  ⟨0x1010, [(256, 4)], 0, 0, 0, 0, 0, 0, 0xFFFFFFFF, 0⟩,
  ⟨0x2000, [(4, 48)], 0, 0, 0, 0, 0, 0, 0, 0x7F⟩,
  ⟨0x20C0, [], 0, 0xFFFFFFFF, 0, 0, 0, 0, 0, 0⟩,
  ⟨0x20C4, [], 0, 0xFFFF, 0, 0, 0, 0, 0, 0⟩,
  ⟨0x20C8, [], 0, 0, 0xFFFFFFFF, 0, 0, 0, 0, 0⟩,
  ⟨0x20CC, [], 0, 0, 0xFFFF, 0, 0, 0, 0, 0⟩,
  ⟨0x20D0, [], 0, 0, 0, 0, 0, 0, 0xFFFF, 0⟩,
  ⟨0x3000, [], 0x100000, 0, 0, 0, 0, 0, 0, 0x3FFFFF⟩,
  ⟨0x3004, [], 0, 0, 0, 0, 0, 0, 0xFFFFFFFF, 0⟩,
  ⟨0x3800, [(8, 256)], 0, 0, 0, 0, 0, 0, 0, 0xFFFFFFFF⟩,
  ⟨0x3804, [(8, 256)], 0, 0, 0, 0, 0, 0, 0, 0xFFFFFFFF⟩,
  ⟨0x4000, [(576, 4), (64, 9), (8, 8)], 0, 0, 0, 0, 0, 0, 0, 0xFFFFFFFF⟩,
  ⟨0x4004, [(576, 4), (64, 9), (8, 8)], 0, 0, 0, 0, 0, 0, 0, 0xFFFFFFFF⟩,
  ⟨0x5000, [(36, 4), (4, 9)], 0, 0, 0xFFFFF, 0, 0, 0, 0, 0⟩]

/-- Registers of the MON pages. -/
def rowsMon : List RegRow := [
  ⟨0x40, [], 8, 0, 0, 0, 0, 0, 0, 0x3FFF⟩,
  ⟨0x44, [], 4, 0, 0xFF7FF, 0, 0, 0, 0, 0⟩,
  ⟨0x48, [], 0, 0, 0, 0, 0x80000000, 0xF, 0, 0⟩,
  ⟨0x4C, [], 0, 0, 0, 0, 0, 0, 0, 0xFFFF⟩,
  ⟨0x50, [], 0, 0, 0, 0, 0, 0, 0, 0xFFFF⟩,
  ⟨0x54, [], 0, 0, 0, 0, 0, 0, 0, 0xFFFFFFFF⟩,
  ⟨0x58, [], 0, 0, 0, 0, 0, 0, 0, 0xFFFFFFFF⟩,
  ⟨0x5C, [], 0, 0, 0, 0, 0, 0, 0, 0xFFFFFFFF⟩,
  ⟨0x60, [], 0, 0, 0, 0, 0, 0, 0, 0xFFFFFFFF⟩,
  ⟨0x64, [], 0, 0, 0, 0, 0, 0, 0, 0x7F7F⟩,
  ⟨0x68, [], 0, 0, 0, 0, 0, 0, 0, 0xFFFFFFFF⟩,
  ⟨0x6C, [(4, 4)], 0xFF0, 0, 0, 0x10000, 0, 0, 0, 0xFFFF⟩,
  ⟨0x7C, [], 0, 0, 0, 0, 0, 0, 0xFFFFFFFF, 0⟩,
  ⟨0x80, [], 0, 0, 0, 0, 0, 0, 0xFFFFFFFF, 0⟩,
  ⟨0x84, [], 0, 0, 0, 0, 0, 0, 0xFFFFFFFF, 0⟩,
  ⟨0x90, [], 0, 0x100, 0, 0, 0, 0, 0, 0xF3⟩,
  ⟨0x94, [], 0, 0, 0, 0, 0, 0, 0, 0xFFFFFFFF⟩,
  ⟨0x98, [], 0, 0, 0, 0, 0, 0, 0, 0xFFFF⟩,
  ⟨0x9C, [], 0, 0, 0xFFFFFF, 0, 0, 0, 0, 0⟩,
  ⟨0xA0, [], 0, 0xFFFFFF, 0, 0, 0, 0, 0, 0⟩,
  ⟨0x100, [(4, 32)], 0, 0, 0x3FF7FFF, 0, 0, 0, 0, 0⟩]

/-- Registers of the BIAS pages. -/
def rowsBias : List RegRow := [
  ⟨0x40, [], 0, 0, 0, 0, 0, 0, 0, 0x133⟩,
  ⟨0x44, [], 0, 0xFFFF, 0, 0, 0, 0, 0, 0⟩,
  ⟨0x48, [], 0x10000, 0, 0x39FFFF, 0x60000, 0, 0, 0, 0⟩,
  ⟨0x4C, [], 0, 0, 0, 0, 0, 0, 0xFFFFFFFF, 0⟩,
  ⟨0x80, [], 0, 0, 0, 0, 0xF, 0, 0, 0⟩,
  ⟨0x84, [], 0, 0, 0, 0, 0, 0, 0, 0xF⟩]

/-- Registers of the THERM pages. -/
def rowsTherm : List RegRow := [
  ⟨0x40, [], 0x736E6964, 0, 0, 0, 0, 0, 0, 0xFFFFFFFF⟩,
  ⟨0x44, [], 0x7D78, 0, 0xFF00, 0, 0, 0, 0, 0xFF⟩,
  ⟨0x48, [], 0x8000, 0, 0x1FFFFF, 0, 0, 0, 0, 0⟩,
  ⟨0x4C, [], 0, 0, 0x3FF, 0, 0, 0, 0, 0⟩,
  ⟨0x50, [], 0, 0, 0x1FF, 0, 0, 0, 0, 0⟩,
  ⟨0x54, [], 0, 0, 0, 0, 0, 0x1FE, 0, 0⟩,
  ⟨0x58, [], 0, 0, 0, 0, 0, 0, 0xFFFFFFFF, 0⟩,
  ⟨0x80, [(16, 8)], 0x3C7F00, 0, 0, 0, 0, 0, 0, 0xFFFF3F⟩,
  ⟨0x84, [(16, 8)], 0x7F7F7F7F, 0, 0, 0, 0, 0, 0, 0xFFFFFFFF⟩,
  ⟨0x88, [(16, 8)], 0xFFF0000, 0, 0, 0, 0, 0, 0, 0xFFF0FFF⟩,
  ⟨0x8C, [(16, 8)], 0x8000, 0, 0x1FFFFF, 0, 0, 0, 0, 0⟩,
  ⟨0x200, [(80, 8), (4, 17)], 0, 0, 0, 0, 0, 0, 0, 0xFFFF⟩]

/-- Registers of the PROT pages. -/
def rowsProt : List RegRow := [
  ⟨0x40, [], 0x4007, 0, 0, 0, 0, 0, 0, 0xF107⟩,
  ⟨0x44, [], 0x2D040828, 0, 0, 0, 0, 0, 0, 0xFFFFFFFF⟩,
  ⟨0x48, [], 0x30204, 0, 0, 0, 0, 0, 0, 0xFFFFFF⟩,
  ⟨0x4C, [], 0x258, 0, 0, 0, 0, 0, 0, 0xFFF⟩,
  ⟨0x50, [], 0x30C18, 0, 0, 0, 0, 0, 0, 0x7FFFF⟩,
  ⟨0x54, [], 0x8000, 0, 0, 0, 0, 0, 0, 0xFFFFF⟩,
  ⟨0x58, [(4, 6)], 0, 0, 0, 0, 0, 0, 0, 0xFFFFFFFF⟩,
  ⟨0x70, [], 0, 0, 0xFFFF, 0, 0, 0, 0, 0⟩,
  ⟨0x74, [], 0, 0, 0xFFFFFFFF, 0, 0, 0, 0, 0⟩,
  ⟨0x78, [], 0, 0, 0xFFFF, 0, 0, 0, 0, 0⟩,
  ⟨0x7C, [], 0, 0, 0, 0, 0, 0x1FFF, 0, 0⟩,
  ⟨0x80, [], 0, 0, 0, 0x7FF, 0, 0, 0, 0⟩,
  ⟨0x84, [], 0, 0, 0, 0, 0, 0, 0xFFFFFFFF, 0⟩,
  ⟨0x88, [], 0, 0, 0, 0, 0, 0, 0xFFFFFFFF, 0⟩,
  ⟨0x8C, [], 0, 0, 0, 0, 0, 0, 0xFFFFFFFF, 0⟩,
  ⟨0x90, [], 0x7FFF7FFF, 0, 0xFFFFFFFF, 0, 0, 0, 0, 0⟩,
  ⟨0x94, [], 0x14, 0, 0, 0, 0, 0, 0, 0xFF⟩,
  ⟨0x400, [(8, 192)], 0, 0, 0xFFFF03FF, 0, 0, 0, 0, 0⟩,
  ⟨0x404, [(8, 192)], 0x80008000, 0, 0xFFFFFFFF, 0, 0, 0, 0, 0⟩]

/-- Registers of the HAUL pages. -/
def rowsHaul : List RegRow := [
  ⟨0x40, [], 0, 0, 0, 0, 0, 0, 0, 3⟩,
  ⟨0x44, [], 0, 0, 0x1F7, 0, 0, 0, 0, 0⟩,
  ⟨0x48, [], 0xFFFF, 0, 0xFFFFFF, 0, 0, 0, 0, 0⟩,
  ⟨0x4C, [], 0, 0, 0, 0, 0, 0, 0, 0xFFFFFF⟩,
  ⟨0x50, [], 0, 0, 0xFFFFFF, 0, 0, 0, 0, 0⟩,
  ⟨0x54, [], 0, 0, 0xFFF0FFF, 0, 0, 0, 0, 0⟩,
  ⟨0x58, [], 0, 0, 0, 0, 0, 0, 0, 0xFFFF⟩,
  ⟨0x5C, [], 0, 0, 0xFFFFFFFF, 0, 0, 0, 0, 0⟩,
  ⟨0x60, [], 0, 0, 0xFFFFFF, 0, 0, 0, 0, 0⟩,
  ⟨0x64, [], 0, 0, 0xFFF0FFF, 0, 0, 0, 0, 0⟩,
  ⟨0x68, [], 0, 0, 0xFFFFFFFF, 0, 0, 0, 0, 0⟩,
  ⟨0x6C, [], 0, 0, 0, 0, 0, 0, 0xFFFFFFFF, 0⟩,
  ⟨0x70, [], 0, 0, 0, 0, 0, 0, 0xFFFFFFFF, 0⟩,
  ⟨0x74, [], 0, 0, 0, 0, 0, 0, 0xFFFFFFFF, 0⟩,
  ⟨0x78, [], 0, 0, 0, 0, 0, 0, 0xFFFFFFFF, 0⟩,
  ⟨0x7C, [], 0, 0, 0x1FFFFF, 0, 0, 0, 0, 0⟩,
  ⟨0x100, [], 0, 4, 0, 0, 0xA, 0, 0, 1⟩,
  ⟨0x104, [], 0xFFFF0000, 0, 0xFFFFF7FF, 0, 0, 0, 0, 0⟩,
  ⟨0x108, [], 0, 0, 0x1FFFF, 0, 0, 0, 0xFF000000, 0⟩,
  ⟨0x10C, [], 0, 0xFFFFFFFF, 0, 0, 0, 0, 0, 0⟩,
  ⟨0x110, [], 0, 0xFFFF0003, 0xFF00, 0, 0, 0, 0, 0⟩,
  ⟨0x400, [(4, 192)], 0, 0, 0x1FF0000, 0, 0, 0, 0, 0xFFFF⟩]

/-- Registers of the QMGR pages. -/
def rowsQmgr : List RegRow := [
  ⟨0x40, [], 0, 0, 0, 0, 0, 0, 0, 1⟩,
  ⟨0x44, [], 0, 0, 0, 0, 0, 0, 0, 0xFFFFFFFF⟩,
  ⟨0x48, [], 0, 0, 0, 0, 0, 0, 0, 0xFFFF⟩,
  ⟨0x4C, [], 0, 0, 0, 0, 0, 0, 0, 0x1FFFF⟩,
  ⟨0x50, [], 0, 0, 0, 0, 0, 0xFFFFF, 0, 0⟩,
  ⟨0x54, [], 0x64, 0, 0, 0, 0, 0, 0, 0xFFFF⟩,
  ⟨0x58, [], 0, 0, 0x1FFF0001, 0, 0, 0, 0, 0⟩,
  ⟨0x5C, [], 0, 0, 0, 0, 0, 0, 0xFFFFFFFF, 0⟩,
  ⟨0x60, [], 0, 0, 0, 0, 0, 0, 0xFFFFFFFF, 0⟩,
  ⟨0x64, [], 0, 0, 0, 0, 0, 0, 0xFFFFFFFF, 0⟩,
  ⟨0x68, [], 0, 0, 0, 0, 0, 0, 0xFFFF, 0⟩,
  ⟨0x6C, [], 0, 0, 0xF0FFFFF, 0, 0, 0, 0, 0⟩]

/-- Registers of the XLAT pages. -/
def rowsXlat : List RegRow := [
  ⟨0x40, [], 0, 0, 0, 0, 0, 0, 0, 1⟩,
  ⟨0x44, [], 0, 0, 0, 0, 0, 0, 0, 0xFFFFF000⟩,
  ⟨0x48, [], 0, 0, 0, 0, 0, 0, 0, 0xFFFFFFFF⟩,
  ⟨0x4C, [], 0, 0, 0, 0, 0, 0, 0, 0x1F⟩,
  ⟨0x50, [], 0, 0xFFFFF000, 0, 0, 0, 0, 0, 0⟩,
  ⟨0x54, [], 0, 0xFFFF, 0, 0, 0, 0, 0, 0⟩,
  ⟨0x58, [], 0xC, 0x13F, 0, 0, 0x80000000, 0, 0, 0⟩,
  ⟨0x5C, [], 0, 0, 0x17F, 0x200, 0, 0, 0, 0⟩,
  ⟨0x60, [(4, 4)], 0, 0, 0xFFFFFFFF, 0, 0, 0, 0, 0⟩,
  ⟨0x70, [], 0, 0, 0, 0, 0, 0, 0xFFFFFFFF, 0⟩,
  ⟨0x74, [], 0, 0, 0, 0, 0, 0, 0xFFFF, 0⟩]

/-- Registers of the DMA pages. -/
def rowsDma : List RegRow := [
  ⟨0x40, [], 0x30, 0, 0, 0, 7, 0, 0, 0x730⟩,
  ⟨0x44, [], 0x10000, 0, 0x1FF7F, 0, 0, 0, 0, 0⟩,
  ⟨0x48, [], 0, 0xFFFFFFFF, 0, 0, 0, 0, 0, 0⟩,
  ⟨0x4C, [], 0, 0xFFFFFFFF, 0, 0, 0, 0, 0, 0⟩,
  ⟨0x50, [], 0, 0xFFFFFFFF, 0, 0, 0, 0, 0, 0⟩,
  ⟨0x54, [], 0, 0xFFFFFFFF, 0, 0, 0, 0, 0, 0⟩,
  ⟨0x58, [], 0, 0xFFFFFFFF, 0, 0, 0, 0, 0, 0⟩,
  ⟨0x5C, [], 0, 3, 0, 0, 0, 0, 0, 0⟩,
  ⟨0x60, [], 0, 0xFFFFFFFF, 0, 0, 0, 0, 0, 0⟩,
  ⟨0x64, [], 0, 0xFFFFFFFF, 0, 0, 0, 0, 0, 0⟩,
  ⟨0x68, [], 0, 0, 0x3FFFFFF, 0, 0, 0, 0, 0⟩,
  ⟨0x6C, [], 0, 0, 0xFFFFFFFF, 0, 0, 0, 0, 0⟩,
  ⟨0x70, [], 0, 0, 0, 0, 0, 0xFFFFFFFF, 0, 0⟩,
  ⟨0x74, [], 0, 0, 0, 0, 0, 0, 0, 0xFFFFFFFF⟩,
  ⟨0x78, [], 0, 0, 0, 0, 0, 0, 0, 0xFFFFFFFF⟩,
  ⟨0x7C, [], 0, 0, 0, 0, 0, 0, 0, 0xF⟩,
  ⟨0x80, [], 0, 0, 0xFFFFFF, 0, 0, 0, 0, 0⟩,
  ⟨0x84, [], 0, 0xFFFFFF, 0, 0, 0, 0, 0, 0⟩,
  ⟨0x88, [], 0, 0x1000, 0, 0, 0, 0, 0, 0xFFF⟩,
  ⟨0x8C, [(4, 3)], 0, 0, 0, 0, 0, 0, 0, 0xFFFFFFFF⟩,
  ⟨0x98, [], 0, 0, 0, 0, 0, 0, 0xFFFFFFFF, 0⟩]

/-- Registers of the IRQ pages. -/
def rowsIrq : List RegRow := [
  ⟨0x40, [], 0, 1, 0, 0, 0, 0, 0, 0⟩,
  ⟨0x44, [], 0, 0, 5, 2, 0, 0, 0, 0⟩,
  ⟨0x48, [], 0, 0, 0, 0, 0, 0x3F, 0, 0⟩,
  ⟨0x4C, [], 0xFFFFFFFF, 0, 0xFFFFFFFF, 0, 0, 0, 0, 0⟩,
  ⟨0x50, [], 0xFFFFFFFF, 0, 0xFFFFFFFF, 0, 0, 0, 0, 0⟩,
  ⟨0x80, [(4, 32)], 0x101, 0x13F, 0, 0, 0, 0, 0, 0⟩,
  ⟨0x100, [(4, 32)], 0, 0, 0xFFFFFFFF, 0, 0, 0, 0, 0⟩,
  ⟨0x800, [(4, 256)], 0, 0xFFFFFFFF, 0, 0, 0, 0, 0, 0⟩,
  ⟨0xC00, [(4, 2)], 0, 0, 0xFFFFFFFF, 0, 0, 0, 0, 0⟩]

/-- Registers of the FAULT pages. -/
def rowsFault : List RegRow := [
  ⟨0x40, [], 0, 0, 0xFFF, 0, 0, 0, 0, 0⟩,
  ⟨0x44, [], 0, 0, 0, 0, 1, 0, 0, 0⟩,
  ⟨0x48, [], 0, 0, 0, 0, 0, 0, 0xFFFFFFFF, 0⟩,
  ⟨0x80, [(4, 8)], 0, 0, 0, 0xFFFFFFFF, 0, 0, 0, 0⟩,
  ⟨0x100, [(8, 32)], 0, 0, 0x7FFFFFF, 0x80000000, 0, 0, 0, 0⟩,
  ⟨0x104, [(8, 32)], 0, 0, 0xFFFFFFFF, 0, 0, 0, 0, 0⟩,
  ⟨0x400, [(4, 256)], 0, 0, 0x1F3000, 0, 0, 0, 0, 0x31F⟩,
  ⟨0x800, [(4, 64)], 0, 0, 0, 0, 0, 0, 0xFFFFFFFF, 0⟩]

/-- Registers of the REC pages. -/
def rowsRec : List RegRow := [
  ⟨0x40, [], 0x500, 0x70, 0, 0, 7, 0, 0, 0x700⟩,
  ⟨0x44, [], 0, 0, 0x1FFFF7F, 0, 0, 0, 0, 0⟩,
  ⟨0x48, [], 0, 0, 0xFFFFFFFF, 0, 0, 0, 0, 0⟩,
  ⟨0x4C, [], 0, 0, 0xFF, 0, 0, 0, 0, 0⟩,
  ⟨0x50, [], 0, 0, 0xFFFFFFFF, 0, 0, 0, 0, 0⟩,
  ⟨0x54, [], 0, 0, 0xFFFFFFFF, 0, 0, 0, 0, 0⟩,
  ⟨0x58, [], 0, 0, 0xFFFFFFFF, 0, 0, 0, 0, 0⟩,
  ⟨0x5C, [], 0, 0, 0xFFFFFFFF, 0, 0, 0, 0, 0⟩,
  ⟨0x60, [], 0, 0, 0xFFFFFFFF, 0, 0, 0, 0, 0⟩,
  ⟨0x64, [], 0xA, 0, 0, 0, 0, 0, 0, 0xFF⟩,
  ⟨0x70, [], 0, 0, 0, 0, 0, 0xF, 0, 0⟩,
  ⟨0x80, [(4, 8)], 0, 0, 0, 0, 0, 0xFFFFFFFF, 0, 0⟩,
  ⟨0xC0, [(4, 16)], 0, 0, 0xFFFFFFFF, 0, 0, 0, 0, 0⟩,
  ⟨0x400, [(8, 256)], 0, 0, 0, 0, 0, 0, 0, 0xFFFFFFFF⟩,
  ⟨0x404, [(8, 256)], 0, 0, 0, 0, 0, 0, 0, 0x800003FF⟩]

/-- Registers of the OBS pages. -/
def rowsObs : List RegRow := [
  ⟨0x40, [], 2, 0, 0, 0, 0, 0, 0, 0xF7⟩,
  ⟨0x44, [], 0x7FF0000, 0, 0, 0, 0, 0, 0, 0x7FF07FF⟩,
  ⟨0x48, [(4, 3)], 0, 0, 0, 0, 0, 0, 0, 0xFFFFFFFF⟩,
  ⟨0x54, [], 0, 0, 0x7FF, 0, 0, 0, 0, 0⟩,
  ⟨0x58, [], 0, 0, 0, 0, 0, 0, 0xFFFFFFFF, 0⟩,
  ⟨0x5C, [], 0, 1, 0, 0, 2, 0, 0, 0⟩,
  ⟨0x1000, [(8, 2048)], 0, 0, 0xFFFFFFFF, 0, 0, 0, 0, 0⟩,
  ⟨0x1004, [(8, 2048)], 0, 0, 0xFFFF, 0, 0, 0, 0, 0⟩]

/-- Registers of the PIN pages. -/
def rowsPin : List RegRow := [
  ⟨0x40, [], 0, 0, 0x1F, 0, 0, 0, 0, 0⟩,
  ⟨0x44, [], 0, 0, 0x3FFF, 0, 0, 0, 0, 0⟩,
  ⟨0x48, [], 0, 0, 0xFF, 0xFF0000, 0, 0, 0, 0⟩,
  ⟨0x4C, [], 0x15, 0x3F, 0, 0, 0, 0, 0, 0⟩,
  ⟨0x400, [(4, 96)], 0, 0, 0x8003FFFF, 0, 0, 0, 0, 0⟩]

/-- Table 01-16, row by row (R28). The event table window has no page and stands apart. -/
def pageDefs : List PageDef := [
  ⟨.dev, 0x0, 1, 0x1000, 0x01, headerRows 1 ++ rowsDev⟩,
  ⟨.frame, 0x1000, 1, 0x1000, 0x02, headerRows 0 ++ rowsFrame⟩,
  ⟨.ch, 0x100000, 192, 0x1000, 0x10, headerRows 0 ++ rowsCh0 ++ rowsCh1 ++ rowsCh2⟩,
  ⟨.eng, 0x200000, 96, 0x1000, 0x11, headerRows 0 ++ rowsEng⟩,
  ⟨.bench, 0x280000, 12, 0x1000, 0x12, headerRows 0 ++ rowsBench⟩,
  ⟨.adc, 0x300000, 8, 0x1000, 0x20, headerRows 0 ++ rowsAdc⟩,
  ⟨.dac, 0x308000, 8, 0x1000, 0x21, headerRows 0 ++ rowsDac⟩,
  ⟨.syn, 0x310000, 2, 0x1000, 0x22, headerRows 0 ++ rowsSyn⟩,
  ⟨.cal, 0x312000, 1, 0x3000, 0x23, headerRows 0 ++ rowsCal⟩,
  ⟨.fe, 0x320000, 1, 0x20000, 0x30, headerRows 0 ++ rowsFe⟩,
  ⟨.mon, 0x340000, 1, 0x10000, 0x31, headerRows 0 ++ rowsMon⟩,
  ⟨.bias, 0x350000, 16, 0x1000, 0x32, headerRows 0 ++ rowsBias⟩,
  ⟨.therm, 0x360000, 1, 0x1000, 0x33, headerRows 1 ++ rowsTherm⟩,
  ⟨.prot, 0x370000, 1, 0x1000, 0x34, headerRows 1 ++ rowsProt⟩,
  ⟨.haul, 0x380000, 3, 0x1000, 0x40, headerRows 0 ++ rowsHaul⟩,
  ⟨.qmgr, 0x390000, 1, 0x1000, 0x41, headerRows 0 ++ rowsQmgr⟩,
  ⟨.xlat, 0x3A0000, 1, 0x1000, 0x50, headerRows 0 ++ rowsXlat⟩,
  ⟨.dma, 0x3B0000, 16, 0x1000, 0x51, headerRows 0 ++ rowsDma⟩,
  ⟨.irq, 0x3C0000, 1, 0x1000, 0x52, headerRows 1 ++ rowsIrq⟩,
  ⟨.fault, 0x3D0000, 1, 0x1000, 0x53, headerRows 1 ++ rowsFault⟩,
  ⟨.recorder, 0x3E0000, 1, 0x1000, 0x60, headerRows 1 ++ rowsRec⟩,
  ⟨.obs, 0x3F0000, 1, 0x5000, 0x61, headerRows 0 ++ rowsObs⟩,
  ⟨.pin, 0x3F8000, 1, 0x1000, 0x62, headerRows 1 ++ rowsPin⟩]

end Sys2Proof.Machine

namespace Sys2Proof.Machine.R

def CH_DEF_DIR : Fld := ⟨0x40, 0, 1⟩
def CH_DEF_RANK : Fld := ⟨0x40, 1, 2⟩
def CH_DEF_RATE_K : Fld := ⟨0x40, 4, 3⟩
def CH_DEF_RESAMP : Fld := ⟨0x40, 7, 1⟩
def CH_DEF_IN_MASK : Fld := ⟨0x40, 8, 4⟩
def CH_DEF_OUT_MASK : Fld := ⟨0x40, 12, 4⟩
def CH_DEF_SRC_HAUL : Fld := ⟨0x40, 16, 3⟩
def CH_DEF_SRC_LOCAL : Fld := ⟨0x40, 19, 1⟩
def CH_DEF_HAUL_FWD : Fld := ⟨0x40, 20, 3⟩
def CH_DEF_PRIO : Fld := ⟨0x40, 24, 2⟩
def CH_DEF_ERR_CODE : Fld := ⟨0x44, 0, 8⟩
def CH_DEF_ERR_COUNT : Fld := ⟨0x44, 16, 16⟩
def DEV_PROFILE_REQ : Fld := ⟨0x40, 0, 2⟩
def DEV_PROFILE_EFF : Fld := ⟨0x40, 4, 2⟩
def DEV_PROFILE_FORCED_THERM : Fld := ⟨0x40, 8, 1⟩
def DEV_PROFILE_FORCED_ENERGY : Fld := ⟨0x40, 9, 1⟩
def DEV_PWR_REQ : Fld := ⟨0x44, 0, 2⟩
def DEV_PWR_EFF : Fld := ⟨0x44, 4, 2⟩
def DEV_CLK_STAT_REF_OK : Fld := ⟨0x48, 0, 1⟩
def DEV_CLK_STAT_AON_FALLBACK : Fld := ⟨0x48, 1, 1⟩
def DEV_CLK_STAT_CORE_LOCK : Fld := ⟨0x48, 2, 1⟩
def DEV_CLK_STAT_SYS_LOCK : Fld := ⟨0x48, 3, 1⟩
def DEV_CLK_STAT_HAUL_LOCK : Fld := ⟨0x48, 4, 1⟩
def DEV_CLK_STAT_CSA_LOCK : Fld := ⟨0x48, 5, 1⟩
def DEV_CLK_STAT_CSB_LOCK : Fld := ⟨0x48, 6, 1⟩
def DEV_CLK_STAT_PCIE_REF_OK : Fld := ⟨0x48, 7, 1⟩
def DEV_BAD_ACC_CNT_COUNT : Fld := ⟨0x4C, 0, 16⟩
def DEV_BAD_ACC_CNT_LAST_PAGE : Fld := ⟨0x4C, 16, 16⟩
def DEV_UID_LO_UID : Fld := ⟨0x50, 0, 32⟩
def DEV_UID_HI_UID : Fld := ⟨0x54, 0, 32⟩
def FRAME_CTL_FREERUN_TX : Fld := ⟨0x40, 0, 1⟩
def FRAME_CTL_PPS_EN : Fld := ⟨0x40, 1, 1⟩
def FRAME_CTL_PPS_EDGE : Fld := ⟨0x40, 2, 1⟩
def FRAME_CTL_SC_EN : Fld := ⟨0x40, 3, 1⟩
def FRAME_CTL_SC_GOV : Fld := ⟨0x40, 4, 4⟩
def FRAME_CTL_STEP_THR : Fld := ⟨0x40, 8, 8⟩
def FRAME_CTL_REQUAL_S : Fld := ⟨0x40, 16, 8⟩
def FRAME_CTL_SC_LOSS : Fld := ⟨0x40, 24, 4⟩
def FRAME_SRC_PRIO_P0 : Fld := ⟨0x44, 0, 3⟩
def FRAME_SRC_PRIO_P1 : Fld := ⟨0x44, 4, 3⟩
def FRAME_SRC_PRIO_P2 : Fld := ⟨0x44, 8, 3⟩
def FRAME_SRC_PRIO_P3 : Fld := ⟨0x44, 12, 3⟩
def FRAME_STAT_MODE : Fld := ⟨0x48, 0, 3⟩
def FRAME_STAT_ACTIVE : Fld := ⟨0x48, 4, 3⟩
def FRAME_STAT_QUAL : Fld := ⟨0x48, 8, 4⟩
def FRAME_STAT_TA_QUAL : Fld := ⟨0x48, 16, 8⟩
def FRAME_STAT_STEP_GUARD : Fld := ⟨0x48, 24, 1⟩
def FRAME_PHASE_ERR_ERR : Fld := ⟨0x4C, 0, 16⟩
def FRAME_FREQ_CORR_CORR : Fld := ⟨0x50, 0, 32⟩
def FRAME_NOW_LO_TICK : Fld := ⟨0x54, 0, 23⟩
def FRAME_NOW_LO_FRAME_LO : Fld := ⟨0x54, 23, 9⟩
def FRAME_NOW_HI_FRAME_HI : Fld := ⟨0x58, 0, 1⟩
def FRAME_NOW_HI_HYPER : Fld := ⟨0x58, 1, 31⟩
def FRAME_PPS_NEXT_SFN : Fld := ⟨0x5C, 0, 10⟩
def FRAME_PPS_DLY : Fld := ⟨0x5C, 16, 16⟩
def FRAME_SC_DLY_DLY : Fld := ⟨0x60, 0, 16⟩
def FRAME_HOLD_Y0_Y0 : Fld := ⟨0x64, 0, 16⟩
def FRAME_HOLD_Y0_A : Fld := ⟨0x64, 16, 16⟩
def FRAME_HOLD_BUDGET_BUDGET : Fld := ⟨0x68, 0, 16⟩
def FRAME_HOLD_EST_EST : Fld := ⟨0x6C, 0, 16⟩
def FRAME_HOLD_EST_SEC : Fld := ⟨0x6C, 16, 16⟩
def FRAME_CNT_A_MISSED : Fld := ⟨0x70, 0, 16⟩
def FRAME_CNT_A_LATE : Fld := ⟨0x70, 16, 16⟩
def FRAME_CNT_B_CANCEL_SILENT : Fld := ⟨0x74, 0, 16⟩
def FRAME_CNT_B_UNWIND : Fld := ⟨0x74, 16, 16⟩
def FRAME_CNT_C_BADENT : Fld := ⟨0x78, 0, 16⟩
def FRAME_CNT_C_GATE_REFUSED : Fld := ⟨0x78, 16, 16⟩
def FRAME_CNT_D_SC_LATE : Fld := ⟨0x7C, 0, 16⟩
def FRAME_CNT_D_SC_CRC : Fld := ⟨0x7C, 16, 16⟩
def FRAME_CNT_E_STEPS : Fld := ⟨0x80, 0, 16⟩
def FRAME_CNT_E_ORDER : Fld := ⟨0x80, 16, 16⟩
def FRAME_EVT_LASTBAD_INDEX : Fld := ⟨0x84, 0, 15⟩
def FRAME_EVT_LASTBAD_REASON : Fld := ⟨0x84, 16, 4⟩
def FRAME_EVT_LASTORD_INDEX : Fld := ⟨0x88, 0, 15⟩
def FRAME_TA_CFG_CH (i : Nat) : Fld := ⟨0xA0 + i * 8, 0, 8⟩
def FRAME_TA_CFG_EN (i : Nat) : Fld := ⟨0xA0 + i * 8, 8, 1⟩
def FRAME_TA_CFG_RAT (i : Nat) : Fld := ⟨0xA0 + i * 8, 9, 1⟩
def FRAME_TA_CFG_SCS (i : Nat) : Fld := ⟨0xA0 + i * 8, 10, 2⟩
def FRAME_TA_CFG_PCI (i : Nat) : Fld := ⟨0xA0 + i * 8, 12, 10⟩
def FRAME_TA_CFG_PCI_ANY (i : Nat) : Fld := ⟨0xA0 + i * 8, 22, 1⟩
def FRAME_TA_OFS_OFS (i : Nat) : Fld := ⟨0xA4 + i * 8, 0, 18⟩
def CH_NCO_FTW_LO_FTW_LO : Fld := ⟨0x80, 0, 32⟩
def CH_NCO_FTW_HI_FTW_HI : Fld := ⟨0x84, 0, 16⟩
def CH_NCO_CTL_MODE : Fld := ⟨0x88, 0, 1⟩
def CH_NCO_POFS_POFS (i : Nat) : Fld := ⟨0x8C + i * 4, 0, 32⟩
def CH_SV_CTL_OUT_SHIFT : Fld := ⟨0xA0, 0, 3⟩
def CH_SV_STAT_FILL : Fld := ⟨0xA4, 0, 1⟩
def CH_SV_STAT_COARSE_VALID : Fld := ⟨0xA4, 1, 1⟩
def CH_SV_STAT_SAT : Fld := ⟨0xA4, 2, 1⟩
def CH_SV_STAT_ABSENT : Fld := ⟨0xA4, 4, 4⟩
def CH_SV_COARSE_POWER (i : Nat) : Fld := ⟨0xA8 + i * 4, 0, 16⟩
def CH_SV_COARSE_PEAK (i : Nat) : Fld := ⟨0xA8 + i * 4, 16, 16⟩
def CH_SPOIL_CNT_COUNT : Fld := ⟨0xB8, 0, 32⟩
def CH_SV_CNT_SAT : Fld := ⟨0xBC, 0, 16⟩
def CH_SV_CNT_RESTART : Fld := ⟨0xBC, 16, 16⟩
def SV_LOAD_LOAD : Fld := ⟨0x800, 0, 9⟩
def SV_REF_TICK_TICK : Fld := ⟨0x804, 0, 23⟩
def SV_REF_FRAME : Fld := ⟨0x808, 0, 10⟩
def SV_REF_IMPLICIT : Fld := ⟨0x808, 16, 1⟩
def SV_REF_VALID : Fld := ⟨0x808, 17, 1⟩
def SV_CNT_SYNC : Fld := ⟨0x80C, 0, 16⟩
def SV_CNT_SYNC_IGN : Fld := ⟨0x80C, 16, 16⟩
def SV_SLIP_SLIP : Fld := ⟨0x810, 0, 16⟩
def CH_FIR_STAT_ACTIVE : Fld := ⟨0xC0, 0, 1⟩
def CH_FIR_STAT_FADING : Fld := ⟨0xC0, 1, 1⟩
def CH_FIR_STAT_QUEUED : Fld := ⟨0xC0, 2, 1⟩
def CH_FIR_STAT_QBANK : Fld := ⟨0xC0, 3, 1⟩
def CH_FIR_STAT_QK : Fld := ⟨0xC0, 4, 4⟩
def CH_FIR_STAT_LAST_REFUSE : Fld := ⟨0xC0, 8, 4⟩
def CH_FIR_SWAP_BANK : Fld := ⟨0xC4, 0, 1⟩
def CH_FIR_SWAP_K : Fld := ⟨0xC4, 1, 4⟩
def CH_FIR_NTAPS_NTAPS_A : Fld := ⟨0xC8, 0, 8⟩
def CH_FIR_NTAPS_NTAPS_B : Fld := ⟨0xC8, 8, 8⟩
def CH_FIR_CNT_REPLACED : Fld := ⟨0xCC, 0, 8⟩
def CH_FIR_CNT_REFUSED : Fld := ⟨0xCC, 8, 8⟩
def CH_FIR_CNT_LOCKED_WR : Fld := ⟨0xCC, 16, 8⟩
def CH_RS_STEP_STEP : Fld := ⟨0xD0, 0, 32⟩
def CH_DLY_CTL_EXTRA : Fld := ⟨0xD4, 0, 8⟩
def CH_DLY_DELAY : Fld := ⟨0xD8, 0, 32⟩
def CH_NCO_TX_CTL_MODE : Fld := ⟨0xDC, 0, 1⟩
def CH_NCO_TX_FTW_LO_FTW_LO : Fld := ⟨0xE0, 0, 32⟩
def CH_NCO_TX_FTW_HI_FTW_HI : Fld := ⟨0xE4, 0, 16⟩
def CH_NCO_TX_POFS_POFS (i : Nat) : Fld := ⟨0xE8 + i * 4, 0, 32⟩
def CH_DLY_PAD_PAD : Fld := ⟨0xF8, 0, 16⟩
def CH_FIR_A_COEF (i : Nat) : Fld := ⟨0x100 + i * 4, 0, 18⟩
def CH_FIR_B_COEF (i : Nat) : Fld := ⟨0x200 + i * 4, 0, 18⟩
def DAC_TX_CTL_SHIFT : Fld := ⟨0x820, 0, 3⟩
def DAC_TX_CLIP_COUNT : Fld := ⟨0x824, 0, 32⟩
def CH_CANC_CFG_NTAPS : Fld := ⟨0x300, 0, 12⟩
def CH_CANC_CFG_BULK : Fld := ⟨0x300, 16, 12⟩
def CH_CANC_EFF_NEFF : Fld := ⟨0x304, 0, 12⟩
def CH_CANC_CTL_ADAPT_EN : Fld := ⟨0x308, 0, 1⟩
def CH_CANC_CTL_MU_ACQ : Fld := ⟨0x308, 4, 4⟩
def CH_CANC_CTL_MU_TRK : Fld := ⟨0x308, 8, 4⟩
def CH_CANC_CTL_MU_FINE : Fld := ⟨0x308, 12, 4⟩
def CH_CANC_CTL_DEPTH_ACQ : Fld := ⟨0x308, 16, 8⟩
def CH_CANC_CTL_DEPTH_FINE : Fld := ⟨0x308, 24, 8⟩
def CH_CANC_XG_XG : Fld := ⟨0x30C, 0, 16⟩
def CH_CANC_STAT_REGION : Fld := ⟨0x310, 0, 2⟩
def CH_CANC_STAT_FROZEN : Fld := ⟨0x310, 2, 1⟩
def CH_CANC_STAT_LOST : Fld := ⟨0x310, 3, 1⟩
def CH_CANC_STAT_PILOT_ON : Fld := ⟨0x310, 4, 1⟩
def CH_CANC_STAT_EST_VALID : Fld := ⟨0x310, 5, 1⟩
def CH_CANC_STAT_OSC : Fld := ⟨0x310, 6, 1⟩
def CH_CANC_STAT_LOST_SEEN : Fld := ⟨0x310, 7, 1⟩
def CH_CANC_STAT_LOST_CAUSE : Fld := ⟨0x310, 8, 3⟩
def CH_CANC_ISO_ISO : Fld := ⟨0x314, 0, 16⟩
def CH_CANC_ISO_CDIG : Fld := ⟨0x314, 16, 16⟩
def CH_CANC_DEPTH_DEPTH : Fld := ⟨0x318, 0, 16⟩
def CH_CANC_DEPTH_CREDIT : Fld := ⟨0x318, 16, 16⟩
def CH_CANC_RESID_CRES : Fld := ⟨0x31C, 0, 16⟩
def CH_CANC_RESID_RESPWR : Fld := ⟨0x31C, 16, 16⟩
def CH_STAB_CTL_MARGIN : Fld := ⟨0x320, 0, 16⟩
def CH_STAB_FLOOR_FLOOR : Fld := ⟨0x324, 0, 16⟩
def CH_STAB_STAT_CAP : Fld := ⟨0x328, 0, 16⟩
def CH_STAB_STAT_HEAD : Fld := ⟨0x328, 16, 16⟩
def CH_OSC_CTL_GROW : Fld := ⟨0x32C, 0, 8⟩
def CH_OSC_CTL_CREST : Fld := ⟨0x32C, 8, 8⟩
def CH_OSC_CTL_FLOOR : Fld := ⟨0x32C, 16, 16⟩
def CH_PILOT_CTL_MODE : Fld := ⟨0x330, 0, 2⟩
def CH_PILOT_CTL_ATT : Fld := ⟨0x330, 8, 6⟩
def CH_PILOT_CTL_PER : Fld := ⟨0x330, 16, 3⟩
def CH_PILOT_OFS_OFS : Fld := ⟨0x334, 0, 20⟩
def CH_PILOT_LEN_LEN : Fld := ⟨0x338, 0, 20⟩
def CH_CANC_CNT_HELD : Fld := ⟨0x33C, 0, 16⟩
def CH_CANC_CNT_CLEAR : Fld := ⟨0x33C, 16, 16⟩
def CH_CANC_CNT2_OSC : Fld := ⟨0x340, 0, 16⟩
def CH_CANC_CNT2_LOST : Fld := ⟨0x340, 16, 16⟩
def CH_CANC_SKIP_SKIP : Fld := ⟨0x344, 0, 32⟩
def ENG_STAT_STATE : Fld := ⟨0x40, 0, 2⟩
def ENG_STAT_ACTIVE_BANK : Fld := ⟨0x40, 4, 1⟩
def ENG_STAT_SHADOW_VALID : Fld := ⟨0x40, 5, 1⟩
def ENG_STAT_SWAP_ARMED : Fld := ⟨0x40, 6, 1⟩
def ENG_STAT_VARIANT : Fld := ⟨0x40, 7, 1⟩
def ENG_STAT_FRAME_MARK : Fld := ⟨0x40, 8, 1⟩
def ENG_STAT_LAST_REFUSE : Fld := ⟨0x40, 12, 4⟩
def ENG_STAT_TRAP_CAUSE : Fld := ⟨0x40, 16, 4⟩
def ENG_CTL_VERIFY : Fld := ⟨0x44, 0, 1⟩
def ENG_CTL_RESTART : Fld := ⟨0x44, 1, 1⟩
def ENG_CTL_INVALIDATE : Fld := ⟨0x44, 2, 1⟩
def ENG_HASH_EXP_LO_HASH : Fld := ⟨0x48, 0, 32⟩
def ENG_HASH_EXP_HI_HASH : Fld := ⟨0x4C, 0, 32⟩
def ENG_ACT_HASH_LO_HASH : Fld := ⟨0x50, 0, 32⟩
def ENG_ACT_HASH_HI_HASH : Fld := ⟨0x54, 0, 32⟩
def ENG_PERIOD_TICKS : Fld := ⟨0x58, 0, 23⟩
def ENG_PSTART_TICK : Fld := ⟨0x5C, 0, 23⟩
def ENG_PSTART_FRAME_LO : Fld := ⟨0x5C, 23, 9⟩
def ENG_PIDX_FRAME_HI : Fld := ⟨0x60, 0, 1⟩
def ENG_PIDX_IDX : Fld := ⟨0x60, 8, 17⟩
def ENG_SIG_LAST_SIG : Fld := ⟨0x64, 0, 32⟩
def ENG_CNT_A_DROP : Fld := ⟨0x68, 0, 8⟩
def ENG_CNT_A_ABSENT : Fld := ⟨0x68, 8, 12⟩
def ENG_CNT_A_SPOIL_IN : Fld := ⟨0x68, 20, 12⟩
def ENG_CNT_B_SWAP : Fld := ⟨0x6C, 0, 16⟩
def ENG_CNT_B_SWAP_REFUSED : Fld := ⟨0x6C, 16, 16⟩
def ENG_CNT_C_TRACE_LOST : Fld := ⟨0x70, 0, 16⟩
def ENG_CNT_C_TRAP : Fld := ⟨0x70, 16, 16⟩
def ENG_SAT_LO_STAGE : Fld := ⟨0x74, 0, 32⟩
def ENG_SAT_HI_STAGE : Fld := ⟨0x78, 0, 32⟩
def ENG_TRACE_CTL_EN : Fld := ⟨0x7C, 0, 8⟩
def ENG_TRACE_CTL_QTR : Fld := ⟨0x7C, 8, 2⟩
def ENG_TRACE_CTL_WRPTR : Fld := ⟨0x7C, 16, 9⟩
def ENG_SHARE_SRC : Fld := ⟨0x80, 0, 1⟩
def ENG_SHARE_GRP : Fld := ⟨0x80, 4, 2⟩
def ENG_SHARE_LEAD : Fld := ⟨0x80, 16, 16⟩
def ENG_TRACE_RECORDS (i : Nat) : Fld := ⟨0x800 + i * 4, 0, 32⟩
def BENCH_ANCHOR_CONV : Fld := ⟨0x40, 0, 4⟩
def BENCH_SWAP_MASK_MASK : Fld := ⟨0x44, 0, 8⟩
def BENCH_MISALIGN_CONV : Fld := ⟨0x48, 0, 16⟩
def BENCH_CNT_SWAP_REFUSED : Fld := ⟨0x4C, 0, 16⟩
def BENCH_CNT_XBAR_VIOL : Fld := ⟨0x4C, 16, 16⟩
def BENCH_ECC_CORR : Fld := ⟨0x50, 0, 16⟩
def BENCH_ECC_UNCORR : Fld := ⟨0x50, 16, 16⟩
def CH_GL_CTL_LVL_EN : Fld := ⟨0x380, 0, 1⟩
def CH_GL_CTL_FF_EN : Fld := ⟨0x380, 1, 1⟩
def CH_GL_CTL_NR_EN : Fld := ⟨0x380, 2, 1⟩
def CH_GL_CTL_REGION_EN : Fld := ⟨0x380, 3, 1⟩
def CH_GL_CTL_FAST_EN : Fld := ⟨0x380, 4, 1⟩
def CH_GL_CTL_HYST : Fld := ⟨0x380, 8, 8⟩
def CH_GL_LVL_TGT : Fld := ⟨0x384, 0, 16⟩
def CH_GL_LVL_PMAX : Fld := ⟨0x384, 16, 16⟩
def CH_GL_INREF_INREF : Fld := ⟨0x388, 0, 16⟩
def CH_GL_GLIM_GMIN : Fld := ⟨0x38C, 0, 16⟩
def CH_GL_GLIM_GMAX : Fld := ⟨0x38C, 16, 16⟩
def CH_GL_FAST_OVER : Fld := ⟨0x390, 0, 8⟩
def CH_GL_FAST_DECAY : Fld := ⟨0x390, 8, 8⟩
def CH_GL_NR_BUD_BUDGET : Fld := ⟨0x394, 0, 16⟩
def CH_GL_NR_BUD_PL : Fld := ⟨0x394, 16, 16⟩
def CH_GL_NR_BS_NBS : Fld := ⟨0x398, 0, 16⟩
def CH_GL_UL_HOLD : Fld := ⟨0x39C, 0, 1⟩
def CH_GL_UL_RELEASE : Fld := ⟨0x39C, 1, 1⟩
def CH_GL_STAT_LIMIT : Fld := ⟨0x3A0, 0, 3⟩
def CH_GL_STAT_SHED : Fld := ⟨0x3A0, 8, 1⟩
def CH_GL_STAT_FAST : Fld := ⟨0x3A0, 9, 1⟩
def CH_GL_STAT_HELD : Fld := ⟨0x3A0, 10, 1⟩
def CH_GL_STAT_NOREGION : Fld := ⟨0x3A0, 11, 1⟩
def CH_GL_STAT_REGION : Fld := ⟨0x3A0, 16, 6⟩
def CH_GL_GAIN_APPLIED : Fld := ⟨0x3A4, 0, 16⟩
def CH_GL_GAIN_REQ : Fld := ⟨0x3A4, 16, 16⟩
def CH_GL_PWR_PIN : Fld := ⟨0x3A8, 0, 16⟩
def CH_GL_PWR_POUT : Fld := ⟨0x3A8, 16, 16⟩
def CH_GL_NR_NIN : Fld := ⟨0x3AC, 0, 16⟩
def CH_GL_NR_LNR : Fld := ⟨0x3AC, 16, 16⟩
def CH_GL_LAT_EXACT : Fld := ⟨0x3B0, 0, 16⟩
def CH_GL_LAT_WORST : Fld := ⟨0x3B0, 16, 16⟩
def CH_GL_CNT_FAST : Fld := ⟨0x3B4, 0, 16⟩
def CH_GL_CNT_REGION_CHG : Fld := ⟨0x3B4, 16, 16⟩
def CH_GL_CNT2_UL_CHANGE : Fld := ⟨0x3B8, 0, 16⟩
def CH_GL_CNT2_SHED : Fld := ⟨0x3B8, 16, 16⟩
def CH_GL_STAB_BACK : Fld := ⟨0x3BC, 0, 16⟩
def CH_GL_STAB_RISE : Fld := ⟨0x3BC, 16, 8⟩
def CH_GL_REG_PIN_PIN_LO (i : Nat) : Fld := ⟨0x400 + i * 16, 0, 16⟩
def CH_GL_REG_PIN_PIN_HI (i : Nat) : Fld := ⟨0x400 + i * 16, 16, 16⟩
def CH_GL_REG_IM_IM_LO (i : Nat) : Fld := ⟨0x404 + i * 16, 0, 16⟩
def CH_GL_REG_IM_IM_HI (i : Nat) : Fld := ⟨0x404 + i * 16, 16, 16⟩
def CH_GL_REG_K_KP (i : Nat) : Fld := ⟨0x408 + i * 16, 0, 16⟩
def CH_GL_REG_K_KI (i : Nat) : Fld := ⟨0x408 + i * 16, 16, 16⟩
def CH_GL_REG_LIM_IMAX (i : Nat) : Fld := ⟨0x40C + i * 16, 0, 16⟩
def CH_GL_REG_LIM_FFW (i : Nat) : Fld := ⟨0x40C + i * 16, 16, 8⟩
def CH_GL_REG_LIM_VALID (i : Nat) : Fld := ⟨0x40C + i * 16, 31, 1⟩
def DAC_PP_LIM_PMAX : Fld := ⟨0x830, 0, 16⟩
def DAC_PP_LIM_TRIM_MIN : Fld := ⟨0x830, 16, 16⟩
def DAC_PP_REF_OREF : Fld := ⟨0x834, 0, 16⟩
def DAC_PP_REF_KI : Fld := ⟨0x834, 16, 8⟩
def DAC_PP_STAT_PWR : Fld := ⟨0x838, 0, 16⟩
def DAC_PP_STAT_TRIM : Fld := ⟨0x838, 16, 16⟩
def DAC_PP_CNT_CLAMPED : Fld := ⟨0x83C, 0, 16⟩
def DEV_EB_SRC_VBAT : Fld := ⟨0x100, 0, 5⟩
def DEV_EB_SRC_IBAT : Fld := ⟨0x100, 8, 5⟩
def DEV_EB_SRC_GEN : Fld := ⟨0x100, 16, 6⟩
def DEV_EB_SRC_GEN_POL : Fld := ⟨0x100, 24, 1⟩
def DEV_EB_SRC_EN : Fld := ⟨0x100, 25, 1⟩
def DEV_EB_SCALE_VSCALE : Fld := ⟨0x104, 0, 16⟩
def DEV_EB_SCALE_ISCALE : Fld := ⟨0x104, 16, 16⟩
def DEV_EB_IOFS_IOFS : Fld := ⟨0x108, 0, 12⟩
def DEV_EB_VTH_VTH (i : Nat) : Fld := ⟨0x10C + i * 4, 0, 16⟩
def DEV_EB_ALLOW_PALLOW (i : Nat) : Fld := ⟨0x120 + i * 4, 0, 16⟩
def DEV_EB_ALLOW_SHED_MIN (i : Nat) : Fld := ⟨0x120 + i * 4, 16, 2⟩
def DEV_EB_ALLOW_FORCE_BUDGET (i : Nat) : Fld := ⟨0x120 + i * 4, 20, 1⟩
def DEV_EB_CTL_HYST : Fld := ⟨0x140, 0, 8⟩
def DEV_EB_CTL_DWELL : Fld := ⟨0x140, 8, 8⟩
def DEV_EB_CTL_KI : Fld := ⟨0x140, 16, 8⟩
def DEV_EB_CTL_BMAX : Fld := ⟨0x140, 24, 8⟩
def DEV_EB_CTL2_SHED_DWELL : Fld := ⟨0x144, 0, 8⟩
def DEV_EB_CTL2_RESTORE_DWELL : Fld := ⟨0x144, 8, 8⟩
def DEV_EB_CTL2_SENSE_HOLD : Fld := ⟨0x144, 16, 8⟩
def DEV_EB_CTL2_SAFE_BAND : Fld := ⟨0x144, 24, 3⟩
def DEV_EB_STAT_BAND : Fld := ⟨0x148, 0, 3⟩
def DEV_EB_STAT_SHED : Fld := ⟨0x148, 4, 3⟩
def DEV_EB_STAT_BACKOFF : Fld := ⟨0x148, 8, 8⟩
def DEV_EB_STAT_GEN : Fld := ⟨0x148, 16, 1⟩
def DEV_EB_STAT_SENSE_BAD : Fld := ⟨0x148, 17, 1⟩
def DEV_EB_MEAS_VBAT : Fld := ⟨0x14C, 0, 16⟩
def DEV_EB_MEAS_PNET : Fld := ⟨0x14C, 16, 16⟩
def DEV_EB_CNT_SHED_STEPS : Fld := ⟨0x150, 0, 16⟩
def DEV_EB_CNT_SENSE_BAD : Fld := ⟨0x150, 16, 16⟩
def PROT_CTL_PWR_EN : Fld := ⟨0x40, 0, 1⟩
def PROT_CTL_NR_EN : Fld := ⟨0x40, 1, 1⟩
def PROT_CTL_OOBE_EN : Fld := ⟨0x40, 2, 1⟩
def PROT_CTL_RF_OFF : Fld := ⟨0x40, 8, 1⟩
def PROT_CTL_ESC_DIR : Fld := ⟨0x40, 12, 4⟩
def PROT_THR_A_STAB_MIN : Fld := ⟨0x44, 0, 8⟩
def PROT_THR_A_PWR_OVER : Fld := ⟨0x44, 8, 8⟩
def PROT_THR_A_NR_OVER : Fld := ⟨0x44, 16, 8⟩
def PROT_THR_A_OOBE_MASK : Fld := ⟨0x44, 24, 8⟩
def PROT_THR_B_PWR_N : Fld := ⟨0x48, 0, 8⟩
def PROT_THR_B_NR_FRAMES : Fld := ⟨0x48, 8, 8⟩
def PROT_THR_B_OOBE_WIN : Fld := ⟨0x48, 16, 8⟩
def PROT_BACKOFF_RESET_S : Fld := ⟨0x4C, 0, 12⟩
def PROT_ULG_THR : Fld := ⟨0x50, 0, 8⟩
def PROT_ULG_HYST : Fld := ⟨0x50, 8, 8⟩
def PROT_ULG_GRAMP : Fld := ⟨0x50, 16, 3⟩
def PROT_ULG_HANG_HANG : Fld := ⟨0x54, 0, 20⟩
def PROT_ULG_EN_EN (i : Nat) : Fld := ⟨0x58 + i * 4, 0, 32⟩
def PROT_DIR_DL_MUTED : Fld := ⟨0x70, 0, 1⟩
def PROT_DIR_UL_MUTED : Fld := ⟨0x70, 1, 1⟩
def PROT_DIR_DL_LATCH : Fld := ⟨0x70, 2, 1⟩
def PROT_DIR_UL_LATCH : Fld := ⟨0x70, 3, 1⟩
def PROT_DIR_DL_ATTEMPT : Fld := ⟨0x70, 4, 2⟩
def PROT_DIR_UL_ATTEMPT : Fld := ⟨0x70, 6, 2⟩
def PROT_DIR_RF_OFF : Fld := ⟨0x70, 8, 1⟩
def PROT_DIR_RF_LATCH : Fld := ⟨0x70, 9, 1⟩
def PROT_DIR_DEV_ATTEMPT : Fld := ⟨0x70, 10, 2⟩
def PROT_DIR_DEV_CAUSE : Fld := ⟨0x70, 12, 4⟩
def PROT_DIR_BO_DL_S : Fld := ⟨0x74, 0, 16⟩
def PROT_DIR_BO_UL_S : Fld := ⟨0x74, 16, 16⟩
def PROT_DEV_BO_DEV_S : Fld := ⟨0x78, 0, 16⟩
def PROT_CLR_CH : Fld := ⟨0x7C, 0, 8⟩
def PROT_CLR_CH_EN : Fld := ⟨0x7C, 8, 1⟩
def PROT_CLR_ALL_CH : Fld := ⟨0x7C, 9, 1⟩
def PROT_CLR_DL : Fld := ⟨0x7C, 10, 1⟩
def PROT_CLR_UL : Fld := ⟨0x7C, 11, 1⟩
def PROT_CLR_DEV : Fld := ⟨0x7C, 12, 1⟩
def PROT_VERDICT_TRIPPED : Fld := ⟨0x80, 0, 11⟩
def PROT_CNT_A_CH_TRIPS : Fld := ⟨0x84, 0, 16⟩
def PROT_CNT_A_DIR_TRIPS : Fld := ⟨0x84, 16, 16⟩
def PROT_CNT_B_DEV_TRIPS : Fld := ⟨0x88, 0, 16⟩
def PROT_CNT_B_LATCHES : Fld := ⟨0x88, 16, 16⟩
def PROT_CNT_C_UL_BURSTS : Fld := ⟨0x8C, 0, 16⟩
def PROT_CNT_C_BR_STEPS : Fld := ⟨0x8C, 16, 16⟩
def PROT_OOBE_WORST_DL : Fld := ⟨0x90, 0, 16⟩
def PROT_OOBE_WORST_UL : Fld := ⟨0x90, 16, 16⟩
def PROT_CASC_BR_ATT_MAX : Fld := ⟨0x94, 0, 8⟩
def PROT_CH_STAT_CAUSE (i : Nat) : Fld := ⟨0x400 + i * 8, 0, 4⟩
def PROT_CH_STAT_ATTEMPT (i : Nat) : Fld := ⟨0x400 + i * 8, 4, 2⟩
def PROT_CH_STAT_MUTED (i : Nat) : Fld := ⟨0x400 + i * 8, 6, 1⟩
def PROT_CH_STAT_LATCHED (i : Nat) : Fld := ⟨0x400 + i * 8, 7, 1⟩
def PROT_CH_STAT_GATED (i : Nat) : Fld := ⟨0x400 + i * 8, 8, 1⟩
def PROT_CH_STAT_BR_ACT (i : Nat) : Fld := ⟨0x400 + i * 8, 9, 1⟩
def PROT_CH_STAT_BACKOFF_S (i : Nat) : Fld := ⟨0x400 + i * 8, 16, 16⟩
def PROT_CH_NR_NSUM (i : Nat) : Fld := ⟨0x404 + i * 8, 0, 16⟩
def PROT_CH_NR_NREP (i : Nat) : Fld := ⟨0x404 + i * 8, 16, 16⟩
def ADC_CTL_INBAND : Fld := ⟨0x40, 0, 1⟩
def ADC_CTL_BG_EN : Fld := ⟨0x40, 1, 1⟩
def ADC_CAL_CTL_STEP_US : Fld := ⟨0x44, 0, 16⟩
def ADC_STAT_SPARE : Fld := ⟨0x48, 0, 5⟩
def ADC_STAT_ROT : Fld := ⟨0x48, 8, 4⟩
def ADC_STAT_NO_SPARE : Fld := ⟨0x48, 16, 1⟩
def ADC_STAT_SPEC_OK : Fld := ⟨0x48, 17, 1⟩
def ADC_STAT_BG_RUN : Fld := ⟨0x48, 18, 1⟩
def ADC_LEVEL_ERR : Fld := ⟨0x4C, 0, 16⟩
def ADC_LEVEL_ERR_HI : Fld := ⟨0x4C, 16, 16⟩
def ADC_MAP_SLICE (i : Nat) : Fld := ⟨0x50 + i * 4, 0, 30⟩
def ADC_TRIM_TRIM (i : Nat) : Fld := ⟨0x60 + i * 4, 0, 32⟩
def ADC_CNT_HANDOVER : Fld := ⟨0xA4, 0, 16⟩
def ADC_CNT_NOHAND : Fld := ⟨0xA4, 16, 16⟩
def ADC_CNT2_QUIET : Fld := ⟨0xA8, 0, 16⟩
def ADC_CNT2_RETIRED : Fld := ⟨0xA8, 16, 16⟩
def DAC_CTL_ZONE : Fld := ⟨0x40, 0, 1⟩
def DAC_TRIM_GAIN : Fld := ⟨0x44, 0, 12⟩
def DAC_TRIM_OFFSET : Fld := ⟨0x44, 12, 12⟩
def SYN_CTL_PLAN : Fld := ⟨0x40, 0, 1⟩
def SYN_CTL_RECAL : Fld := ⟨0x40, 1, 1⟩
def SYN_STAT_LOCK : Fld := ⟨0x44, 0, 1⟩
def SYN_STAT_CAL_BUSY : Fld := ⟨0x44, 1, 1⟩
def SYN_STAT_FAILED : Fld := ⟨0x44, 2, 1⟩
def SYN_STAT_BAND : Fld := ⟨0x44, 4, 6⟩
def SYN_STAT_CP : Fld := ⟨0x44, 16, 8⟩
def SYN_LOCK_T_US : Fld := ⟨0x48, 0, 16⟩
def SYN_CNT_UNLOCK : Fld := ⟨0x4C, 0, 16⟩
def SYN_CNT_REFUSED : Fld := ⟨0x4C, 16, 16⟩
def CAL_CTL_START : Fld := ⟨0x40, 0, 1⟩
def CAL_CTL_LOAD : Fld := ⟨0x40, 1, 1⟩
def CAL_CTL_LEVEL : Fld := ⟨0x40, 2, 1⟩
def CAL_CTL_ABORT : Fld := ⟨0x40, 3, 1⟩
def CAL_CTL_FREEZE_SETS : Fld := ⟨0x40, 4, 1⟩
def CAL_MASK_ADC : Fld := ⟨0x44, 0, 8⟩
def CAL_MASK_DAC : Fld := ⟨0x44, 8, 8⟩
def CAL_STAT_STATE : Fld := ⟨0x48, 0, 3⟩
def CAL_STAT_REFUSE : Fld := ⟨0x48, 4, 4⟩
def CAL_STAT_FAIL : Fld := ⟨0x48, 8, 2⟩
def CAL_STAT_SIG_VALID : Fld := ⟨0x48, 10, 1⟩
def CAL_STAT_FALLBACK : Fld := ⟨0x48, 16, 16⟩
def CAL_TEMP_T : Fld := ⟨0x4C, 0, 16⟩
def CAL_SIG_SIG : Fld := ⟨0x50, 0, 32⟩
def CAL_SIG_EXP_SIG : Fld := ⟨0x54, 0, 32⟩
def CALW_HDR_TPOINT (i : Nat) : Fld := ⟨0x1000 + i * 640, 0, 16⟩
def CALW_HDR_VALID (i : Nat) : Fld := ⟨0x1000 + i * 640, 16, 1⟩
def CALW_HDR_LEARNED (i : Nat) : Fld := ⟨0x1000 + i * 640, 17, 1⟩
def CALW_FOLDS_FOLDS (i : Nat) : Fld := ⟨0x1004 + i * 640, 0, 32⟩
def CALW_ADC_TRIM (i j : Nat) : Fld := ⟨0x1010 + i * 640 + j * 4, 0, 32⟩
def CALW_DAC_TRIM (i j : Nat) : Fld := ⟨0x1230 + i * 640 + j * 4, 0, 24⟩
def FE_PG_CTL_REQ (i : Nat) : Fld := ⟨0x40 + i * 16, 0, 4⟩
def FE_PG_CTL_RET (i : Nat) : Fld := ⟨0x40 + i * 16, 4, 2⟩
def FE_PG_CTL_RET_DLY (i : Nat) : Fld := ⟨0x40 + i * 16, 8, 20⟩
def FE_PG_STAT_REQ (i : Nat) : Fld := ⟨0x44 + i * 16, 0, 4⟩
def FE_PG_STAT_EFF (i : Nat) : Fld := ⟨0x44 + i * 16, 4, 4⟩
def FE_PG_STAT_DIVERGE (i : Nat) : Fld := ⟨0x44 + i * 16, 8, 1⟩
def FE_PG_STAT_BUSY (i : Nat) : Fld := ⟨0x44 + i * 16, 9, 1⟩
def FE_PG_STAT_LOCK_WAIT (i : Nat) : Fld := ⟨0x44 + i * 16, 10, 1⟩
def FE_PG_STAT_AUTO (i : Nat) : Fld := ⟨0x44 + i * 16, 11, 1⟩
def FE_PG_STAT_NEXT (i : Nat) : Fld := ⟨0x44 + i * 16, 12, 4⟩
def FE_PG_CNT_BADREQ (i : Nat) : Fld := ⟨0x48 + i * 16, 0, 8⟩
def FE_PG_CNT_RET_SKIP (i : Nat) : Fld := ⟨0x48 + i * 16, 8, 8⟩
def FE_PG_CNT_LOCK_SKIP (i : Nat) : Fld := ⟨0x48 + i * 16, 16, 8⟩
def FE_PG_CNT_SEQ_CUT (i : Nat) : Fld := ⟨0x48 + i * 16, 24, 8⟩
def FE_PG_TIME_TICKS (i : Nat) : Fld := ⟨0x4C + i * 16, 0, 20⟩
def FE_RFFE_CTL_DIV (i : Nat) : Fld := ⟨0x1000 + i * 256, 0, 10⟩
def FE_RFFE_CMD_KIND (i : Nat) : Fld := ⟨0x1004 + i * 256, 0, 3⟩
def FE_RFFE_CMD_N (i : Nat) : Fld := ⟨0x1004 + i * 256, 4, 2⟩
def FE_RFFE_CMD_USID (i : Nat) : Fld := ⟨0x1004 + i * 256, 8, 4⟩
def FE_RFFE_CMD_ADDR (i : Nat) : Fld := ⟨0x1004 + i * 256, 12, 16⟩
def FE_RFFE_CMD_GO (i : Nat) : Fld := ⟨0x1004 + i * 256, 31, 1⟩
def FE_RFFE_DATA_DATA (i : Nat) : Fld := ⟨0x1008 + i * 256, 0, 32⟩
def FE_RFFE_STAT_BUSY (i : Nat) : Fld := ⟨0x100C + i * 256, 0, 1⟩
def FE_RFFE_STAT_PERR (i : Nat) : Fld := ⟨0x100C + i * 256, 1, 1⟩
def FE_RFFE_STAT_QDEPTH (i : Nat) : Fld := ⟨0x100C + i * 256, 8, 6⟩
def FE_RFFE_CNT_QDELAY (i : Nat) : Fld := ⟨0x1010 + i * 256, 0, 16⟩
def FE_RFFE_CNT_DROP (i : Nat) : Fld := ⟨0x1010 + i * 256, 16, 16⟩
def FE_GPIO_MODE_MODE (i : Nat) : Fld := ⟨0x2000 + i * 4, 0, 3⟩
def FE_GPIO_MODE_POL (i : Nat) : Fld := ⟨0x2000 + i * 4, 3, 1⟩
def FE_GPIO_MODE_PORT (i : Nat) : Fld := ⟨0x2000 + i * 4, 4, 3⟩
def FE_GPIO_OUT0_OUT : Fld := ⟨0x20C0, 0, 32⟩
def FE_GPIO_OUT1_OUT : Fld := ⟨0x20C4, 0, 16⟩
def FE_GPIO_IN0_IN : Fld := ⟨0x20C8, 0, 32⟩
def FE_GPIO_IN1_IN : Fld := ⟨0x20CC, 0, 16⟩
def FE_GPIO_CNT_REJ : Fld := ⟨0x20D0, 0, 16⟩
def FE_BEAM_CTL_LEAD : Fld := ⟨0x3000, 0, 20⟩
def FE_BEAM_CTL_SCS : Fld := ⟨0x3000, 20, 2⟩
def FE_BEAM_CNT_LATE : Fld := ⟨0x3004, 0, 16⟩
def FE_BEAM_CNT_BAD : Fld := ⟨0x3004, 16, 16⟩
def FE_BEAM_LO_ENTRY (i : Nat) : Fld := ⟨0x3800 + i * 8, 0, 32⟩
def FE_BEAM_HI_ENTRY (i : Nat) : Fld := ⟨0x3804 + i * 8, 0, 32⟩
def FE_SEQ_LO_STEP (i j k : Nat) : Fld := ⟨0x4000 + i * 576 + j * 64 + k * 8, 0, 32⟩
def FE_SEQ_HI_STEP (i j k : Nat) : Fld := ⟨0x4004 + i * 576 + j * 64 + k * 8, 0, 32⟩
def FE_SEQT_TICKS (i j : Nat) : Fld := ⟨0x5000 + i * 36 + j * 4, 0, 20⟩
def MON_CTL_MODE_A : Fld := ⟨0x40, 0, 1⟩
def MON_CTL_MODE_B : Fld := ⟨0x40, 1, 1⟩
def MON_CTL_PAIR : Fld := ⟨0x40, 2, 1⟩
def MON_CTL_LP : Fld := ⟨0x40, 3, 1⟩
def MON_CTL_REF : Fld := ⟨0x40, 4, 2⟩
def MON_CTL_EN_A : Fld := ⟨0x40, 6, 1⟩
def MON_CTL_EN_B : Fld := ⟨0x40, 7, 1⟩
def MON_CTL_PIN_KIND : Fld := ⟨0x40, 8, 2⟩
def MON_CTL_PIN_CONV : Fld := ⟨0x40, 10, 2⟩
def MON_CTL_PIN_EN : Fld := ⟨0x40, 12, 1⟩
def MON_CTL_PIN_EDGE : Fld := ⟨0x40, 13, 1⟩
def MON_STAT_REF_SETTLED : Fld := ⟨0x44, 0, 1⟩
def MON_STAT_REF_BAD : Fld := ⟨0x44, 1, 1⟩
def MON_STAT_LP_EFF : Fld := ⟨0x44, 2, 1⟩
def MON_STAT_BUSY : Fld := ⟨0x44, 3, 2⟩
def MON_STAT_PEND : Fld := ⟨0x44, 5, 2⟩
def MON_STAT_UPEND : Fld := ⟨0x44, 7, 2⟩
def MON_STAT_SSUSP : Fld := ⟨0x44, 9, 2⟩
def MON_STAT_SPOS_A : Fld := ⟨0x44, 12, 4⟩
def MON_STAT_SPOS_B : Fld := ⟨0x44, 16, 4⟩
def MON_CONV_KIND : Fld := ⟨0x48, 0, 2⟩
def MON_CONV_CONV : Fld := ⟨0x48, 2, 2⟩
def MON_CONV_GO : Fld := ⟨0x48, 31, 1⟩
def MON_NSEL_A_INPUT : Fld := ⟨0x4C, 0, 16⟩
def MON_NSEL_B_INPUT : Fld := ⟨0x50, 0, 16⟩
def MON_SWP_A_LO_ENTRY : Fld := ⟨0x54, 0, 32⟩
def MON_SWP_A_HI_ENTRY : Fld := ⟨0x58, 0, 32⟩
def MON_SWP_B_LO_ENTRY : Fld := ⟨0x5C, 0, 32⟩
def MON_SWP_B_HI_ENTRY : Fld := ⟨0x60, 0, 32⟩
def MON_LIST_CTL_SLEN_A : Fld := ⟨0x64, 0, 4⟩
def MON_LIST_CTL_ULEN_A : Fld := ⟨0x64, 4, 2⟩
def MON_LIST_CTL_CONT_A : Fld := ⟨0x64, 6, 1⟩
def MON_LIST_CTL_SLEN_B : Fld := ⟨0x64, 8, 4⟩
def MON_LIST_CTL_ULEN_B : Fld := ⟨0x64, 12, 2⟩
def MON_LIST_CTL_CONT_B : Fld := ⟨0x64, 14, 1⟩
def MON_URG_ENTRY_A : Fld := ⟨0x68, 0, 16⟩
def MON_URG_ENTRY_B : Fld := ⟨0x68, 16, 16⟩
def MON_CMP_INPUT (i : Nat) : Fld := ⟨0x6C + i * 4, 0, 4⟩
def MON_CMP_THR (i : Nat) : Fld := ⟨0x6C + i * 4, 4, 8⟩
def MON_CMP_ACT (i : Nat) : Fld := ⟨0x6C + i * 4, 12, 2⟩
def MON_CMP_KIND (i : Nat) : Fld := ⟨0x6C + i * 4, 14, 2⟩
def MON_CMP_TRIPPED (i : Nat) : Fld := ⟨0x6C + i * 4, 16, 1⟩
def MON_CNT_A_OVERRUN : Fld := ⟨0x7C, 0, 16⟩
def MON_CNT_A_ABORT : Fld := ⟨0x7C, 16, 16⟩
def MON_CNT_B_DROP : Fld := ⟨0x80, 0, 16⟩
def MON_CNT_B_CMP_TRIPS : Fld := ⟨0x80, 16, 16⟩
def MON_CNT_C_REFNS : Fld := ⟨0x84, 0, 16⟩
def MON_CNT_C_IGNORED : Fld := ⟨0x84, 16, 16⟩
def MON_RING_CTL_DEST : Fld := ⟨0x90, 0, 1⟩
def MON_RING_CTL_EN : Fld := ⟨0x90, 1, 1⟩
def MON_RING_CTL_SIZE : Fld := ⟨0x90, 4, 4⟩
def MON_RING_CTL_HALF : Fld := ⟨0x90, 8, 1⟩
def MON_RING_BASE_LO_BASE : Fld := ⟨0x94, 0, 32⟩
def MON_RING_BASE_HI_BASE : Fld := ⟨0x98, 0, 16⟩
def MON_RING_WR_OFS : Fld := ⟨0x9C, 0, 24⟩
def MON_RING_RD_OFS : Fld := ⟨0xA0, 0, 24⟩
def MON_LAST_CODE (i : Nat) : Fld := ⟨0x100 + i * 4, 0, 12⟩
def MON_LAST_VALID (i : Nat) : Fld := ⟨0x100 + i * 4, 12, 1⟩
def MON_LAST_REF_NS (i : Nat) : Fld := ⟨0x100 + i * 4, 13, 1⟩
def MON_LAST_LP (i : Nat) : Fld := ⟨0x100 + i * 4, 14, 1⟩
def MON_LAST_FRAME (i : Nat) : Fld := ⟨0x100 + i * 4, 16, 10⟩
def BIAS_CTL_RANGE : Fld := ⟨0x40, 0, 2⟩
def BIAS_CTL_GROUP : Fld := ⟨0x40, 4, 2⟩
def BIAS_CTL_CLR_SEL : Fld := ⟨0x40, 8, 1⟩
def BIAS_CODE_CODE : Fld := ⟨0x44, 0, 16⟩
def BIAS_STAT_OUT : Fld := ⟨0x48, 0, 16⟩
def BIAS_STAT_AT_CLEAR : Fld := ⟨0x48, 16, 1⟩
def BIAS_STAT_SC : Fld := ⟨0x48, 17, 1⟩
def BIAS_STAT_COMPLY : Fld := ⟨0x48, 18, 1⟩
def BIAS_STAT_RANGE_CHG : Fld := ⟨0x48, 19, 1⟩
def BIAS_STAT_RAMP : Fld := ⟨0x48, 20, 1⟩
def BIAS_STAT_DEGLITCH : Fld := ⟨0x48, 21, 1⟩
def BIAS_CNT_STROBE_IGN : Fld := ⟨0x4C, 0, 16⟩
def BIAS_CNT_SC_EVENTS : Fld := ⟨0x4C, 16, 16⟩
def BIAS_GRP_LD_GROUPS : Fld := ⟨0x80, 0, 4⟩
def BIAS_LDPIN_MASK : Fld := ⟨0x84, 0, 4⟩
def THERM_DIE_THR_A_WARN : Fld := ⟨0x40, 0, 8⟩
def THERM_DIE_THR_A_S1 : Fld := ⟨0x40, 8, 8⟩
def THERM_DIE_THR_A_S2 : Fld := ⟨0x40, 16, 8⟩
def THERM_DIE_THR_A_S3 : Fld := ⟨0x40, 24, 8⟩
def THERM_DIE_THR_B_S4 : Fld := ⟨0x44, 0, 8⟩
def THERM_DIE_THR_B_SHUT : Fld := ⟨0x44, 8, 8⟩
def THERM_DIE_T : Fld := ⟨0x48, 0, 16⟩
def THERM_DIE_VALID : Fld := ⟨0x48, 16, 1⟩
def THERM_DIE_BROKEN : Fld := ⟨0x48, 17, 1⟩
def THERM_DIE_CAUSE : Fld := ⟨0x48, 18, 3⟩
def THERM_STAT_STEP : Fld := ⟨0x4C, 0, 3⟩
def THERM_STAT_WARN : Fld := ⟨0x4C, 3, 1⟩
def THERM_STAT_SHUT : Fld := ⟨0x4C, 4, 1⟩
def THERM_STAT_LEAD : Fld := ⟨0x4C, 5, 4⟩
def THERM_STAT_HELD : Fld := ⟨0x4C, 9, 1⟩
def THERM_BROKEN_SENSOR : Fld := ⟨0x50, 0, 9⟩
def THERM_CLR_EXT : Fld := ⟨0x54, 1, 8⟩
def THERM_CNT_STEP_UP : Fld := ⟨0x58, 0, 12⟩
def THERM_CNT_BROKEN : Fld := ⟨0x58, 12, 12⟩
def THERM_CNT_CLR_REF : Fld := ⟨0x58, 24, 8⟩
def THERM_EXT_CFG_EN (i : Nat) : Fld := ⟨0x80 + i * 16, 0, 1⟩
def THERM_EXT_CFG_CONV (i : Nat) : Fld := ⟨0x80 + i * 16, 1, 1⟩
def THERM_EXT_CFG_INPUT (i : Nat) : Fld := ⟨0x80 + i * 16, 2, 4⟩
def THERM_EXT_CFG_S4 (i : Nat) : Fld := ⟨0x80 + i * 16, 8, 8⟩
def THERM_EXT_CFG_STUCK_S (i : Nat) : Fld := ⟨0x80 + i * 16, 16, 8⟩
def THERM_EXT_THR_WARN (i : Nat) : Fld := ⟨0x84 + i * 16, 0, 8⟩
def THERM_EXT_THR_S1 (i : Nat) : Fld := ⟨0x84 + i * 16, 8, 8⟩
def THERM_EXT_THR_S2 (i : Nat) : Fld := ⟨0x84 + i * 16, 16, 8⟩
def THERM_EXT_THR_S3 (i : Nat) : Fld := ⟨0x84 + i * 16, 24, 8⟩
def THERM_EXT_LIM_CODE_LO (i : Nat) : Fld := ⟨0x88 + i * 16, 0, 12⟩
def THERM_EXT_LIM_CODE_HI (i : Nat) : Fld := ⟨0x88 + i * 16, 16, 12⟩
def THERM_EXT_T_T (i : Nat) : Fld := ⟨0x8C + i * 16, 0, 16⟩
def THERM_EXT_T_VALID (i : Nat) : Fld := ⟨0x8C + i * 16, 16, 1⟩
def THERM_EXT_T_BROKEN (i : Nat) : Fld := ⟨0x8C + i * 16, 17, 1⟩
def THERM_EXT_T_CAUSE (i : Nat) : Fld := ⟨0x8C + i * 16, 18, 3⟩
def THERM_EXT_LUT_T (i j : Nat) : Fld := ⟨0x200 + i * 80 + j * 4, 0, 16⟩
def HAUL_CTL_EN : Fld := ⟨0x40, 0, 1⟩
def HAUL_CTL_FMT : Fld := ⟨0x40, 1, 1⟩
def HAUL_LINK_STATE : Fld := ⟨0x44, 0, 3⟩
def HAUL_LINK_CAUSE : Fld := ⟨0x44, 4, 4⟩
def HAUL_LINK_PEER_MASTER : Fld := ⟨0x44, 8, 1⟩
def HAUL_PEER_ADDR : Fld := ⟨0x48, 0, 16⟩
def HAUL_PEER_ADDRESSED : Fld := ⟨0x48, 16, 1⟩
def HAUL_PEER_HOPS : Fld := ⟨0x48, 17, 7⟩
def HAUL_PLAY_PLAY : Fld := ⟨0x4C, 0, 24⟩
def HAUL_ARRIVE_WORST : Fld := ⟨0x50, 0, 24⟩
def HAUL_LOAD_TX : Fld := ⟨0x54, 0, 12⟩
def HAUL_LOAD_RX : Fld := ⟨0x54, 16, 12⟩
def HAUL_ASYM_ASYM : Fld := ⟨0x58, 0, 16⟩
def HAUL_OFS_THETA : Fld := ⟨0x5C, 0, 16⟩
def HAUL_OFS_SPREAD : Fld := ⟨0x5C, 16, 16⟩
def HAUL_RTT_RTT : Fld := ⟨0x60, 0, 24⟩
def HAUL_CREDIT_AVAIL : Fld := ⟨0x64, 0, 12⟩
def HAUL_CREDIT_USED : Fld := ⟨0x64, 16, 12⟩
def HAUL_RANGE_FIRST : Fld := ⟨0x68, 0, 16⟩
def HAUL_RANGE_LAST : Fld := ⟨0x68, 16, 16⟩
def HAUL_CNT_A_CRC_FAIL : Fld := ⟨0x6C, 0, 16⟩
def HAUL_CNT_A_POISON_IN : Fld := ⟨0x6C, 16, 16⟩
def HAUL_CNT_B_LATE : Fld := ⟨0x70, 0, 16⟩
def HAUL_CNT_B_RESYNC : Fld := ⟨0x70, 16, 16⟩
def HAUL_CNT_C_LINK_DOWN : Fld := ⟨0x74, 0, 8⟩
def HAUL_CNT_C_SYNC_LATE : Fld := ⟨0x74, 8, 8⟩
def HAUL_CNT_C_MGMT_DROP : Fld := ⟨0x74, 16, 16⟩
def HAUL_CNT_D_MISMATCH : Fld := ⟨0x78, 0, 16⟩
def HAUL_CNT_D_OVERFLOW : Fld := ⟨0x78, 16, 16⟩
def HAUL_PLAYMEM_BYTES : Fld := ⟨0x7C, 0, 21⟩
def HAUL_CASC_CTL_MASTER_REQ : Fld := ⟨0x100, 0, 1⟩
def HAUL_CASC_CTL_ENUM : Fld := ⟨0x100, 1, 1⟩
def HAUL_CASC_CTL_KEEP : Fld := ⟨0x100, 2, 1⟩
def HAUL_CASC_CTL_SYNC_GO : Fld := ⟨0x100, 3, 1⟩
def HAUL_CASC_STAT_MASTER : Fld := ⟨0x104, 0, 1⟩
def HAUL_CASC_STAT_STRAP : Fld := ⟨0x104, 1, 1⟩
def HAUL_CASC_STAT_ADDRESSED : Fld := ⟨0x104, 2, 1⟩
def HAUL_CASC_STAT_ENUM_BUSY : Fld := ⟨0x104, 3, 1⟩
def HAUL_CASC_STAT_HOPS : Fld := ⟨0x104, 4, 7⟩
def HAUL_CASC_STAT_ROOT_MODE : Fld := ⟨0x104, 12, 3⟩
def HAUL_CASC_STAT_ROOT_HOLD_OK : Fld := ⟨0x104, 15, 1⟩
def HAUL_CASC_STAT_ADDR : Fld := ⟨0x104, 16, 16⟩
def HAUL_CASC_COUNT_DEVICES : Fld := ⟨0x108, 0, 17⟩
def HAUL_CASC_COUNT_REFUSED : Fld := ⟨0x108, 24, 8⟩
def HAUL_SYNC_LO_TICK : Fld := ⟨0x10C, 0, 23⟩
def HAUL_SYNC_LO_FRAME_LO : Fld := ⟨0x10C, 23, 9⟩
def HAUL_SYNC_HI_FRAME_HI : Fld := ⟨0x110, 0, 1⟩
def HAUL_SYNC_HI_LOCAL : Fld := ⟨0x110, 1, 1⟩
def HAUL_SYNC_HI_SEQ : Fld := ⟨0x110, 8, 8⟩
def HAUL_SYNC_HI_MASK : Fld := ⟨0x110, 16, 16⟩
def HAUL_BR_GAIN (i : Nat) : Fld := ⟨0x400 + i * 4, 0, 16⟩
def HAUL_BR_ATT (i : Nat) : Fld := ⟨0x400 + i * 4, 16, 8⟩
def HAUL_BR_GATED (i : Nat) : Fld := ⟨0x400 + i * 4, 24, 1⟩
def QMGR_CTL_EN : Fld := ⟨0x40, 0, 1⟩
def QMGR_CTX_BASE_LO_BASE : Fld := ⟨0x44, 0, 32⟩
def QMGR_CTX_BASE_HI_BASE : Fld := ⟨0x48, 0, 16⟩
def QMGR_CTX_LIMIT_DEVICES : Fld := ⟨0x4C, 0, 17⟩
def QMGR_DOORBELL_QUEUE : Fld := ⟨0x50, 0, 20⟩
def QMGR_TMO_TMO : Fld := ⟨0x54, 0, 16⟩
def QMGR_STAT_RUN : Fld := ⟨0x58, 0, 1⟩
def QMGR_STAT_OUTSTANDING : Fld := ⟨0x58, 16, 13⟩
def QMGR_CNT_A_DB_IGN : Fld := ⟨0x5C, 0, 16⟩
def QMGR_CNT_A_TIMEOUT : Fld := ⟨0x5C, 16, 16⟩
def QMGR_CNT_B_STALE : Fld := ⟨0x60, 0, 16⟩
def QMGR_CNT_B_LATE_RSP : Fld := ⟨0x60, 16, 16⟩
def QMGR_CNT_C_DROP_EVT : Fld := ⟨0x64, 0, 16⟩
def QMGR_CNT_C_UNREACH : Fld := ⟨0x64, 16, 16⟩
def QMGR_CNT_D_PORT_WAIT : Fld := ⟨0x68, 0, 16⟩
def QMGR_LAST_ERR_QUEUE : Fld := ⟨0x6C, 0, 20⟩
def QMGR_LAST_ERR_CODE : Fld := ⟨0x6C, 24, 4⟩
def PG_ID_TYPE : Fld := ⟨0x0, 24, 8⟩
def PG_ID_INSTANCE : Fld := ⟨0x0, 12, 12⟩
def PG_ID_REV : Fld := ⟨0x0, 0, 12⟩
def PG_CAP_NPAGES : Fld := ⟨0x4, 0, 8⟩
def PG_CAP_SHADOW : Fld := ⟨0x4, 8, 1⟩
def PG_CAP_CLAIMS : Fld := ⟨0x4, 9, 1⟩
def PG_CAP_FIXED_EN : Fld := ⟨0x4, 10, 1⟩
def PG_CAP_SRC : Fld := ⟨0x4, 16, 10⟩
def PG_CTL_EN : Fld := ⟨0x8, 0, 1⟩
def PG_CTL_SOFT_RST : Fld := ⟨0x8, 1, 1⟩
def PG_CTL_COMMIT : Fld := ⟨0x8, 2, 1⟩
def PG_CTL_COMMIT_AT_EVENT : Fld := ⟨0x8, 3, 1⟩
def PG_CTL_ARMED : Fld := ⟨0x8, 4, 1⟩
def PG_STAT_REQ : Fld := ⟨0xC, 0, 4⟩
def PG_STAT_EFF : Fld := ⟨0xC, 4, 4⟩
def PG_STAT_DIVERGE : Fld := ⟨0xC, 8, 1⟩
def PG_STAT_BUSY : Fld := ⟨0xC, 9, 1⟩
def PG_STAT_SHADOW_PENDING : Fld := ⟨0xC, 10, 1⟩
def PG_EVT_EVT : Fld := ⟨0x10, 0, 32⟩
def PG_EVT_EN_EN : Fld := ⟨0x14, 0, 32⟩
def PG_EVT_SET_SET : Fld := ⟨0x18, 0, 32⟩
def PG_FLT_FLT : Fld := ⟨0x1C, 0, 32⟩
def PG_OWN_INDEX : Fld := ⟨0x24, 0, 8⟩
def PG_OWN_CLASS : Fld := ⟨0x24, 8, 2⟩
def PG_OWN_FEATURE : Fld := ⟨0x24, 10, 4⟩
def PG_OWN_OWNER : Fld := ⟨0x24, 14, 14⟩
def PG_OWN_VALID : Fld := ⟨0x24, 31, 1⟩
def PG_SEQ_SEQ : Fld := ⟨0x28, 0, 32⟩
def PIN_OWN_OWNER (i : Nat) : Fld := ⟨0x400 + i * 4, 0, 14⟩
def PIN_OWN_FEATURE (i : Nat) : Fld := ⟨0x400 + i * 4, 14, 4⟩
def PIN_OWN_OWNED (i : Nat) : Fld := ⟨0x400 + i * 4, 31, 1⟩
def XLAT_CTL_EN : Fld := ⟨0x40, 0, 1⟩
def XLAT_L1_BASE_LO_BASE : Fld := ⟨0x44, 12, 20⟩
def XLAT_L1_BASE_HI_BASE : Fld := ⟨0x48, 0, 32⟩
def XLAT_L1_CFG_LOG2 : Fld := ⟨0x4C, 0, 5⟩
def XLAT_INV_LO_ADDR : Fld := ⟨0x50, 12, 20⟩
def XLAT_INV_HI_ADDR : Fld := ⟨0x54, 0, 16⟩
def XLAT_INV_CTL_SIZE : Fld := ⟨0x58, 0, 6⟩
def XLAT_INV_CTL_ALL : Fld := ⟨0x58, 8, 1⟩
def XLAT_INV_CTL_GO : Fld := ⟨0x58, 31, 1⟩
def XLAT_STAT_FIFO_CNT : Fld := ⟨0x5C, 0, 7⟩
def XLAT_STAT_INV_BUSY : Fld := ⟨0x5C, 8, 1⟩
def XLAT_STAT_FIFO_OVF : Fld := ⟨0x5C, 9, 1⟩
def XLAT_FIFO_ENTRY (i : Nat) : Fld := ⟨0x60 + i * 4, 0, 32⟩
def XLAT_CNT_A_MISS : Fld := ⟨0x70, 0, 16⟩
def XLAT_CNT_A_FAULTS : Fld := ⟨0x70, 16, 16⟩
def XLAT_CNT_B_FIFO_LOST : Fld := ⟨0x74, 0, 16⟩
def DMA_CTL_GO : Fld := ⟨0x40, 0, 1⟩
def DMA_CTL_RESUME : Fld := ⟨0x40, 1, 1⟩
def DMA_CTL_ABORT : Fld := ⟨0x40, 2, 1⟩
def DMA_CTL_PRIO : Fld := ⟨0x40, 4, 2⟩
def DMA_CTL_CLIENT : Fld := ⟨0x40, 8, 3⟩
def DMA_STAT_STATE : Fld := ⟨0x44, 0, 3⟩
def DMA_STAT_KIND : Fld := ⟨0x44, 3, 4⟩
def DMA_STAT_FEED_SPACE : Fld := ⟨0x44, 8, 9⟩
def DMA_SRC_LO_SRC : Fld := ⟨0x48, 0, 32⟩
def DMA_SRC_HI_SRC : Fld := ⟨0x4C, 0, 32⟩
def DMA_DST_LO_DST : Fld := ⟨0x50, 0, 32⟩
def DMA_DST_HI_DST : Fld := ⟨0x54, 0, 32⟩
def DMA_LEN_LEN : Fld := ⟨0x58, 0, 32⟩
def DMA_FLAGS_CHAIN : Fld := ⟨0x5C, 0, 1⟩
def DMA_FLAGS_IRQ_DONE : Fld := ⟨0x5C, 1, 1⟩
def DMA_NEXT_LO_NEXT : Fld := ⟨0x60, 0, 32⟩
def DMA_NEXT_HI_NEXT : Fld := ⟨0x64, 0, 32⟩
def DMA_BEAT_BEAT : Fld := ⟨0x68, 0, 26⟩
def DMA_DONE_BYTES_BYTES : Fld := ⟨0x6C, 0, 32⟩
def DMA_FEED_WORD : Fld := ⟨0x70, 0, 32⟩
def DMA_RING_BASE_LO_BASE : Fld := ⟨0x74, 0, 32⟩
def DMA_RING_BASE_HI_BASE : Fld := ⟨0x78, 0, 32⟩
def DMA_RING_CFG_SIZE : Fld := ⟨0x7C, 0, 4⟩
def DMA_RING_WR_OFS : Fld := ⟨0x80, 0, 24⟩
def DMA_RING_RD_OFS : Fld := ⟨0x84, 0, 24⟩
def DMA_SNAP_CH : Fld := ⟨0x88, 0, 8⟩
def DMA_SNAP_J : Fld := ⟨0x88, 8, 2⟩
def DMA_SNAP_POINT : Fld := ⟨0x88, 10, 2⟩
def DMA_SNAP_RUN : Fld := ⟨0x88, 12, 1⟩
def DMA_TRACE_SEL_ENG (i : Nat) : Fld := ⟨0x8C + i * 4, 0, 32⟩
def DMA_CNT_DROP : Fld := ⟨0x98, 0, 16⟩
def DMA_CNT_FAULTS : Fld := ⟨0x98, 16, 16⟩
def IRQ_CTL_PIN_EN : Fld := ⟨0x40, 0, 1⟩
def IRQ_STAT_HOSTSEL : Fld := ⟨0x44, 0, 1⟩
def IRQ_STAT_V0 : Fld := ⟨0x44, 1, 1⟩
def IRQ_STAT_IRQ_N : Fld := ⟨0x44, 2, 1⟩
def IRQ_ACK_VEC : Fld := ⟨0x48, 0, 6⟩
def IRQ_ARMED_LO_ARMED : Fld := ⟨0x4C, 0, 32⟩
def IRQ_ARMED_HI_ARMED : Fld := ⟨0x50, 0, 32⟩
def IRQ_GRP_CFG_VEC (i : Nat) : Fld := ⟨0x80 + i * 4, 0, 6⟩
def IRQ_GRP_CFG_MASK (i : Nat) : Fld := ⟨0x80 + i * 4, 8, 1⟩
def IRQ_GRP_STAT_PEND (i : Nat) : Fld := ⟨0x100 + i * 4, 0, 32⟩
def IRQ_MSIX_ENTRY (i : Nat) : Fld := ⟨0x800 + i * 4, 0, 32⟩
def IRQ_PBA_PEND (i : Nat) : Fld := ⟨0xC00 + i * 4, 0, 32⟩
def PG_FLT_INJ_CHK : Fld := ⟨0x20, 0, 4⟩
def PG_FLT_INJ_MODE : Fld := ⟨0x20, 4, 2⟩
def PG_FLT_INJ_CONT : Fld := ⟨0x20, 6, 1⟩
def PG_FLT_INJ_DONE : Fld := ⟨0x20, 7, 1⟩
def FAULT_STAT_LAST_SRC : Fld := ⟨0x40, 0, 8⟩
def FAULT_STAT_ANY_C : Fld := ⟨0x40, 8, 1⟩
def FAULT_STAT_ANY_U : Fld := ⟨0x40, 9, 1⟩
def FAULT_STAT_ANY_F : Fld := ⟨0x40, 10, 1⟩
def FAULT_STAT_ERR_N : Fld := ⟨0x40, 11, 1⟩
def FAULT_CTL_ERR_ACK : Fld := ⟨0x44, 0, 1⟩
def FAULT_CNT_X_ACK_REF : Fld := ⟨0x48, 0, 16⟩
def FAULT_CNT_X_INJ : Fld := ⟨0x48, 16, 16⟩
def FAULT_STICKY_STICKY (i : Nat) : Fld := ⟨0x80 + i * 4, 0, 32⟩
def FAULT_BLK_FIRST_SRC (i : Nat) : Fld := ⟨0x100 + i * 8, 0, 8⟩
def FAULT_BLK_FIRST_PAGE (i : Nat) : Fld := ⟨0x100 + i * 8, 8, 14⟩
def FAULT_BLK_FIRST_CLASS (i : Nat) : Fld := ⟨0x100 + i * 8, 22, 2⟩
def FAULT_BLK_MERGED (i : Nat) : Fld := ⟨0x100 + i * 8, 24, 1⟩
def FAULT_BLK_INJ (i : Nat) : Fld := ⟨0x100 + i * 8, 25, 1⟩
def FAULT_BLK_ACTIVE (i : Nat) : Fld := ⟨0x100 + i * 8, 26, 1⟩
def FAULT_BLK_VALID (i : Nat) : Fld := ⟨0x100 + i * 8, 31, 1⟩
def FAULT_BLK_T_TICK (i : Nat) : Fld := ⟨0x104 + i * 8, 0, 23⟩
def FAULT_BLK_T_FRAME (i : Nat) : Fld := ⟨0x104 + i * 8, 23, 9⟩
def FAULT_REACT_IRQ (i : Nat) : Fld := ⟨0x400 + i * 4, 0, 1⟩
def FAULT_REACT_ERRN (i : Nat) : Fld := ⟨0x400 + i * 4, 1, 1⟩
def FAULT_REACT_TRAP (i : Nat) : Fld := ⟨0x400 + i * 4, 2, 1⟩
def FAULT_REACT_BLK_RST (i : Nat) : Fld := ⟨0x400 + i * 4, 3, 1⟩
def FAULT_REACT_CHIP_RST (i : Nat) : Fld := ⟨0x400 + i * 4, 4, 1⟩
def FAULT_REACT_CLASS (i : Nat) : Fld := ⟨0x400 + i * 4, 8, 2⟩
def FAULT_REACT_DEF_CLASS (i : Nat) : Fld := ⟨0x400 + i * 4, 12, 2⟩
def FAULT_REACT_FIXED (i : Nat) : Fld := ⟨0x400 + i * 4, 16, 5⟩
def FAULT_CNT_COUNT (i : Nat) : Fld := ⟨0x800 + i * 4, 0, 32⟩
def REC_CTL_FLUSH : Fld := ⟨0x40, 0, 1⟩
def REC_CTL_CLEAR : Fld := ⟨0x40, 1, 1⟩
def REC_CTL_ADOPT : Fld := ⟨0x40, 2, 1⟩
def REC_CTL_SCOPE : Fld := ⟨0x40, 4, 3⟩
def REC_CTL_FLUSH_F : Fld := ⟨0x40, 8, 1⟩
def REC_CTL_FLUSH_U : Fld := ⟨0x40, 9, 1⟩
def REC_CTL_FLUSH_RFOFF : Fld := ⟨0x40, 10, 1⟩
def REC_STAT_STATE : Fld := ⟨0x44, 0, 3⟩
def REC_STAT_TAIL_READY : Fld := ⟨0x44, 3, 1⟩
def REC_STAT_TIME_GAP : Fld := ⟨0x44, 4, 1⟩
def REC_STAT_TAIL_USED : Fld := ⟨0x44, 5, 1⟩
def REC_STAT_LOCKED : Fld := ⟨0x44, 6, 1⟩
def REC_STAT_CAUSE : Fld := ⟨0x44, 8, 4⟩
def REC_STAT_CLR_RESULT : Fld := ⟨0x44, 12, 4⟩
def REC_STAT_SLOTS : Fld := ⟨0x44, 16, 9⟩
def REC_TIME_LO_SEC : Fld := ⟨0x48, 0, 32⟩
def REC_TIME_HI_SEC : Fld := ⟨0x4C, 0, 8⟩
def REC_HMS_SEC : Fld := ⟨0x50, 0, 12⟩
def REC_HMS_HOURS : Fld := ⟨0x50, 12, 20⟩
def REC_PCC_COUNT : Fld := ⟨0x54, 0, 32⟩
def REC_SEQ_SEQ : Fld := ⟨0x58, 0, 32⟩
def REC_NONCE_LO_NONCE : Fld := ⟨0x5C, 0, 32⟩
def REC_NONCE_HI_NONCE : Fld := ⟨0x60, 0, 32⟩
def REC_CFG_FAULT_GAP : Fld := ⟨0x64, 0, 8⟩
def REC_HOST_INC_CTR : Fld := ⟨0x70, 0, 4⟩
def REC_TOKEN_DIGEST (i : Nat) : Fld := ⟨0x80 + i * 4, 0, 32⟩
def REC_LW_WORDS (i : Nat) : Fld := ⟨0xC0 + i * 4, 0, 32⟩
def REC_HIST_CFG_ORIGIN (i : Nat) : Fld := ⟨0x400 + i * 8, 0, 16⟩
def REC_HIST_CFG_WIDTH (i : Nat) : Fld := ⟨0x400 + i * 8, 16, 16⟩
def REC_HIST_BIND_CH (i : Nat) : Fld := ⟨0x404 + i * 8, 0, 8⟩
def REC_HIST_BIND_QTY (i : Nat) : Fld := ⟨0x404 + i * 8, 8, 2⟩
def REC_HIST_BIND_BIND (i : Nat) : Fld := ⟨0x404 + i * 8, 31, 1⟩
def OBS_CTL_TRACE_EN : Fld := ⟨0x40, 0, 1⟩
def OBS_CTL_TIME_EN : Fld := ⟨0x40, 1, 1⟩
def OBS_CTL_CNT_EN : Fld := ⟨0x40, 2, 1⟩
def OBS_CTL_CNT_PER : Fld := ⟨0x40, 4, 4⟩
def OBS_CNT_RANGE_FIRST : Fld := ⟨0x44, 0, 11⟩
def OBS_CNT_RANGE_LAST : Fld := ⟨0x44, 16, 11⟩
def OBS_ENG_SEL_ENG (i : Nat) : Fld := ⟨0x48 + i * 4, 0, 32⟩
def OBS_STAT_FIFO_LVL : Fld := ⟨0x54, 0, 9⟩
def OBS_STAT_SWEEP : Fld := ⟨0x54, 9, 1⟩
def OBS_STAT_FROZEN : Fld := ⟨0x54, 10, 1⟩
def OBS_DROP_TRACE : Fld := ⟨0x58, 0, 16⟩
def OBS_DROP_SWEEP_SKIP : Fld := ⟨0x58, 16, 16⟩
def OBS_PC_CTL_FREEZE : Fld := ⟨0x5C, 0, 1⟩
def OBS_PC_CTL_CLEAR : Fld := ⟨0x5C, 1, 1⟩
def OBS_PC_LO_COUNT (i : Nat) : Fld := ⟨0x1000 + i * 8, 0, 32⟩
def OBS_PC_HI_COUNT (i : Nat) : Fld := ⟨0x1004 + i * 8, 0, 16⟩
def PIN_STRAP_MASTER : Fld := ⟨0x40, 0, 1⟩
def PIN_STRAP_CLRSEL : Fld := ⟨0x40, 1, 1⟩
def PIN_STRAP_TEST : Fld := ⟨0x40, 2, 1⟩
def PIN_STRAP_HOSTSEL : Fld := ⟨0x40, 3, 1⟩
def PIN_STRAP_REFSRC : Fld := ⟨0x40, 4, 1⟩
def PIN_BANK_BANK : Fld := ⟨0x44, 0, 12⟩
def PIN_BANK_NVM : Fld := ⟨0x44, 12, 2⟩
def PIN_SUPPLY_OK : Fld := ⟨0x48, 0, 8⟩
def PIN_SUPPLY_DIP : Fld := ⟨0x48, 16, 8⟩
def PIN_DRIVE_B : Fld := ⟨0x4C, 0, 2⟩
def PIN_DRIVE_C : Fld := ⟨0x4C, 2, 2⟩
def PIN_DRIVE_D : Fld := ⟨0x4C, 4, 2⟩
def DEV_BOOT_FABRIC : Fld := ⟨0x58, 0, 1⟩
def DEV_BOOT_PLL_OK : Fld := ⟨0x58, 1, 1⟩
def DEV_BOOT_REC_DONE : Fld := ⟨0x58, 2, 1⟩
def DEV_BOOT_DIE_OK : Fld := ⟨0x58, 3, 1⟩
def DEV_BOOT_CAUSE : Fld := ⟨0x58, 4, 4⟩
def DEV_BOOT_REC_MS : Fld := ⟨0x58, 16, 16⟩

end Sys2Proof.Machine.R
end

