-- ==== Sys2Proof/Machine/Faults.lean ====
section
/-! DEFINITION. The fault sources of Table 16-2, the checkers of Table 16-5, and what each kind of page fixes. -/

namespace Sys2Proof.Machine

/-- A row of Table 16-2: the pages that raise the source (none: the page of the refused commit), its PG_FLT bit, class,
whether it is a level source, and its default and fixed reactions (bit order of FAULT_REACT: I, E, T, B, X). -/
structure FaultRow where
  blk : Option Blk
  bit : Nat
  cls : Nat
  level : Bool
  dflt : Nat
  fixed : Nat
  deriving DecidableEq, Repr

/-- Sources 0 to 15 of Table 16-2. -/
def faultRowLow : Nat → Option FaultRow
  | 0 => some ⟨some .dev, 0, 3, true, 0x13, 0x10⟩
  | 1 => some ⟨some .dev, 1, 3, true, 0x13, 0x10⟩
  | 2 => some ⟨some .dev, 2, 3, true, 0x13, 0x10⟩
  | 3 => some ⟨some .dev, 3, 2, true, 0x01, 0⟩
  | 4 => some ⟨some .dev, 4, 2, true, 0x03, 0⟩
  | 5 => some ⟨some .dev, 5, 2, false, 0x01, 0⟩
  | 6 => some ⟨some .dev, 6, 2, true, 0x01, 0⟩
  | 7 => some ⟨none, 30, 2, false, 0x01, 0⟩
  | 8 => some ⟨some .frame, 0, 1, false, 0x01, 0⟩
  | 9 => some ⟨some .frame, 1, 2, false, 0x01, 0⟩
  | 10 => some ⟨some .frame, 2, 2, false, 0x01, 0⟩
  | _ => none

/-- Sources 16 + 8n + k of Table 16-2, by k. -/
def faultRowBench : Nat → Option FaultRow
  | 0 => some ⟨some .bench, 0, 1, false, 0x01, 0⟩
  | 1 => some ⟨some .bench, 1, 2, false, 0x01, 0⟩
  | 2 => some ⟨some .eng, 0, 1, false, 0x01, 0⟩
  | 3 => some ⟨some .eng, 1, 3, false, 0x07, 0⟩
  | 4 => some ⟨some .eng, 2, 1, false, 0x01, 0⟩
  | 5 => some ⟨some .eng, 3, 3, false, 0x07, 0x04⟩
  | 6 => some ⟨some .eng, 4, 3, false, 0x07, 0x04⟩
  | 7 => some ⟨some .eng, 5, 3, false, 0x03, 0⟩
  | _ => none

/-- Sources 112 to 151 of Table 16-2. -/
def faultRowMid : Nat → Option FaultRow
  | 112 => some ⟨some .ch, 0, 2, true, 0x01, 0⟩
  | 113 => some ⟨some .ch, 1, 2, false, 0x01, 0⟩
  | 114 => some ⟨some .ch, 2, 1, false, 0x01, 0⟩
  | 115 => some ⟨some .ch, 3, 2, true, 0x01, 0⟩
  | 120 => some ⟨some .adc, 0, 2, false, 0x01, 0⟩
  | 121 => some ⟨some .adc, 1, 2, false, 0x01, 0⟩
  | 122 => some ⟨some .syn, 0, 2, true, 0x01, 0⟩
  | 123 => some ⟨some .cal, 0, 1, false, 0x01, 0⟩
  | 124 => some ⟨some .cal, 1, 2, true, 0x01, 0⟩
  | 128 => some ⟨some .fe, 0, 2, false, 0x01, 0⟩
  | 129 => some ⟨some .mon, 0, 2, true, 0x01, 0⟩
  | 130 => some ⟨some .mon, 1, 2, false, 0x01, 0⟩
  | 131 => some ⟨some .bias, 0, 2, true, 0x01, 0⟩
  | 136 => some ⟨some .therm, 0, 2, true, 0x01, 0⟩
  | 137 => some ⟨some .therm, 1, 3, true, 0x03, 0⟩
  | 138 => some ⟨some .therm, 2, 3, true, 0x03, 0⟩
  | 144 => some ⟨some .prot, 0, 2, false, 0x03, 0⟩
  | _ => none

/-- Sources 152 + 8h + k of Table 16-2, by k. -/
def faultRowHaul : Nat → Option FaultRow
  | 0 => some ⟨some .haul, 0, 2, false, 0x01, 0⟩
  | 1 => some ⟨some .haul, 1, 2, true, 0x01, 0⟩
  | 2 => some ⟨some .haul, 2, 1, false, 0x01, 0⟩
  | 3 => some ⟨some .haul, 3, 2, false, 0x01, 0⟩
  | 4 => some ⟨some .haul, 4, 1, false, 0x01, 0⟩
  | 5 => some ⟨some .haul, 5, 2, false, 0x01, 0⟩
  | _ => none

/-- Sources 176 to 255 of Table 16-2. -/
def faultRowHigh : Nat → Option FaultRow
  | 176 => some ⟨some .qmgr, 0, 2, false, 0x01, 0⟩
  | 177 => some ⟨some .qmgr, 1, 1, false, 0x01, 0⟩
  | 178 => some ⟨some .qmgr, 2, 2, false, 0x01, 0⟩
  | 179 => some ⟨some .qmgr, 3, 2, false, 0x01, 0⟩
  | 184 => some ⟨some .xlat, 0, 1, false, 0x01, 0⟩
  | 185 => some ⟨some .dma, 0, 1, false, 0x01, 0⟩
  | 192 => some ⟨some .dev, 8, 1, false, 0x01, 0⟩
  | 193 => some ⟨some .dev, 9, 2, false, 0x01, 0⟩
  | 194 => some ⟨some .dev, 10, 2, true, 0x02, 0⟩
  | 200 => some ⟨some .recorder, 0, 2, false, 0x01, 0⟩
  | 201 => some ⟨some .recorder, 1, 1, false, 0x01, 0⟩
  | 202 => some ⟨some .recorder, 2, 2, false, 0x01, 0⟩
  | 203 => some ⟨some .recorder, 3, 2, false, 0x01, 0⟩
  | 208 => some ⟨some .obs, 0, 2, false, 0, 0⟩
  | _ => none

/-- The row of Table 16-2 for source `f`; none for the reserved sources, which never set (R354). -/
def faultRow (f : Nat) : Option FaultRow :=
  if f < 16 then faultRowLow f
  else if f < 112 then faultRowBench ((f - 16) % 8)
  else if f < 152 then faultRowMid f
  else if f < 176 then faultRowHaul ((f - 152) % 8)
  else faultRowHigh f

/-- The reset word of FAULT_REACT(f) (Table 16-7): reactions, class in effect, default class, fixed reactions. -/
def faultReactReset (f : Nat) : Nat :=
  match faultRow f with
  | some r => r.dflt + r.cls * 0x100 + r.cls * 0x1000 + r.fixed * 0x10000
  | none => 0

/-- How many checkers Table 16-5 gives a kind of page: CHK 0 up to this number. -/
def checkers : Blk → Nat
  | .frame => 2
  | .eng => 4
  | .ch => 2
  | .haul => 3
  | .qmgr => 2
  | .dev => 1
  | .bench => 1
  | .cal => 1
  | .fe => 1
  | .mon => 1
  | .prot => 1
  | .xlat => 1
  | .dma => 1
  | .recorder => 1
  | .obs => 1
  | .adc => 0
  | .dac => 0
  | .syn => 0
  | .bias => 0
  | .therm => 0
  | .irq => 0
  | .fault => 0
  | .pin => 0

/-- PG_CAP.FIXED_EN: the pages whose EN is held at 1 (R334). -/
def fixedEn : Blk → Bool
  | .dev => true
  | .therm => true
  | .prot => true
  | .fault => true
  | .irq => true
  | .pin => true
  | _ => false

/-- PG_CAP.CLAIMS: the pages that can claim resources (Table 15-4). -/
def canClaim : Blk → Bool
  | .fe => true
  | .therm => true
  | .dev => true
  | .dma => true
  | _ => false

/-- The number k of R350 for the first page of each kind outside CH and ENG. -/
def srcBase : Blk → Nat
  | .dev => 0
  | .frame => 1
  | .bench => 2
  | .adc => 14
  | .dac => 22
  | .syn => 30
  | .cal => 32
  | .fe => 33
  | .mon => 34
  | .bias => 35
  | .therm => 51
  | .prot => 52
  | .haul => 53
  | .qmgr => 56
  | .xlat => 57
  | .dma => 58
  | .irq => 74
  | .fault => 75
  | .recorder => 76
  | .obs => 77
  | .pin => 78
  | .ch => 0
  | .eng => 0

/-- The first event source of instance `n` of a page kind (R350, R351). -/
def firstSource (b : Blk) (n : Nat) : Nat :=
  match b with
  | .ch => 2 * n
  | .eng => 384 + 2 * n
  | _ => 576 + 2 * (srcBase b + n)

/-- The PG_EVT bits the first source of a page covers (R351). -/
def firstSourceMask (b : Blk) : Nat :=
  match b with
  | .eng => 0xFFFFFFFB
  | _ => 0x7FFFFFFF

/-- The PG_EVT bits the second source of a page covers (R351). -/
def secondSourceMask (b : Blk) : Nat :=
  match b with
  | .eng => 4
  | _ => 0x80000000

end Sys2Proof.Machine
end

