-- ==== Sys2Proof/Machine/Operands.lean ====
section
/-! DEFINITION. The operand forms of a register access (R8, R28): a BAR0 address as a page, an instance, an offset and a
row of the register map, the fields of a register word, and signed and fixed-point readings of a field. -/

namespace Sys2Proof.Machine

/-- The bits of field `F` in a register word, as a number. -/
def Fld.get (F : Fld) (w : Word) : Nat := (w >>> F.lo).toNat % 2 ^ F.w

/-- The bits of field `F` set in a word. -/
def Fld.mask (F : Fld) : Word := BitVec.ofNat 32 (2 ^ F.w - 1) <<< F.lo

/-- The word `w` with `v` (modulo the field's width) in field `F` and every other bit unchanged. -/
def Fld.put (F : Fld) (w : Word) (v : Nat) : Word :=
  (w &&& ~~~ F.mask) ||| (BitVec.ofNat 32 (v % 2 ^ F.w) <<< F.lo)

/-- The two's complement reading of a `w`-bit number. -/
def signed (w v : Nat) : Int := if 2 ^ (w - 1) ≤ v % 2 ^ w then (v % 2 ^ w : Nat) - (2 ^ w : Nat) else (v % 2 ^ w : Nat)

/-- The two's complement form of `v` in `w` bits. -/
def twos (w : Nat) (v : Int) : Nat := (v % (2 ^ w : Nat)).toNat

/-- `v` limited to the range of a signed `w`-bit number. -/
def satS (w : Nat) (v : Int) : Int :=
  if v < - (2 ^ (w - 1) : Nat) then - (2 ^ (w - 1) : Nat) else if (2 ^ (w - 1) : Nat) - 1 < v then (2 ^ (w - 1) : Nat) - 1 else v

/-- The block of Table 01-16 that holds address `a` (R28). -/
def pageDefAt (a : Nat) : Option PageDef :=
  pageDefs.find? fun p => Nat.ble p.base a && Nat.blt a (p.base + p.count * p.span)

/-- The instance number of address `a` in its block. -/
def instOf (p : PageDef) (a : Nat) : Nat := (a - p.base) / p.span

/-- The offset of address `a` from the start of its instance. -/
def offOf (p : PageDef) (a : Nat) : Nat := (a - p.base) % p.span

/-- The row of the register map that holds offset `off` of a block. -/
def rowAt (p : PageDef) (off : Nat) : Option RegRow :=
  p.rows.find? fun r => Nat.ble r.off off && dimsHit (off - r.off) r.dims

/-- The first page of the block instance that holds address `a`. -/
def pageBase (a : Nat) : Option Nat := (pageDefAt a).map fun p => p.base + instOf p a * p.span

/-- The bits of a row a write can change (R10). -/
def RegRow.writable (r : RegRow) : Nat := r.rw ||| r.w1c ||| r.w1s ||| r.wo ||| r.rwc

/-- Is `a` in the frame event table window (Table 01-16)? -/
def inEventWindow (a : Nat) : Bool := Nat.ble 0x80000 a && Nat.blt a 0x100000

/-- Page addresses of Table 01-16. -/
def pDev : Nat := 0x000000
def pFrame : Nat := 0x001000
def pCh (n : Nat) : Nat := 0x100000 + n * 0x1000
def pEng (n : Nat) : Nat := 0x200000 + n * 0x1000
def pBench (n : Nat) : Nat := 0x280000 + n * 0x1000
def pAdc (n : Nat) : Nat := 0x300000 + n * 0x1000
def pDac (n : Nat) : Nat := 0x308000 + n * 0x1000
def pSyn (n : Nat) : Nat := 0x310000 + n * 0x1000
def pCal : Nat := 0x312000
def pFe : Nat := 0x320000
def pMon : Nat := 0x340000
def pBias (n : Nat) : Nat := 0x350000 + n * 0x1000
def pTherm : Nat := 0x360000
def pProt : Nat := 0x370000
def pHaul (n : Nat) : Nat := 0x380000 + n * 0x1000
def pQmgr : Nat := 0x390000
def pXlat : Nat := 0x3A0000
def pDma (n : Nat) : Nat := 0x3B0000 + n * 0x1000
def pIrq : Nat := 0x3C0000
def pFault : Nat := 0x3D0000
def pRec : Nat := 0x3E0000
def pObs : Nat := 0x3F0000
def pPin : Nat := 0x3F8000

/-- The converter instances are numbered ADC0 to ADC7, then DAC0 to DAC7 (Table 06-11); the page of a converter. -/
def pConv (c : Nat) : Nat := if c < 8 then pAdc c else pDac (c - 8)

/-- The page number of an address, [25:12]. -/
def pageNo (a : Nat) : Nat := a / 0x1000 % 0x4000

/-- The ORIGIN and WIDTH that Table 17-1 gives histogram `h`, in source units, as a REC_HIST_CFG word. -/
def histReset (h : Nat) : Nat :=
  let w (o : Int) (d : Nat) : Nat := twos 16 o + d * 0x10000
  if h ≤ 8 then w (-40 * 256) (5 * 256)
  else if h = 9 then w 4000 50
  else if h = 10 then w (-5000) 500
  else if h ≤ 15 then w 0 1
  else if h ≤ 23 then w 0 256
  else 0

/-- The temperature point of calibration set `s` (R210), in °C. -/
def calPoint : Nat → Int
  | 0 => -40
  | 1 => -20
  | 2 => 0
  | 3 => 25
  | 4 => 50
  | 5 => 75
  | 6 => 95
  | _ => 110

/-- The identity map of ADC_MAP(w): position 6w + i in bits [5i + 4:5i], positions above 15 zero (Table 09-10). -/
def adcMapReset (w : Nat) : Nat :=
  (List.range 6).foldl (fun n i => if 6 * w + i < 16 then n + (6 * w + i) * 2 ^ (5 * i) else n) 0

/-- Reset words that depend on the place in the page: FAULT_REACT (Table 16-2), REC_HIST_CFG (Table 17-1), ADC_MAP,
CALW_HDR.TPOINT, and the mask bit of an MSI-X entry (log entry 5). -/
def specialReset (b : Blk) (off : Nat) : Option Nat :=
  match b with
  | .fault => if 0x400 ≤ off ∧ off < 0x800 then some (faultReactReset ((off - 0x400) / 4)) else none
  | .recorder => if 0x400 ≤ off ∧ off < 0xC00 ∧ off % 8 = 0 then some (histReset ((off - 0x400) / 8)) else none
  | .adc => if 0x50 ≤ off ∧ off < 0x5C then some (adcMapReset ((off - 0x50) / 4)) else none
  | .cal =>
    if 0x1000 ≤ off ∧ off < 0x2400 ∧ (off - 0x1000) % 640 = 0 then
      some (twos 16 (256 * calPoint ((off - 0x1000) / 640)))
    else none
  | .irq => if 0x800 ≤ off ∧ off < 0xC00 ∧ off % 16 = 12 then some 1 else none
  | _ => none

/-- The Reset value of the register at address `a` (R12); reserved offsets and unlisted pages hold zero. -/
def resetNat (a : Nat) : Nat :=
  match pageDefAt a with
  | none => 0
  | some p =>
    match specialReset p.blk (offOf p a) with
    | some v => v
    | none =>
      match rowAt p (offOf p a) with
      | some r => r.reset
      | none => 0

/-- The Reset value of the register at address `a`, as a word. -/
def resetReg (a : Nat) : Word := BitVec.ofNat 32 (resetNat a)

end Sys2Proof.Machine
end

