-- ==== Sys2Proof/Machine/Map.lean ====
section
/-! DEFINITION. Sparse maps in one canonical form: a list of (key, value) pairs with strictly rising keys that lists no
value equal to what an unlisted key reads as. Registers, the event table and every memory of the block are held so. -/

namespace Sys2Proof.Machine

/-- A sparse map from numbers. -/
abbrev SMap (α : Type) := List (Nat × α)

variable {α : Type}

/-- The value at key `k`; an unlisted key reads as `d k`. -/
def mget (d : Nat → α) : SMap α → Nat → α
  | [], k => d k
  | (a, v) :: r, k => if a = k then v else mget d r k

/-- The map without key `k`. -/
def mdel : SMap α → Nat → SMap α
  | [], _ => []
  | (a, v) :: r, k => if a = k then mdel r k else (a, v) :: mdel r k

/-- The map with `v` at key `k`, kept in key order. -/
def mins : SMap α → Nat → α → SMap α
  | [], k, v => [(k, v)]
  | (a, w) :: r, k, v =>
    if k < a then (k, v) :: (a, w) :: r else if a = k then (k, v) :: r else (a, w) :: mins r k v

/-- Write `v` at key `k`: writing what an unlisted key reads as removes the entry. -/
def mset [DecidableEq α] (d : Nat → α) (m : SMap α) (k : Nat) (v : α) : SMap α :=
  if v = d k then mdel m k else mins m k v

/-- The keys rise strictly and all lie above `lo`, and no entry holds what its key reads as unlisted. -/
def mwfFrom [DecidableEq α] (d : Nat → α) : Option Nat → SMap α → Bool
  | _, [] => true
  | lo, (a, v) :: r =>
    (match lo with
      | none => true
      | some l => decide (l < a)) && decide (v ≠ d a) && mwfFrom d (some a) r

/-- The canonical form of a sparse map. -/
def mwf [DecidableEq α] (d : Nat → α) (m : SMap α) : Bool := mwfFrom d none m

/-- Drop every key from `lo` up to (not including) `hi`: those keys read as unlisted again. -/
def mclear : SMap α → Nat → Nat → SMap α
  | [], _, _ => []
  | (a, v) :: r, lo, hi => if lo ≤ a ∧ a < hi then mclear r lo hi else (a, v) :: mclear r lo hi

end Sys2Proof.Machine
end

