-- ==== Sys2Proof/Machine/State.lean ====
section
/-! DEFINITION. The state of the block as plain data, the reasons a step can stop, and the state right after reset. -/

namespace Sys2Proof.Machine

open Sys2Proof

/-- Reasons the block could stop. The spec gives every command an effect, so no meaning raises one. -/
inductive Fault where
  /-- Raised by nobody: no command of the table stops the block. Safe. -/
  | none
  deriving DecidableEq, Repr

/-- Reasons a command could have no meaning. -/
inductive Refusal where
  /-- Raised by the arm of a command that is not modelled yet; safe. -/
  | notModelled (mnemonic : String)
  deriving DecidableEq, Repr

/-! ### Frame time (02) -/

/-- One stretch of a frame's slot map: from tick `lo` up to `hi`, the slot code in force (Table 02-4). -/
structure SlotSpan where
  lo : Nat
  hi : Nat
  code : Nat
  deriving DecidableEq, Repr

/-- An ONOFF message waiting or in force: from this frame and tick on, slots are on or off (R36, R38). -/
structure OnOffMark where
  frame : Nat
  tick : Nat
  on : Bool
  deriving DecidableEq, Repr

/-- A frame event entry as the dispatcher decodes it (Table 02-7). -/
structure Entry where
  valid : Bool
  every : Bool
  frame : Nat
  tick : Nat
  cls : Nat
  inst : Nat
  action : Nat
  govEn : Bool
  govGrp : Nat
  lead : Nat
  arg : Nat
  deriving DecidableEq, Repr

/-- An action in the issue queue or pending: its table index, its content and the counter time of its target. -/
structure Act where
  idx : Nat
  ent : Entry
  target : Nat
  issued : Bool
  visible : Bool
  unwinding : Bool
  prev : Nat
  deriving DecidableEq, Repr

/-- The frame counter, its sources and the dispatcher (R29 to R50). Counter times are ticks of the whole counter,
hyperframe included; `clk` counts CK_FRAME cycles and is never disciplined. `prevErr` is in 1/16 tick; `handled` lists the
entries (index and target) already queued, executed or counted; `passNext` and `passTick` place the dispatcher's reading;
`suppress` is the value the counter held at a backward step; `lastNow`, `issuedNow` and `closedNow` are the counter before
this cycle, the actions issued in it and the gates a GATE_CLOSE closed in it. -/
structure FrameSt where
  clk : Nat
  tick : Nat
  frame : Nat
  hyper : Nat
  corrAcc : Int
  slew : Int
  slewClk : Nat
  prevErr : Option Int
  prevClk : Nat
  added : Int
  corrLog : List (Nat × Int)
  trackRun : Nat
  acqFirst : Bool
  holdClk : Nat
  taRun : SMap Nat
  ppsRun : Nat
  ppsLast : Option Nat
  scRun : Nat
  scBad : Nat
  scDis : Nat
  scLast : Option Int
  slots : SMap (List SlotSpan)
  onOff : List OnOffMark
  offNow : Bool
  noValid : Nat
  scHeard : Bool
  scLost : Bool
  events : SMap (BitVec 128)
  staging : SMap (BitVec 96)
  queue : List Act
  pend : List Act
  handled : List (Nat × Nat)
  passNext : Nat
  passTick : Option Nat
  suppress : Option Nat
  stepClk : Nat
  lastNow : Nat
  issuedNow : Nat
  closedNow : Nat
  deriving DecidableEq, Repr

/-! ### Converters and Sieve chains (03, 04) -/

/-- A sample word between stages 3 and 7 (R18): I, Q, their parity as received, and SPOIL. -/
structure SampleWord where
  i : BitVec 16
  q : BitVec 16
  pi : Bool
  pq : Bool
  spoil : Bool
  deriving DecidableEq, Repr

/-- A converter: powered by its path group, asleep or waking (R427), whether it has a sync reference, and the converter
samples since it (R56). -/
structure ConvSt where
  powered : Bool
  asleep : Bool
  waking : Bool
  ref : Bool
  count : Nat
  deriving DecidableEq, Repr

/-- The history of one filter stage: complex samples, newest first. -/
abbrev Hist := List (Int × Int)

/-- A frequency and phase change that waits for the chain's next grid sample (R57 to R59). -/
structure Retune where
  ftw : Int
  pofs : Nat
  coherent : Bool
  deriving DecidableEq, Repr

/-- One receive chain: a stream of a channel from its port to the channel rate (R51 to R70, R76 to R88). `restart` and
`retune` wait for the next grid sample; `fillLeft` is the spoil still to leave the decimation chain; coarse values below
index `coarseFrom` are invalid; `coarseOut` is the last coarse value formed: the sum of its eight powers, its peak, and
whether it is valid. -/
structure RxChain where
  ftw : Int
  acc : Nat
  pofs : Nat
  restart : Bool
  retune : Option Retune
  dec : Hist
  hbs : List Hist
  fillLeft : Nat
  coarseFrom : Nat
  coarseSum : Nat
  coarsePeak : Nat
  coarseN : Nat
  coarseOut : Option (Nat × Nat × Bool)
  fir : List SampleWord
  rsIn : List SampleWord
  rsIdx : Nat
  rsNext : Nat
  deriving DecidableEq, Repr

/-- One transmit chain: a stream of a channel from the gain stage to its port (R88 to R92). `pad` holds the words in the
alignment pad, oldest first. -/
structure TxChain where
  ftw : Int
  acc : Nat
  pofs : Nat
  restart : Bool
  retune : Option Retune
  fillLeft : Nat
  pad : List SampleWord
  rsIn : Hist
  rsIdx : Nat
  hbs : List Hist
  dec : Hist
  deriving DecidableEq, Repr

/-- The filters of a channel beyond CH_FIR_STAT: the running fade's k and sample number (R81), and the delay line kept by
the unfit-bank condition (R26); `firBad` is the active bank plus one while one of its coefficients cannot be read (source 115). -/
structure SieveCh where
  fadeK : Nat
  fadeN : Nat
  unfitM : Option Nat
  firBad : Nat
  deriving DecidableEq, Repr

/-! ### Cancellation (05) -/

/-- One delivered coarse value of a stream: power and peak codes (R70) and whether it is valid. -/
structure Coarse where
  power : Int
  peak : Int
  valid : Bool
  deriving DecidableEq, Repr

/-- The canceller, guard and lost-feedback state of a channel (R101 to R122). A tap of path (i, j) at index t has key
(4 j + i) * 4096 + t; `ref` holds the reference words by transmit stream, newest first; `x` the newest word by receive
stream; `coarse` the last coarse values by stream, newest first; `eff` is N_eff in effect, `estSince` whether a valid
estimate was made since the last frame boundary, `credOn` whether one was made since the credit was last put to zero. -/
structure CancSt where
  taps : SMap (Int × Int)
  grad : SMap (Int × Int)
  psum : SMap Nat
  nupd : SMap Nat
  ref : SMap (List SampleWord)
  x : SMap SampleWord
  residSum : Nat
  residN : Nat
  frozenEvt : Bool
  frozenDet : Bool
  lost : Bool
  hold : Nat
  clean : Nat
  gLost : Int
  coarse : SMap (List Coarse)
  sameRun : SMap Nat
  resSame : Nat
  resPrev : Int
  stale : Nat
  gateSeen : Bool
  pilotQuiet : Nat
  pilotWant : Bool
  estOnce : Bool
  estSince : Bool
  credOn : Bool
  eff : Nat
  deriving DecidableEq, Repr

/-! ### Engines, benches and streams (06) -/

/-- A vector register: one signed exponent and 128 complex mantissas; a shorter list stands for zeros behind it. -/
structure VecReg where
  exp : Int
  lanes : List (Int × Int)
  deriving DecidableEq, Repr

/-- One level of a bundle loop: where its body starts and how many more times it runs. -/
structure LoopLevel where
  start : Nat
  left : Nat
  deriving DecidableEq, Repr

/-- A loop engine (R124 to R147). A bank holds its image as loaded, by 32-bit word; LDM likewise. `v`, `s` and `ac` are its
registers, a scalar as mantissa and exponent; `issues` counts the issues of the period and `crc` runs over them; `stamps` holds
the input age by spoil flag; `held` is how many records the trace ring holds. -/
structure EngSt where
  bank0 : SMap Word
  bank1 : SMap Word
  ldm : SMap Word
  v : SMap VecReg
  s : SMap (Int × Int)
  ac : SMap VecReg
  spoil : Nat
  pc : Nat
  rep : Option Nat
  loops : List LoopLevel
  issues : Nat
  crc : Nat
  tailIssues : Nat
  periods : Nat
  idx : Nat
  variant : Nat
  mark : Bool
  muted : Bool
  startReq : Bool
  boundary : Bool
  swapArmed : Bool
  verifying : Bool
  stamps : SMap Nat
  lastApply : Nat
  trace : SMap (BitVec 128)
  held : Nat
  deriving DecidableEq, Repr

/-- A relay stream between the Sieve and the gain stage (R135 to R138): the block being filled and its number; the last
completed one, its number, the cycle it completed in and whether an RDS has returned it; the number and age base of the block an
RDS returned last; the output blocks written; how many words the gain stage has taken and how many input words wait for it; and
haul words that wait at the junction: port, grid time and word. -/
structure StreamSt where
  cur : List SampleWord
  num : Nat
  last : List SampleWord
  lastNum : Nat
  lastClk : Nat
  unread : Bool
  readNum : Option Nat
  out : List (Nat × List SampleWord)
  taken : Nat
  waiting : Nat
  joined : List (Nat × Nat × SampleWord)
  deriving DecidableEq, Repr

/-- An APPLY on its way to its control target (R139). -/
structure ApplyMsg where
  eng : Nat
  chan : Nat
  ctl : Nat
  mant : Int
  exp : Int
  deriving DecidableEq, Repr

/-! ### Gain loops and energy budget (07), protection (08) -/

/-- The gain state of a channel (R150 to R170, R186, R187). The outputs `gReq`, `lStab`, `lNr` of the loops and the level
loop's variables are Q16.16 dB; `eLast` and `pinLast` are those of its last update, none before it; `kp` to `imax` the
coefficients in force, as their fields hold them. `aFast`, `applied`, `ramp` and `gHi` are Q8.8 dB: the fast attenuation, the
gain in force, the limit of a restart that still rises, and the highest gain of the frame. The window sums are of fine power at
the gain stage's input and output, and of the gain, since the last level update; `winMin` is the least window of the frame and
`nIn` the floor estimate. `ulFactor` is the gate factor of R186 in 1/64. -/
structure GainSt where
  gReq : Int
  lStab : Int
  lNr : Int
  integ : Int
  eLast : Option Int
  pinLast : Int
  kp : Nat
  ki : Nat
  ffw : Nat
  imax : Nat
  coefNew : Bool
  holdReq : Bool
  relReq : Bool
  aFast : Int
  fastHit : Bool
  applied : Int
  ramp : Option Int
  gHi : Int
  inSum : Nat
  inCnt : Nat
  outSum : Nat
  outCnt : Nat
  gSum : Int
  gCnt : Nat
  winMin : Option Int
  nIn : Option Int
  pwrRun : Nat
  nriseRun : Nat
  oobeRun : Nat
  hasRelayed : Bool
  ulFactor : Nat
  ulRelay : Bool
  deriving DecidableEq, Repr

/-- The site energy-budget loop (R160 to R162): dwell counts, shedding counts, whether readings are bad and SAFE_BAND applies,
the loop's backoff in Q16.16 dB and shed level, and what APPLY delivered to the site targets: backoff in Q8.8 dB, shed
level. -/
structure EnergySt where
  upRun : Nat
  downRun : Nat
  above : Nat
  below : Nat
  goodRun : Nat
  bad : Bool
  safe : Bool
  backoff : Int
  shed : Nat
  siteShed : Nat
  siteBackoff : Int
  deriving DecidableEq, Repr

/-- Protection (R175 to R185): the verdict codes that hold each direction and the device, the instants of the last second's
channel trips by direction, the end of each running back-off (by channel, 192 downlink, 193 uplink, 194 device), and for each channel
the CK_FRAME cycle after its last trip. -/
structure ProtSt where
  dlCauses : List Nat
  ulCauses : List Nat
  devCauses : List Nat
  dlTrips : List Nat
  ulTrips : List Nat
  boEnd : SMap Nat
  tripAt : SMap Nat
  deriving DecidableEq, Repr

/-! ### Synthesisers, converters, calibration (09) -/

/-- A synthesiser (R195 to R201): what its running calibration answers (1 RECAL, 2 a plan change, 3 a relock, 4 a calibration
or load run), and whether the relock wait or the retry wait runs. -/
structure SynSt where
  cause : Nat
  relockWait : Bool
  retryWait : Bool
  deriving DecidableEq, Repr

/-- The background calibration of one ADC (R202 to R212): retired slices, the railed slice that waits to be replaced, the
residual of each slice and trim (key 3 × slice + trim), and whether a rotation step is in progress. -/
structure AdcCal where
  retired : List Nat
  replace : Option Nat
  resid : SMap Int
  stepping : Bool
  deriving DecidableEq, Repr

/-- A calibration, load or level run (R209, R214 to R217): its kind (1 START, 2 LOAD, 3 LEVEL), the step it is in, the
converters it names, an abort asked for, the converters that failed a verification, the trims it measured (key 17 a + k for
slice k of ADC a, 136 + d for DAC d), and the folds toward LEARNED of each set. -/
structure CalSt where
  kind : Nat
  step : Nat
  mask : Nat
  abort : Bool
  failed : Nat
  found : SMap (Int × Int × Int)
  learnCnt : SMap Nat
  deriving DecidableEq, Repr

/-! ### Front end (10) -/

/-- A timed write on an RFFE bus (R238): slave, register address, data, long form, the master's source (0 event, 1 sequence
of group `grp`, 2 beam), and the table index of its event. -/
structure RffeWrite where
  usid : Nat
  addr : Nat
  data : Nat
  long : Bool
  src : Nat
  grp : Nat
  idx : Nat
  undo : Bool
  deriving DecidableEq, Repr

/-- One RFFE master (R237 to R239): the timed queue, the write on the bus, the host command that waits or runs
(kind, data bytes, slave, register address, data), and what each slave's registers were last written. -/
structure RffeSt where
  queue : List RffeWrite
  run : Option RffeWrite
  host : Option (Nat × Nat × Nat × Nat × Nat)
  hostRun : Bool
  slave : SMap Nat
  deriving DecidableEq, Repr

/-- A path group's machine (R224 to R236): the step in progress and its two parts, the sequence position, the request marked
by a write since the last commit, its position on the ladder beneath protection, and the burst and return of R232. -/
structure GroupSt where
  stepTo : Option Nat
  hwDone : Bool
  seqDone : Bool
  seqRun : Option (Nat × Nat)
  marked : Bool
  pos : Nat
  prot : Nat
  burst : Bool
  retDue : Bool
  stepClk : Nat
  deriving DecidableEq, Repr

/-- A GPIO pin: its driven level (none: high impedance with weak pull-down) and the level met at the pin. -/
structure GpioSt where
  drive : Option Bool
  ext : Bool
  deriving DecidableEq, Repr

/-- A beam entry that waits for its issue time (R240). -/
structure BeamWait where
  entry : Nat
  due : Nat
  deriving DecidableEq, Repr

/-- The front end: groups, masters, pins, gates, and the beam writes that wait. A gate is 4 × (0 S-TX, 1 D-TX) + port. -/
structure FrontSt where
  groups : SMap GroupSt
  rffe : SMap RffeSt
  gpio : SMap GpioSt
  gates : Nat
  beams : List BeamWait
  deriving DecidableEq, Repr

/-! ### Monitor converters and bias outputs (11), thermal (12) -/

/-- A conversion on its way: what started it (0 native, 1 sweep, 2 urgent), its list entry or native kind, its input, and
the counter frame and tick at its sample instant. -/
structure MonConv where
  src : Nat
  entry : Nat
  input : Nat
  frame : Nat
  tick : Nat
  deriving DecidableEq, Repr

/-- One monitor converter (R245 to R252), beyond what MON_STAT shows: the conversion in progress, the kind that waits
with the pending flag, and whether its sweep is active, running or suspended. -/
structure MonSt where
  conv : Option MonConv
  pendKind : Nat
  sweeping : Bool
  deriving DecidableEq, Repr

/-- The monitor block: its two converters, the on-chip ring by 32-bit word, the records dropped since the last one written
(R259), for each input (key 16 c + i) the frame of its last conversion and whether its result is unused (R257, R272), and
the settings that wait for conversions to end with the converters they affect (R256). -/
structure MonBlk where
  conv : SMap MonSt
  ring : SMap Word
  gap : Nat
  lastFrame : SMap Nat
  fresh : SMap Bool
  waitRegs : List (Nat × Word)
  waitOn : List Nat
  deriving DecidableEq, Repr

/-- One bias output (R261 to R268): its code at rest, the code the deglitcher holds back, and `line`, a running ramp or
unwind: start code, end code, its start and its length in CK_BIAS cycles. `prevCode` is the code before the last load or
ramp of its group. -/
structure BiasSt where
  code : Nat
  target : Nat
  line : Option (Nat × Nat × Nat × Nat)
  prevCode : Nat
  deriving DecidableEq, Repr

/-- One thermal sensor's counts (R273, R275): for WARN and S1 to S4 the run toward a change, and a mask of those exceeded;
the raw reading and how many readings it has stood; the readings since the last valid result and whether there was one;
the cause of Table 12-1 that holds now, and the hold of step 4. -/
structure SensorSt where
  runs : SMap Nat
  exceeded : Nat
  lastRaw : Nat
  same : Nat
  age : Nat
  seen : Bool
  cause : Nat
  held : Bool
  deriving DecidableEq, Repr

/-- Thermal protection (R271 to R280): sensors (0 the die, 1 + s external s) and the die readings in a row at shutdown. -/
structure ThermSt where
  sensors : SMap SensorSt
  hot : Nat
  deriving DecidableEq, Repr


/-! ### Haul links and cascade (13) -/

/-- A management frame on its way (R305 to R309): destination and source addresses, the port whose buffer holds it (3: this
device's own), its payload, and whether it is poisoned and by which device. -/
structure MgmtFrame where
  dst : Nat
  src : Nat
  port : Nat
  body : List Nat
  poison : Bool
  origin : Nat
  deriving DecidableEq, Repr

/-- One announced stream schedule (R293): its take period, version, and its descriptors (channel, rate, rank, resampler, step). -/
structure Sched where
  take : Nat
  version : Nat
  descs : List (Nat × Nat × Nat × Nat × Nat)
  deriving DecidableEq, Repr

/-- One word waiting in playout memory (R296): channel, stream, grid time, the word and its poison mark. -/
structure PlayWord where
  ch : Nat
  j : Nat
  time : Nat
  w : SampleWord
  poison : Bool
  deriving DecidableEq, Repr

/-- One haul port (R286 to R311): its period count and next frame position; slot orders and schedules in force and announced, both
ways; segments complete and growing by stream, with the grid time of their first word; credit and buffer units; MGMT frames that
wait; periods without a good CTRL frame; exchanges (numerators of θ over 781,250 in 1/32 tick) and the echo; CRC failures of the
frame; the count of grid times by stream (R292), playout memory, the next release by stream, and the largest arrival interval;
and the frame sent last. Grid times are in units of 1/(960 × 2^30) tick. -/
structure HaulSt where
  period : Nat
  pos : Nat
  txSlots : List (Option Nat)
  rxSlots : List (Option Nat)
  txSched : Option Sched
  txNew : Option Sched
  rxSched : Option Sched
  rxNew : Option Sched
  segs : SMap (List (Nat × List SampleWord))
  grow : SMap (Nat × List SampleWord)
  sentUnits : Nat
  freedUnits : Nat
  peerFreed : Nat
  usedUnits : Nat
  out : List MgmtFrame
  missing : Nat
  thetas : List Int
  echoDep : Nat
  echoArr : Nat
  crcFrame : Nat
  grid : SMap Nat
  play : List PlayWord
  next : SMap Nat
  arriveMax : Nat
  lastFrame : List Nat
  deriving DecidableEq, Repr

/-- A branch report of the uplink noise account (R191, R300): priority, device address, report and INREF, Q8.8 dBm. -/
structure BranchRep where
  prio : Nat
  addr : Nat
  nrep : Int
  inref : Int
  deriving DecidableEq, Repr

/-- The cascade (R282 to R304): the enumeration's place (port waited for, 0 for none), the highest address in use, whether it
keeps addresses, what each port sends in its ENUM field (op, address, last, hop) and the assignment answered last; a SYNC
command waiting for its time (target tick of the whole counter, mask), the sequence last taken, and the command sent on
(sequence, frame, tick, mask, master applies); branch reports by port and channel (key 256 × port + channel); and the reports
of this frame still to send, by channel. -/
structure CascSt where
  enumBusy : Bool
  enumPort : Nat
  enumLast : Nat
  enumKeep : Bool
  enumOut : SMap (Nat × Nat × Nat × Nat)
  enumSeen : Option (Nat × Nat × Nat)
  sync : Option (Nat × Nat)
  syncSeen : Option Nat
  syncOut : Option (Nat × Nat × Nat × Nat × Bool)
  reports : SMap BranchRep
  reportQ : List (Nat × BranchRep)
  deriving DecidableEq, Repr

/-- A record or a piece of an upload that this device has produced toward the host (R320 to R326): its device-to-host index, kind (0
for a piece of an upload: `data` is its buffer address), error, tag, sequence number, data, and the bytes of a piece. -/
structure OutRec where
  idx : Nat
  kind : Nat
  err : Nat
  tag : Nat
  seq : Nat
  data : Nat
  bytes : List Nat
  deriving DecidableEq, Repr

/-! ### Event recorder (17), observation port (18), pins and supplies (19, 20) -/

/-- An extreme record (R370): its value, and the operating seconds and power cycle of its time. -/
structure Extreme where
  value : Int
  secs : Nat
  pcc : Nat
  valid : Bool
  deriving DecidableEq, Repr

/-- A clear log entry (Table 17-4). -/
structure ClearLog where
  secs : Nat
  pcc : Nat
  digest : Nat
  scope : Nat
  adoption : Bool
  deriving DecidableEq, Repr

/-- The recorder's history: bins (key 32 h + k), extremes, counters, the clear log, lost seconds and extremes, and the
damaged words: how many, and the offsets of the first 31 (R368 to R372, R384). -/
structure History where
  bins : SMap Nat
  ext : SMap Extreme
  ctrs : SMap Nat
  log : List ClearLog
  gapS : Nat
  extLost : Nat
  damagedN : Nat
  damaged : List Nat
  deriving DecidableEq, Repr

/-- A snapshot of this device (Table 17-4), valid once COMMIT is programmed; `cfg` the words of REC_HIST_CFG and
REC_HIST_BIND by offset. -/
structure Snapshot where
  commit : Bool
  seq : Nat
  secs : Nat
  pcc : Nat
  reason : Nat
  source : Nat
  hist : History
  cfg : SMap Word
  lw : List Word
  deriving DecidableEq, Repr

/-- A tail slot of the flash (Table 17-5). -/
structure TailRec where
  commit : Bool
  tseq : Nat
  snapSeq : Nat
  secs : Nat
  pcc : Nat
  since : Nat
  lost : Nat
  ext : SMap Extreme
  incs : SMap Nat
  lw : List Word
  deriving DecidableEq, Repr

/-- The external NOR flash (R373, R374): whether it is usable, N, and what its slots hold. -/
structure FlashSt where
  usable : Bool
  n : Nat
  snaps : SMap (Option Snapshot)
  tails : SMap (Option TailRec)
  deriving DecidableEq, Repr

/-- The recorder (R367 to R385). `stage` is the flash operation in progress: 0 none, 1 erase, 2 program, 3 read back, 4 COMMIT
of a flush; 5 program and 6 read back of a tail; `erasing` the erase of the next tail slot beside it. `slot` is the last snapshot
slot a flush ended in; `clr` is 1 while a clear or adoption waits to be committed and 2 once the shadow carries it; `adopt` marks
a flush that erases both areas; `second` holds the sum and count of each quantity's readings in this second; `hourFaults` the
sticky rises of the hour by class; `lastSnap` the seconds the periodic flush runs from. -/
structure RecSt where
  live : History
  shadow : Option Snapshot
  stage : Nat
  slot : Nat
  queued : Option (Nat × Nat)
  deferred : Option Nat
  lastFault : Option Nat
  lastSnap : Nat
  erasing : Bool
  tailSlot : Nat
  tail : Option TailRec
  refusedTok : Nat
  clr : Nat
  adopt : Bool
  hourFaults : SMap Nat
  second : SMap (Int × Nat)
  spoilRem : SMap Nat
  secs : Nat
  pcc : Nat
  deriving DecidableEq, Repr

/-- The observation port (R387 to R393): the trace FIFO, SEQ, the sweep's next counter, a TIME packet due, records dropped
since the last GAP, the packet last sent, and the performance counters. -/
structure ObsSt where
  fifo : List (Nat × BitVec 128)
  seq : Nat
  sweep : Option Nat
  timeDue : Bool
  dropped : Nat
  packet : List Nat
  ctrs : SMap Nat
  deriving DecidableEq, Repr

/-- The boundary-scan port (R394): the instruction, the boundary register and whether it drives the pins, and the
identity register. -/
structure JtagSt where
  ir : BitVec 8
  boundary : List Bool
  drive : Bool
  highz : Bool
  shift : BitVec 32
  deriving DecidableEq, Repr

/-- Pins and resets (R399 to R405, R416 to R420): what holds the device in reset (power-on reset, a chip reset in progress, CK_REF
lost), the levels of the control pins, whether the always-on registers were lost since the last restore, the cause the next release
shows in DEV_BOOT, and whether the PCI Express link is up. -/
structure PinSt where
  porHold : Bool
  chipHold : Bool
  refHold : Bool
  resetN : Bool
  perstN : Bool
  pfailN : Bool
  clrN : Bool
  vaonLost : Bool
  cause : Nat
  pcieUp : Bool
  deriving DecidableEq, Repr

/-! ### Fault collection, register access, and the whole -/

/-- A fault raised in this command: its source, the page that raised it and whether it was injected (R354, R365). -/
structure FaultSig where
  src : Nat
  page : Nat
  inj : Bool
  deriving DecidableEq, Repr

/-- A reaction in progress (R359): its block, and the engines it trapped, or the page it resets. -/
structure InProgress where
  blk : Nat
  engines : List Nat
  page : Option Nat
  deriving DecidableEq, Repr

/-- Fault collection between commands: reactions in progress and the conditions of level sources that stand (source and
page). -/
structure FaultSt where
  progress : List InProgress
  standing : List (Nat × Nat)
  deriving DecidableEq, Repr

/-- Signals raised inside a command and settled at its end; empty between commands (R322, R350, R354, R358): `mail` is the
management payloads that reached this device with their source, `lost` the frames a failed port discarded
(R325), `bad` tells that a bad access was counted. -/
structure Wires where
  faults : List FaultSig
  events : List Nat
  touched : List Nat
  states : List Nat
  bad : Bool
  boundary : Bool
  mail : List (Nat × List Nat)
  lost : List MgmtFrame
  deriving DecidableEq, Repr

/-- One host path's access state (R9, R40, R330): the R9 latch and staging with the address of the pair's lower register,
the event-entry latch, the last read's data, and whether the last access was counted bad. -/
structure PathSt where
  latch : Option (Nat × Word)
  stage : Option (Nat × Word)
  entry : Option (Nat × BitVec 96)
  rd : Word
  bad : Bool
  deriving DecidableEq, Repr

/-- The SPI port's transaction (R330): the command, the address it has reached, whether the rest is ignored, and a part of
a word that has been clocked in. -/
structure SpiSt where
  cmd : Nat
  addr : Nat
  ignored : Bool
  partial' : Bool
  active : Bool
  out : List Nat
  deriving DecidableEq, Repr

/-- A commit in progress (R335): the page, its shadow as it stood, and whether another commit is held behind it. -/
structure CommitSt where
  page : Nat
  snap : SMap Word
  held : Bool
  deriving DecidableEq, Repr

/-- Everything inside the block but its host-memory side. -/
structure Dev where
  regs : SMap Word
  shadow : SMap Word
  free : Nat
  wires : Wires
  frame : FrameSt
  conv : SMap ConvSt
  rx : SMap RxChain
  tx : SMap TxChain
  sieve : SMap SieveCh
  canc : SMap CancSt
  eng : SMap EngSt
  bench : SMap (SMap Word)
  benchCyc : SMap Nat
  streams : SMap StreamSt
  applies : List ApplyMsg
  gain : SMap GainSt
  energy : EnergySt
  prot : ProtSt
  syn : SMap SynSt
  adc : SMap AdcCal
  cal : CalSt
  front : FrontSt
  mon : MonBlk
  bias : SMap BiasSt
  biasLast : SMap Nat
  therm : ThermSt
  haul : SMap HaulSt
  casc : CascSt
  fault : FaultSt
  rcd : RecSt
  flash : FlashSt
  obs : ObsSt
  jtag : JtagSt
  pins : PinSt
  paths : SMap PathSt
  spi : SpiSt
  commits : List CommitSt
  resets : List Nat
  profile : Nat
  portSum : SMap (Nat × Nat)
  dacOut : SMap (List Int)
  outbox : List OutRec
  seqOut : SMap Nat
  snapFeed : List (Nat × SampleWord)
  monFeed : List (BitVec 64)
  traceFeed : List (Nat × BitVec 128)
  deriving DecidableEq, Repr

/-! ### Host memory side: management queues (14), translation and DMA (15) -/

/-- An outstanding record (R321, R325): the address it went to, its host queue index and its tag, and whether a parity error has lost
its entry, so that no completion finds it (Table 16-2, source 179). -/
structure Outst where
  addr : Nat
  q : Nat
  tag : Nat
  lost : Bool
  deriving DecidableEq, Repr

/-- A record for this device as its frame carried it (Table 14-3): the host queue it came from and its 16 bytes. -/
structure HostRec where
  q : Nat
  desc : BitVec 128
  deriving DecidableEq, Repr

/-- An upload in progress (R326, R385): its host queue, tag, the index its completion goes to, the buffer and its length in bytes,
and what it copies: bytes at hand, or a recorder image still to be frozen. -/
structure Upload where
  q : Nat
  tag : Nat
  idx : Nat
  buf : Nat
  len : Nat
  bytes : Option (List Nat)
  deriving DecidableEq, Repr

/-- What the queue manager's faulted channel was doing (R348): a doorbell's context read, a descriptor fetch, or the write of a record
or piece that came from an address, with what is left of a piece (device address and bytes). -/
inductive QJob where
  | context (q : Nat)
  | fetch (q : Nat)
  | put (addr : Nat) (rec : OutRec)
  deriving DecidableEq, Repr

/-- The queue manager of the master and the record executor of the device (R313 to R326): ready queues in rising order, the scheduler's
address pointer, outstanding records, records that wait for their ring (with their address), the last SEQ taken and the records
dropped by queue, records to execute, device records received and not yet taken, uploads in progress, and the faulted access. -/
structure QmgrSt where
  ready : List Nat
  ptr : Nat
  outst : List Outst
  held : List (Nat × OutRec)
  seqLast : SMap (Option Nat)
  drops : SMap Nat
  exec : List HostRec
  arrived : List (Nat × Nat × BitVec 128)
  uploads : List Upload
  job : Option QJob
  deriving DecidableEq, Repr

/-- A translation held in the cache (R342): the 4 KiB page it begins at and how many it spans, the physical page, and the grants. -/
structure XlatEnt where
  vpage : Nat
  span : Nat
  ppage : Nat
  w : Bool
  r : Bool
  ns : Bool
  deriving DecidableEq, Repr

/-- The translation unit (R341 to R343): the cache and the fault FIFO, oldest first. -/
structure XlatSt where
  cache : List XlatEnt
  fifo : List (BitVec 128)
  deriving DecidableEq, Repr

/-- One DMA channel beyond its registers (R344 to R349): the feed FIFO; ring records that wait, with the device address a monitor record
has; how many records or samples were dropped since the last gap record; whether a chained descriptor is to be fetched; and the
SNAP record being filled with the frame and tick of its first word. -/
structure DmaSt where
  feed : List Word
  queue : List (Nat × List Nat)
  dropped : Nat
  chain : Bool
  words : List SampleWord
  tick : Nat
  frame : Nat
  deriving DecidableEq, Repr

/-- The side of the block that reaches host memory, with host memory itself as the block meets it. `turn` is the channel granted last;
`lastMsi` the MSI-X message sent last: vector, address and data. -/
structure HostSide where
  mem : List Host.Cell
  qm : QmgrSt
  xlat : XlatSt
  dma : SMap DmaSt
  turn : Nat
  lastMsi : Option (Nat × Nat × Nat)
  deriving DecidableEq, Repr

/-- The block: the device, its host-memory side, and the commands that wait, first in first out. -/
structure State where
  dev : Dev
  host : HostSide
  pending : List Sys2Proof.Instr
  deriving DecidableEq, Repr

/-- The reset state of frame time. -/
def FrameSt.init : FrameSt :=
  { clk := 0, tick := 0, frame := 0, hyper := 0, corrAcc := 0, slew := 0, slewClk := 0, prevErr := none,
    prevClk := 0, added := 0, corrLog := [], trackRun := 0, acqFirst := false, holdClk := 0, taRun := [],
    ppsRun := 0, ppsLast := none, scRun := 0, scBad := 0, scDis := 0, scLast := none, slots := [], onOff := [],
    offNow := false, noValid := 0, scHeard := false, scLost := false, events := [], staging := [], queue := [],
    pend := [], handled := [], passNext := 0, passTick := none, suppress := none, stepClk := 0, lastNow := 0,
    issuedNow := 0, closedNow := 0 }

/-- A zero word. -/
def SampleWord.init : SampleWord :=
  { i := 0, q := 0, pi := false, pq := false, spoil := false }

/-- The reset state of a converter: powered down, no sync reference. -/
def ConvSt.init : ConvSt :=
  { powered := false, asleep := false, waking := false, ref := false, count := 0 }

/-- The reset state of a receive chain. -/
def RxChain.init : RxChain :=
  { ftw := 0, acc := 0, pofs := 0, restart := false, retune := none, dec := [], hbs := [], fillLeft := 0,
    coarseFrom := 0, coarseSum := 0, coarsePeak := 0, coarseN := 0, coarseOut := none, fir := [], rsIn := [],
    rsIdx := 0, rsNext := 0 }

/-- The reset state of a transmit chain. -/
def TxChain.init : TxChain :=
  { ftw := 0, acc := 0, pofs := 0, restart := false, retune := none, fillLeft := 0, pad := [], rsIn := [],
    rsIdx := 0, hbs := [], dec := [] }

/-- The reset state of a channel's filters. -/
def SieveCh.init : SieveCh :=
  { fadeK := 0, fadeN := 0, unfitM := none, firBad := 0 }

/-- No coarse value. -/
def Coarse.init : Coarse :=
  { power := 0, peak := 0, valid := false }

/-- The reset state of a canceller. -/
def CancSt.init : CancSt :=
  { taps := [], grad := [], psum := [], nupd := [], ref := [], x := [], residSum := 0, residN := 0,
    frozenEvt := false, frozenDet := false, lost := false, hold := 0, clean := 0, gLost := 0, coarse := [],
    sameRun := [], resSame := 0, resPrev := 0, stale := 0, gateSeen := false, pilotQuiet := 0, pilotWant := false,
    estOnce := false, estSince := false, credOn := false, eff := 0 }

/-- A zero register. -/
def VecReg.init : VecReg :=
  { exp := 0, lanes := [] }

/-- The reset state of an engine. -/
def EngSt.init : EngSt :=
  { bank0 := [], bank1 := [], ldm := [], v := [], s := [], ac := [], spoil := 0, pc := 0, rep := none, loops := [],
    issues := 0, crc := 0, tailIssues := 0, periods := 0, idx := 0, variant := 0, mark := false, muted := false,
    startReq := false, boundary := false, swapArmed := false, verifying := false, stamps := [], lastApply := 0,
    trace := [], held := 0 }

/-- The reset state of a relay stream. -/
def StreamSt.init : StreamSt :=
  { cur := [], num := 0, last := [], lastNum := 0, lastClk := 0, unread := false, readNum := none, out := [],
    taken := 0, waiting := 0, joined := [] }

/-- The reset state of a channel's gain: every request at -128 dB (R150). -/
def GainSt.init : GainSt :=
  { gReq := -8388608, lStab := -8388608, lNr := -8388608, integ := 0, eLast := none, pinLast := 0, kp := 0, ki := 0,
    ffw := 0, imax := 0, coefNew := false, holdReq := false, relReq := false, aFast := 0, fastHit := false,
    applied := -32768, ramp := none, gHi := -32768, inSum := 0, inCnt := 0, outSum := 0, outCnt := 0, gSum := 0,
    gCnt := 0, winMin := none, nIn := none, pwrRun := 0, nriseRun := 0, oobeRun := 0, hasRelayed := false,
    ulFactor := 0, ulRelay := false }

/-- The reset state of the energy-budget loop. -/
def EnergySt.init : EnergySt :=
  { upRun := 0, downRun := 0, above := 0, below := 0, goodRun := 0, bad := false, safe := false, backoff := 0,
    shed := 0, siteShed := 0, siteBackoff := 0 }

/-- The reset state of protection. -/
def ProtSt.init : ProtSt :=
  { dlCauses := [], ulCauses := [], devCauses := [], dlTrips := [], ulTrips := [], boEnd := [], tripAt := [] }

/-- The reset state of a synthesiser. -/
def SynSt.init : SynSt :=
  { cause := 0, relockWait := false, retryWait := false }

/-- The reset state of background calibration. -/
def AdcCal.init : AdcCal :=
  { retired := [], replace := none, resid := [], stepping := false }

/-- The reset state of the calibration block. -/
def CalSt.init : CalSt :=
  { kind := 0, step := 0, mask := 0, abort := false, failed := 0, found := [], learnCnt := [] }

/-- The reset state of an RFFE master. -/
def RffeSt.init : RffeSt :=
  { queue := [], run := none, host := none, hostRun := false, slave := [] }

/-- The reset state of a path group. -/
def GroupSt.init : GroupSt :=
  { stepTo := none, hwDone := false, seqDone := false, seqRun := none, marked := false, pos := 0, prot := 0,
    burst := false, retDue := false, stepClk := 0 }

/-- The reset state of a GPIO pin. -/
def GpioSt.init : GpioSt :=
  { drive := none, ext := false }

/-- The reset state of the front end: every gate closed. -/
def FrontSt.init : FrontSt :=
  { groups := [], rffe := [], gpio := [], gates := 0, beams := [] }

/-- The reset state of a monitor converter. -/
def MonSt.init : MonSt :=
  { conv := none, pendKind := 0, sweeping := false }

/-- The reset state of the monitor block. -/
def MonBlk.init : MonBlk :=
  { conv := [], ring := [], gap := 0, lastFrame := [], fresh := [], waitRegs := [], waitOn := [] }

/-- The reset state of a bias output. -/
def BiasSt.init : BiasSt :=
  { code := 0, target := 0, line := none, prevCode := 0 }

/-- The reset state of a thermal sensor. -/
def SensorSt.init : SensorSt :=
  { runs := [], exceeded := 0, lastRaw := 0, same := 0, age := 0, seen := false, cause := 0, held := false }

/-- The reset state of thermal protection. -/
def ThermSt.init : ThermSt :=
  { sensors := [], hot := 0 }

/-- The reset state of a haul port. -/
def HaulSt.init : HaulSt :=
  { period := 0, pos := 0, txSlots := [], rxSlots := [], txSched := none, txNew := none, rxSched := none,
    rxNew := none, segs := [], grow := [], sentUnits := 0, freedUnits := 0, peerFreed := 0, usedUnits := 0,
    out := [], missing := 0, thetas := [], echoDep := 0, echoArr := 0, crcFrame := 0, grid := [], play := [],
    next := [], arriveMax := 0, lastFrame := [] }

/-- The reset state of the cascade. -/
def CascSt.init : CascSt :=
  { enumBusy := false, enumPort := 0, enumLast := 0, enumKeep := false, enumOut := [], enumSeen := none,
    sync := none, syncSeen := none, syncOut := none, reports := [], reportQ := [] }

/-- No extreme. -/
def Extreme.init : Extreme :=
  { value := 0, secs := 0, pcc := 0, valid := false }

/-- An empty history. -/
def History.init : History :=
  { bins := [], ext := [], ctrs := [], log := [], gapS := 0, extLost := 0, damagedN := 0, damaged := [] }

/-- A flash the recorder has not met. -/
def FlashSt.init : FlashSt :=
  { usable := false, n := 0, snaps := [], tails := [] }

/-- The reset state of the recorder. -/
def RecSt.init : RecSt :=
  { live := .init, shadow := none, stage := 0, slot := 0, queued := none, deferred := none, lastFault := none,
    lastSnap := 0, erasing := false, tailSlot := 0, tail := none, refusedTok := 0, clr := 0, adopt := false,
    hourFaults := [], second := [], spoilRem := [], secs := 0, pcc := 0 }

/-- The reset state of the observation port. -/
def ObsSt.init : ObsSt :=
  { fifo := [], seq := 0, sweep := none, timeDue := false, dropped := 0, packet := [], ctrs := [] }

/-- The reset state of the boundary-scan port. -/
def JtagSt.init : JtagSt :=
  { ir := 0x01, boundary := [], drive := false, highz := false, shift := 0 }

/-- Pins and supplies while power-on reset is held (R403). -/
def PinSt.init : PinSt :=
  { porHold := true, chipHold := false, refHold := false, resetN := true, perstN := true, pfailN := true,
    clrN := true, vaonLost := true, cause := 0, pcieUp := false }

/-- The reset state of fault collection. -/
def FaultSt.init : FaultSt :=
  { progress := [], standing := [] }

/-- No signal raised. -/
def Wires.init : Wires :=
  { faults := [], events := [], touched := [], states := [], bad := false, boundary := false, mail := [], lost := [] }

/-- The reset state of a host path. -/
def PathSt.init : PathSt :=
  { latch := none, stage := none, entry := none, rd := 0, bad := false }

/-- No SPI transaction. -/
def SpiSt.init : SpiSt :=
  { cmd := 0, addr := 0, ignored := false, partial' := false, active := false, out := [] }

/-- The device at power-on reset, before its release. -/
def Dev.init : Dev :=
  { regs := [], shadow := [], free := 0, wires := .init, frame := .init, conv := [], rx := [], tx := [],
    sieve := [], canc := [], eng := [], bench := [], benchCyc := [], streams := [], applies := [], gain := [],
    energy := .init, prot := .init, syn := [], adc := [], cal := .init, front := .init, mon := .init, bias := [],
    biasLast := [], therm := .init, haul := [], casc := .init, fault := .init, rcd := .init, flash := .init,
    obs := .init, jtag := .init, pins := .init, paths := [], spi := .init, commits := [], resets := [],
    profile := 0, portSum := [], dacOut := [], outbox := [], seqOut := [], snapFeed := [], monFeed := [],
    traceFeed := [] }

/-- The reset state of the queue manager. -/
def QmgrSt.init : QmgrSt :=
  { ready := [], ptr := 0, outst := [], held := [], seqLast := [], drops := [], exec := [], arrived := [],
    uploads := [], job := none }

/-- The reset state of the translation unit. -/
def XlatSt.init : XlatSt :=
  { cache := [], fifo := [] }

/-- The reset state of a DMA channel. -/
def DmaSt.init : DmaSt :=
  { feed := [], queue := [], dropped := 0, chain := false, words := [], tick := 0, frame := 0 }

/-- The reset state of the host-memory side. -/
def HostSide.init : HostSide :=
  { mem := [], qm := .init, xlat := .init, dma := [], turn := 15, lastMsi := none }

/-- The block right after reset: power-on reset is held, every register stands at its reset value, nothing waits. -/
def State.reset : State := { dev := .init, host := .init, pending := [] }

end Sys2Proof.Machine
end

