-- ==== Sys2Proof/Machine/Ops.lean ====
section
/-! DEFINITION. The named operations over the block's state: registers and their fields, the counter time, free values,
and the form every meaning answers in. -/

namespace Sys2Proof.Machine

/-! ### Registers -/

/-- The word in effect at register address `a`. -/
def Dev.reg (d : Dev) (a : Nat) : Word := mget resetReg d.regs a

/-- The shadow word at register address `a` (R335). -/
def Dev.shadowReg (d : Dev) (a : Nat) : Word := mget resetReg d.shadow a

/-- Put a word in effect at register address `a`. -/
def Dev.setReg (d : Dev) (a : Nat) (w : Word) : Dev := { d with regs := mset resetReg d.regs a w }

/-- Put a word in the shadow at register address `a`. -/
def Dev.setShadow (d : Dev) (a : Nat) (w : Word) : Dev := { d with shadow := mset resetReg d.shadow a w }

/-- Field `F` of page `pg`, as a number. -/
def Dev.fld (d : Dev) (pg : Nat) (F : Fld) : Nat := F.get (d.reg (pg + F.off))

/-- Field `F` of page `pg`, as a signed number. -/
def Dev.sfld (d : Dev) (pg : Nat) (F : Fld) : Int := signed F.w (d.fld pg F)

/-- A one-bit field of page `pg`. -/
def Dev.flag (d : Dev) (pg : Nat) (F : Fld) : Bool := d.fld pg F == 1

/-- Field `F` of page `pg` as it stands in the shadow. -/
def Dev.shFld (d : Dev) (pg : Nat) (F : Fld) : Nat := F.get (d.shadowReg (pg + F.off))

/-- Put `v` (modulo its width) in field `F` of page `pg`. -/
def Dev.setFld (d : Dev) (pg : Nat) (F : Fld) (v : Nat) : Dev :=
  d.setReg (pg + F.off) (F.put (d.reg (pg + F.off)) v)

/-- Put a signed value in field `F` of page `pg`. -/
def Dev.setS (d : Dev) (pg : Nat) (F : Fld) (v : Int) : Dev := d.setFld pg F (twos F.w v)

/-- Put a bit in field `F` of page `pg`. -/
def Dev.setFlag (d : Dev) (pg : Nat) (F : Fld) (b : Bool) : Dev := d.setFld pg F b.toNat

/-- Add `n` to field `F` of page `pg`, which saturates at its largest value. -/
def Dev.bumpBy (d : Dev) (pg : Nat) (F : Fld) (n : Nat) : Dev :=
  d.setFld pg F (min (d.fld pg F + n) (2 ^ F.w - 1))

/-- Count one in field `F` of page `pg`, which saturates at its largest value. -/
def Dev.bump (d : Dev) (pg : Nat) (F : Fld) : Dev := d.bumpBy pg F 1

/-- A one-bit field `F` at bit `i` above a base field. -/
def Fld.bit (F : Fld) (i : Nat) : Fld := { off := F.off, lo := F.lo + i, w := 1 }

/-- Count a bad access at address `a` (R8, R10, R28): COUNT saturates, LAST_PAGE holds address [25:12]. -/
def Dev.badAcc (d : Dev) (a : Nat) : Dev :=
  let d := (d.bump pDev R.DEV_BAD_ACC_CNT_COUNT).setFld pDev R.DEV_BAD_ACC_CNT_LAST_PAGE (pageNo a)
  { d with wires := { d.wires with bad := true } }

/-- A pair of registers as one number, the low half at `F`, the high half at `G`. -/
def Dev.pair (d : Dev) (pg : Nat) (F G : Fld) : Nat := d.fld pg F + 2 ^ 32 * d.fld pg G

/-- Return every register from address `lo` up to `hi` to its Reset value, shadow and effective (R12, R338). -/
def Dev.clearRegs (d : Dev) (lo hi : Nat) : Dev :=
  { d with regs := mclear d.regs lo hi, shadow := mclear d.shadow lo hi }

/-! ### The counter time (R29) -/

/-- Ticks in one frame. -/
def frameTicks : Nat := 4915200

/-- The whole counter, hyperframe included, in ticks. -/
def Dev.now (d : Dev) : Nat := (d.frame.hyper * 1024 + d.frame.frame) * frameTicks + d.frame.tick

/-- Split a counter time into frame (modulo 1,024) and tick. -/
def frameOf (t : Nat) : Nat := t / frameTicks % 1024

/-- The tick within its frame of a counter time. -/
def tickOf (t : Nat) : Nat := t % frameTicks

/-! ### Free values -/

/-- A value the spec leaves open, below `2 ^ w`, and the device with its draw counter advanced (log entry 1). -/
def Dev.freeBits (d : Dev) (w : Nat) : Nat × Dev :=
  ((Config.freeVal d.free).toNat % 2 ^ w, { d with free := d.free + 1 })

/-- The exact quotient `n / k` as an integer: whole quotients are exact, others go down or up as the device rounds
(log entry 10). -/
def ratio (n : Int) (k : Nat) : Int :=
  if k = 0 then 0 else if n % (k : Int) = 0 then n / k else if Config.roundUp n k then n / k + 1 else n / k

/-! ### Instances -/

/-- Change the entry of a sparse map at key `k`. -/
def mupd {α : Type} [DecidableEq α] (dflt : α) (m : SMap α) (k : Nat) (f : α → α) : SMap α :=
  mset (fun _ => dflt) m k (f (mget (fun _ => dflt) m k))

/-- The entry of a sparse map at key `k`, with a fixed default. -/
def mat {α : Type} (dflt : α) (m : SMap α) (k : Nat) : α := mget (fun _ => dflt) m k

/-- Write the entry of a sparse map at key `k`, with a fixed default. -/
def mput {α : Type} [DecidableEq α] (dflt : α) (m : SMap α) (k : Nat) (v : α) : SMap α := mset (fun _ => dflt) m k v

/-! ### Resets -/

/-- Is the block held in a reset (R403, R358, R399, R23)? -/
def PinSt.held (p : PinSt) : Bool := p.porHold || p.chipHold || p.refHold || !p.resetN

/-- May a host access reach the registers (R416, R419)? -/
def Dev.reachable (d : Dev) : Bool := !d.pins.held && d.flag pDev R.DEV_BOOT_FABRIC

/-- The power-on straps (R400). -/
def Dev.isMaster (d : Dev) : Bool := d.flag (pHaul 0) R.HAUL_CASC_STAT_MASTER

end Sys2Proof.Machine
end

