-- ==== Sys2Proof/Machine/Flags.lean ====
section
/-! DEFINITION. The flags a command leaves behind: PG_EVT bits and the interrupt groups they touch (R322, R350 to R353),
fault signals (R354), performance counters (R391), recorder counters and last words (R371, R383), and the requests a
flush starts on (R376). -/

namespace Sys2Proof.Machine

/-! ### Performance counters -/

/-- Count `n` in performance counter `c`, wrapping at 48 bits; a frozen counter stands still (R391, R392). -/
def Dev.perf (d : Dev) (c n : Nat) : Dev :=
  if d.flag pObs R.OBS_STAT_FROZEN then d
  else { d with obs := { d.obs with ctrs := mput 0 d.obs.ctrs c ((mat 0 d.obs.ctrs c + n) % 2 ^ 48) } }

/-! ### Events and interrupts -/

/-- The event source that PG_EVT bit `bit` of page `pg` belongs to (R350, R351). -/
def evtSource (pg bit : Nat) : Option Nat :=
  (pageDefAt pg).map fun p =>
    firstSource p.blk (instOf p pg) + (if (secondSourceMask p.blk).testBit bit then 1 else 0)

/-- Note that group `g` may have become pending; 32 stands for the trap reaction's V0 (R352, R353). -/
def Dev.touch (d : Dev) (g : Nat) : Dev := { d with wires := { d.wires with touched := d.wires.touched ++ [g] } }

/-- Raise PG_EVT bit `bit` of page `pg`. When it rises and is enabled, its group may have become pending and the page owes
an EVENT record (R322, R350). -/
def Dev.raiseEvt (d : Dev) (pg bit : Nat) : Dev :=
  if d.flag pg (R.PG_EVT_EVT.bit bit) then d
  else
    let d := d.setFld pg (R.PG_EVT_EVT.bit bit) 1
    if d.flag pg (R.PG_EVT_EN_EN.bit bit) then
      match evtSource pg bit with
      | some s => { d with wires := { d.wires with touched := d.wires.touched ++ [s / 32], events := d.wires.events ++ [pg] } }
      | none => d
    else d

/-- Note that REQ, EFF or a standing disagreement of page `pg` may have changed (R189, R322). -/
def Dev.stir (d : Dev) (pg : Nat) : Dev := { d with wires := { d.wires with states := d.wires.states ++ [pg] } }

/-! ### Faults -/

/-- A checker of page `pg` finds source `src`; reserved sources never set (R354). -/
def Dev.raiseFault (d : Dev) (src pg : Nat) (inj : Bool) : Dev :=
  match faultRow src with
  | some _ => { d with wires := { d.wires with faults := d.wires.faults ++ [{ src := src, page := pg, inj := inj }] } }
  | none => d

/-- The condition of level source `src` begins to stand in page `pg` (R356). -/
def Dev.levelOn (d : Dev) (src pg : Nat) : Dev :=
  if d.fault.standing.contains (src, pg) then d
  else ({ d with fault := { d.fault with standing := d.fault.standing ++ [(src, pg)] } }).raiseFault src pg false

/-- The condition of level source `src` no longer stands in page `pg` (R356). -/
def Dev.levelOff (d : Dev) (src pg : Nat) : Dev :=
  { d with fault := { d.fault with standing := d.fault.standing.filter (· ≠ (src, pg)) } }

/-- Does an armed injection of checker `chk` of page `pg` act at its next check-bit generation (R364)? -/
def Dev.injArmed (d : Dev) (pg chk : Nat) : Bool :=
  d.fld pg R.PG_FLT_INJ_MODE != 0 && d.fld pg R.PG_FLT_INJ_CHK == chk

/-- An armed injection of page `pg` has acted: a single one disarms and shows DONE (R364). -/
def Dev.injDone (d : Dev) (pg : Nat) : Dev :=
  if d.flag pg R.PG_FLT_INJ_CONT then d else (d.setFld pg R.PG_FLT_INJ_MODE 0).setFld pg R.PG_FLT_INJ_DONE 1

/-! ### Recorder counters and last words -/

/-- Count `n` in recorder counter `i` of the live copy, saturating (R371). -/
def Dev.recCount (d : Dev) (i n : Nat) : Dev :=
  let h := d.rcd.live
  { d with rcd := { d.rcd with live := { h with ctrs := mput 0 h.ctrs i (min (mat 0 h.ctrs i + n) 0xFFFFFFFF) } } }

/-- Operating seconds, 40 bits (R367). -/
def Dev.seconds (d : Dev) : Nat := d.rcd.secs % 2 ^ 40

/-- A reading of histogram `h`'s quantity meets its extreme records: one it only equals stays (R370). -/
def Dev.recExtreme (d : Dev) (h : Nat) (v : Int) : Dev :=
  let e : Extreme := { value := v, secs := d.seconds, pcc := d.rcd.pcc, valid := true }
  let lo := mat .init d.rcd.live.ext (2 * h)
  let hi := mat .init d.rcd.live.ext (2 * h + 1)
  let ext := if lo.valid && decide (lo.value ≤ v) then d.rcd.live.ext else mput .init d.rcd.live.ext (2 * h) e
  let ext := if hi.valid && decide (v ≤ hi.value) then ext else mput .init ext (2 * h + 1) e
  { d with rcd := { d.rcd with live := { d.rcd.live with ext := ext } } }

/-- Readings gathered for this second's sample of histogram `h`. -/
def Dev.setSecond (d : Dev) (h : Nat) (v : Int × Nat) : Dev :=
  { d with rcd := { d.rcd with second := mput (0, 0) d.rcd.second h v } }

/-- A reading of a quantity sampled by its last value (Table 17-1). -/
def Dev.recLast (d : Dev) (h : Nat) (v : Int) : Dev := (d.recExtreme h v).setSecond h (v, 1)

/-- A reading of a quantity sampled by its mean (Table 17-1). -/
def Dev.recMean (d : Dev) (h : Nat) (v : Int) : Dev :=
  let s := mat (0, 0) d.rcd.second h
  (d.recExtreme h v).setSecond h (s.1 + v, s.2 + 1)

/-- A reading of a quantity sampled by its highest value (Table 17-1). -/
def Dev.recHigh (d : Dev) (h : Nat) (v : Int) : Dev :=
  let s := mat (0, 0) d.rcd.second h
  (d.recExtreme h v).setSecond h (if s.2 = 0 then v else max s.1 v, 1)

/-- Write a fatal record to the last words, shifting the former one (Table 17-7); its words are: source [7:0], page number
[21:8] and cause [31:24]; tick [22:0] and frame [8:0] at [31:23]; seconds [31:0]; seconds [39:32] (log entry 12). -/
def Dev.fatalRecord (d : Dev) (src pg cause : Nat) : Dev :=
  let d := (List.range 4).foldl (fun d i => d.setFld pRec (R.REC_LW_WORDS (4 + i)) (d.fld pRec (R.REC_LW_WORDS i))) d
  let d := d.setFld pRec (R.REC_LW_WORDS 0) (src % 256 + pageNo pg * 2 ^ 8 + cause * 2 ^ 24)
  let d := d.setFld pRec (R.REC_LW_WORDS 1) (d.frame.tick + d.frame.frame % 512 * 2 ^ 23)
  let d := d.setFld pRec (R.REC_LW_WORDS 2) (d.seconds % 2 ^ 32)
  d.setFld pRec (R.REC_LW_WORDS 3) (d.seconds / 2 ^ 32)

/-- Set a bit of the status word at bytes 52 to 55 of the last words (Table 17-7). -/
def Dev.lwFlag (d : Dev) (i : Nat) (b : Bool) : Dev :=
  d.setFlag pRec ((R.REC_LW_WORDS 13).bit i) b

/-- The last words as 16 words. -/
def Dev.lastWords (d : Dev) : List Word := (List.range 16).map fun i => d.reg (pRec + (R.REC_LW_WORDS i).off)

/-! ### Flush requests -/

/-- What the recorder would write as a snapshot now (Table 17-4): SEQ one above the newest committed. -/
def Dev.snapshotNow (d : Dev) (reason source : Nat) : Snapshot :=
  { commit := false, seq := (d.fld pRec R.REC_SEQ_SEQ + 1) % 2 ^ 32, secs := d.seconds, pcc := d.rcd.pcc,
    reason := reason, source := source, lw := d.lastWords,
    hist := d.rcd.live,
    cfg := (d.regs.filter fun e => Nat.ble (pRec + 0x400) e.1 && Nat.blt e.1 (pRec + 0xC00)).map fun e => (e.1 - pRec, e.2) }

/-- Start a flush: the live copy is frozen in the shadow and the erase of the next slot begins (R374, R377). Request 6 stands
for device RF off, whose REASON the spec does not state: a free value (log entry 22). -/
def Dev.startFlush (d : Dev) (req source : Nat) : Dev :=
  let f := d.freeBits 8
  let d := if req = 6 then f.2 else d
  let reason := if req = 6 then f.1 else req
  let n := d.flash.n
  let d := { d with rcd := { d.rcd with shadow := some (d.snapshotNow reason source), stage := 1,
                                        clr := if d.rcd.clr = 1 then 2 else d.rcd.clr,
                                        lastFault := if req = 1 then some d.rcd.secs else d.rcd.lastFault },
                    flash := { d.flash with snaps := if n = 0 then d.flash.snaps else mput none d.flash.snaps ((d.rcd.slot + 1) % n) none } }
  d.setFld pRec R.REC_STAT_STATE 2

/-- A flush is asked for with a REASON and, for a fault, its source (R376). With EN = 0 only a clear or an adoption starts
one; a fault within FAULT_GAP of the last fault flush is deferred; a busy recorder queues one request; with the TEST strap high
nothing is flushed (R395). -/
def Dev.requestFlush (d : Dev) (reason source : Nat) : Dev :=
  if d.flag pPin R.PIN_STRAP_TEST || (!d.flag pRec R.PG_CTL_EN && reason != 3 && reason != 4) then d
  else
    let near := match d.rcd.lastFault with
      | some t => decide (d.rcd.secs < t + 60 * d.fld pRec R.REC_CFG_FAULT_GAP)
      | none => false
    if reason = 1 ∧ near = true then
      { d with rcd := { d.rcd with deferred := some (d.rcd.deferred.getD source) } }.recCount 1008 1
    else
      match d.fld pRec R.REC_STAT_STATE with
      | 1 => d.startFlush reason source
      | 4 => d
      | 5 => d
      | _ => { d with rcd := { d.rcd with queued := some (d.rcd.queued.getD (reason, source)) } }

end Sys2Proof.Machine
end

