-- ==== Sys2Proof/Machine/BiasOps.lean ====
section
/-! DEFINITION. The bias outputs (R261 to R270): codes, strobes, ramps and their unwind, the deglitcher, and the clear
path. -/

namespace Sys2Proof.Machine

/-- The state of output `n`. -/
def Dev.biasOut (d : Dev) (n : Nat) : BiasSt := mat .init d.bias n

/-- Change the state of output `n`. -/
def Dev.setBias (d : Dev) (n : Nat) (b : BiasSt) : Dev := { d with bias := mput .init d.bias n b }

/-- CK_BIAS cycles since CK_FRAME began: two for every five ticks (R20). -/
def Dev.biasCycle (d : Dev) : Nat := d.frame.clk * 2 / 5

/-- The code on a line `(a, b, c0, len)` at cycle `c` (R263); between whole codes it rounds as the device does (log entry
10). -/
def lineAt (l : Nat × Nat × Nat × Nat) (c : Nat) : Nat :=
  if l.2.2.1 + l.2.2.2 ≤ c then l.2.1
  else ((l.1 : Int) + ratio (((l.2.1 : Int) - l.1) * (c - l.2.2.1 : Nat)) l.2.2.2).toNat

/-- The code output `n` drives now (BIAS_STAT.OUT). -/
def Dev.biasCode (d : Dev) (n : Nat) : Nat :=
  match (d.biasOut n).line with
  | some l => lineAt l d.biasCycle
  | none => (d.biasOut n).code

/-- The clear code of output `n` (R266). -/
def Dev.clearCode (d : Dev) (n : Nat) : Nat := if d.flag (pBias n) R.BIAS_CTL_CLR_SEL then 0xFFFF else 0

/-- Does the clear path stand (R266, R395): BIAS_CLR_N, device RF off, CK_REF lost, or the TEST strap? -/
def Dev.clearPath (d : Dev) : Bool :=
  !d.pins.clrN || d.flag pProt R.PROT_DIR_RF_OFF || d.flag pProt R.PROT_DIR_RF_LATCH || d.pins.refHold ||
    d.flag pPin R.PIN_STRAP_TEST || d.flag pTherm R.THERM_STAT_SHUT

/-- Is output `n` held so that a strobe of its group is ignored (R265)? -/
def Dev.biasHeld (d : Dev) (n : Nat) : Bool := d.clearPath || d.flag (pBias n) R.BIAS_STAT_RANGE_CHG

/-- Force output `n` to its clear code at once; any ramp, unwind or deglitch hold stops (R266). -/
def Dev.biasClear (d : Dev) (n : Nat) : Dev :=
  let d := d.setBias n { d.biasOut n with code := d.clearCode n, target := d.clearCode n, line := none }
  ((d.setFlag (pBias n) R.BIAS_STAT_AT_CLEAR true).setFlag (pBias n) R.BIAS_STAT_RAMP false).setFlag
    (pBias n) R.BIAS_STAT_DEGLITCH false

/-- Force every output to its clear code (R266, R179, R23). -/
def Dev.biasClearAll (d : Dev) : Dev := (List.range 16).foldl Dev.biasClear d

/-- Output `n` takes a new code at a strobe: a running movement stops at the present code, and a change of 4,096 or more
waits in the deglitcher (R262 to R264). -/
def Dev.biasTake (d : Dev) (n new : Nat) : Dev :=
  let now := d.biasCode n
  let far := decide (now + 4096 ≤ new) || decide (new + 4096 ≤ now)
  let holding := d.flag (pBias n) R.BIAS_STAT_DEGLITCH
  let b : BiasSt := { code := if far || holding then now else new, target := new, line := none, prevCode := now }
  let d := ((d.setBias n b).setFlag (pBias n) R.BIAS_STAT_RAMP false).setFlag (pBias n) R.BIAS_STAT_AT_CLEAR false
  if far then d.setFlag (pBias n) R.BIAS_STAT_DEGLITCH true else d

/-- Output `n` starts a line from its present code to `new` over `len` CK_BIAS cycles, at most 4,095 codes a cycle
(R263). -/
def Dev.biasLine (d : Dev) (n new len : Nat) (prev : Nat) : Dev :=
  let now := d.biasCode n
  let dist := if now ≤ new then new - now else now - new
  let len := max len ((dist + 4094) / 4095)
  let b : BiasSt := { code := now, target := new, line := some (now, new, d.biasCycle, len), prevCode := prev }
  (((d.setBias n b).setFlag (pBias n) R.BIAS_STAT_RAMP true).setFlag (pBias n) R.BIAS_STAT_AT_CLEAR false).setFlag
    (pBias n) R.BIAS_STAT_DEGLITCH false

/-- The outputs of load group `g`. -/
def Dev.biasGroup (d : Dev) (g : Nat) : List Nat := (List.range 16).filter fun n => d.fld (pBias n) R.BIAS_CTL_GROUP == g

/-- Act on every output of group `g` that is not held; each held one counts STROBE_IGN (R265). -/
def Dev.biasEach (d : Dev) (g : Nat) (f : Dev → Nat → Dev) : Dev :=
  (d.biasGroup g).foldl (fun d n => if d.biasHeld n then d.bump (pBias n) R.BIAS_CNT_STROBE_IGN else f d n) d

/-- Note which action, if any, strobed group `g` last: its table index plus one (R263). -/
def Dev.setBiasLast (d : Dev) (g tag : Nat) : Dev := { d with biasLast := mput 0 d.biasLast g tag }

/-- A load strobe of group `g` (R262); `tag` names the frame action, 0 for any other strobe. -/
def Dev.biasStrobe (d : Dev) (g tag : Nat) : Dev :=
  (d.biasEach g fun d n => d.biasTake n (d.fld (pBias n) R.BIAS_CODE_CODE)).setBiasLast g tag

/-- A ramp of group `g` that ends `lead` ticks after its issue; with no lead it is a load (R263). -/
def Dev.biasRamp (d : Dev) (g lead tag : Nat) : Dev :=
  if lead = 0 then d.biasStrobe g tag
  else
    (d.biasEach g fun d n => d.biasLine n (d.fld (pBias n) R.BIAS_CODE_CODE) (lead * 2 / 5) (d.biasCode n)).setBiasLast g tag

/-- Unwind a ramp of group `g`: each output returns along its line, taking as long as the ramp had run (R263). False: the
group has been strobed since, and nothing changes. -/
def Dev.biasUnwindRamp (d : Dev) (g tag : Nat) : Dev × Bool :=
  if mat 0 d.biasLast g = tag then
    ((d.biasGroup g).foldl (fun d n =>
      match (d.biasOut n).line with
      | some l => d.biasLine n (d.biasOut n).prevCode (min (d.biasCycle - l.2.2.1) l.2.2.2) (d.biasOut n).prevCode
      | none => if d.flag (pBias n) R.BIAS_STAT_AT_CLEAR then d else d.biasLine n (d.biasOut n).prevCode 0 (d.biasOut n).prevCode) d, true)
  else (d, false)

/-- Unwind a load of group `g`: each output slews back to its previous code at 4,096 codes per 2 µs, which is 12 CK_BIAS
cycles per 125 codes (R263). False: the group has been strobed since, and nothing changes. -/
def Dev.biasUnwindLoad (d : Dev) (g tag : Nat) : Dev × Bool :=
  if mat 0 d.biasLast g = tag then
    ((d.biasGroup g).foldl (fun d n =>
      if d.flag (pBias n) R.BIAS_STAT_AT_CLEAR then d
      else
        let now := d.biasCode n
        let prev := (d.biasOut n).prevCode
        let dist := if now ≤ prev then prev - now else now - prev
        d.biasLine n prev ((dist * 12 + 124) / 125) prev) d, true)
  else (d, false)

/-- A running ramp or unwind of output `n` reaches its code and stops (R263). -/
def Dev.biasLineEnd (d : Dev) (n : Nat) : Dev :=
  match (d.biasOut n).line with
  | some l =>
    (d.setBias n { d.biasOut n with code := l.2.1, target := l.2.1, line := none }).setFlag (pBias n) R.BIAS_STAT_RAMP false
  | none => d

/-- The deglitch hold of output `n` ends and the output moves to the code it held back (R264). -/
def Dev.biasHoldEnd (d : Dev) (n : Nat) : Dev :=
  if d.flag (pBias n) R.BIAS_STAT_DEGLITCH then
    (d.setBias n { d.biasOut n with code := (d.biasOut n).target }).setFlag (pBias n) R.BIAS_STAT_DEGLITCH false
  else d

/-- A change of RANGE takes effect: the output goes to the clear code of the old range and the interval begins (R268). -/
def Dev.biasRangeChange (d : Dev) (n : Nat) : Dev := (d.biasClear n).setFlag (pBias n) R.BIAS_STAT_RANGE_CHG true

/-- A block reset of BIAS page `n` (R266), its fields already at their Reset values: `oldRange` and `oldClear` are what they
were, `strap` the level of CLRSEL. -/
def Dev.biasPageReset (d : Dev) (n oldRange : Nat) (strap : Bool) : Dev :=
  let d := (d.setFlag (pBias n) R.BIAS_CTL_CLR_SEL strap).biasClear n
  if oldRange = 0 then d else d.setFlag (pBias n) R.BIAS_STAT_RANGE_CHG true

end Sys2Proof.Machine
end

