-- ==== Sys2Proof/Machine/MonitorOps.lean ====
section
/-! DEFINITION. The monitor converters MA and MB (R245 to R260): triggers, lists, results, the ring and the reference. -/

namespace Sys2Proof.Machine

/-- The state of converter `c`, 0 MA or 1 MB. -/
def Dev.monSt (d : Dev) (c : Nat) : MonSt := mat .init d.mon.conv c

/-- Change the state of converter `c`. -/
def Dev.setMon (d : Dev) (c : Nat) (m : MonSt) : Dev := { d with mon := { d.mon with conv := mput .init d.mon.conv c m } }

/-- Is converter `c` enabled (R246)? -/
def Dev.monOn (d : Dev) (c : Nat) : Bool := d.flag pMon R.PG_CTL_EN && d.flag pMon (R.MON_CTL_EN_A.bit c)

/-- Is converter `c` in compatibility mode? -/
def Dev.monCompat (d : Dev) (c : Nat) : Bool := d.flag pMon (R.MON_CTL_MODE_A.bit c)

/-- The length of one converter cycle in hundredths of a tick (R245): 15.36 ticks, sixteen times that in low power. -/
def Dev.monCycle (d : Dev) : Nat := if d.flag pMon R.MON_STAT_LP_EFF then 24576 else 1536

/-- The sweep entry `n` of converter `c` (R249). -/
def Dev.monSweep (d : Dev) (c n : Nat) : Nat :=
  d.fld pMon { off := R.MON_SWP_A_LO_ENTRY.off + 8 * c + n / 8 * 4, lo := 4 * (n % 8), w := 4 }

/-- The urgent entry `n` of converter `c` (R249). -/
def Dev.monUrgent (d : Dev) (c n : Nat) : Nat := d.fld pMon { off := R.MON_URG_ENTRY_A.off, lo := 16 * c + 4 * n, w := 4 }

/-- The input converter `c` converts for native kind `k` (R247). -/
def Dev.monNative (d : Dev) (c k : Nat) : Nat := d.fld pMon { off := R.MON_NSEL_A_INPUT.off + 4 * c, lo := 4 * k, w := 4 }

/-- The sweep length less one of converter `c`. -/
def Dev.monSlen (d : Dev) (c : Nat) : Nat := d.fld pMon (if c = 0 then R.MON_LIST_CTL_SLEN_A else R.MON_LIST_CTL_SLEN_B)

/-- The urgent length less one of converter `c`. -/
def Dev.monUlen (d : Dev) (c : Nat) : Nat := d.fld pMon (if c = 0 then R.MON_LIST_CTL_ULEN_A else R.MON_LIST_CTL_ULEN_B)

/-- Does the sweep of converter `c` run on (CONT)? -/
def Dev.monCont (d : Dev) (c : Nat) : Bool := d.flag pMon (if c = 0 then R.MON_LIST_CTL_CONT_A else R.MON_LIST_CTL_CONT_B)

/-- The field SPOS of converter `c`. -/
def fSpos (c : Nat) : Fld := if c = 0 then R.MON_STAT_SPOS_A else R.MON_STAT_SPOS_B

/-- Begin a conversion of converter `c`; its sample instant lies `cycles` converter cycles ahead (Table 11-1). -/
def Dev.monStart (d : Dev) (c src entry input cycles : Nat) : Dev :=
  let t := d.now + d.monCycle * cycles / 100
  let cv : MonConv := { src := src, entry := entry, input := input, frame := frameOf t, tick := tickOf t }
  (d.setMon c { d.monSt c with conv := some cv }).setFlag pMon (R.MON_STAT_BUSY.bit c) true

/-- Begin entry `n` of the sweep of converter `c`. -/
def Dev.monStartSweep (d : Dev) (c n cycles : Nat) : Dev :=
  let d := (d.setMon c { d.monSt c with sweeping := true }).setFld pMon (fSpos c) n
  (d.setFlag pMon (R.MON_STAT_SSUSP.bit c) false).monStart c 1 n (d.monSweep c n) cycles

/-- Begin entry `n` of the urgent list of converter `c`. -/
def Dev.monStartUrgent (d : Dev) (c n cycles : Nat) : Dev := d.monStart c 2 n (d.monUrgent c n) cycles

/-- A trigger finds its converter converting: set the flag `F` one deep, or count an overrun (R248). -/
def Dev.monPend (d : Dev) (c kind : Nat) (F : Fld) : Dev :=
  if d.flag pMon (F.bit c) then (d.bump pMon R.MON_CNT_A_OVERRUN).raiseEvt pMon 2
  else (d.setMon c { d.monSt c with pendKind := kind }).setFlag pMon (F.bit c) true

/-- A trigger of a kind reaches converter `c` (R246 to R251). -/
def Dev.monTrigOne (d : Dev) (c kind : Nat) : Dev :=
  if !d.monOn c then d.bump pMon R.MON_CNT_C_IGNORED
  else if !d.monCompat c then
    match (d.monSt c).conv with
    | some _ => d.monPend c kind R.MON_STAT_PEND
    | none => d.monStart c 0 kind (d.monNative c kind) 5
  else if kind = 0 then
    match (d.monSt c).conv with
    | some _ => d.monPend c kind R.MON_STAT_PEND
    | none => d.monStartSweep c 0 5
  else if kind = 1 then
    match (d.monSt c).conv with
    | none => d.monStartUrgent c 0 5
    | some cv =>
      if cv.src = 1 then
        ((d.bump pMon R.MON_CNT_A_ABORT).setFlag pMon (R.MON_STAT_SSUSP.bit c) true).monStartUrgent c 0 5
      else d.monPend c kind R.MON_STAT_UPEND
  else d.bump pMon R.MON_CNT_C_IGNORED

/-- A trigger for the converters a code names: 0 MA, 1 MB, 2 both; with PAIR = 1 any of them acts on both; 3 is ignored and
counted (R246, R252). -/
def Dev.monTrigger (d : Dev) (conv kind : Nat) : Dev :=
  if conv = 3 then d.bump pMon R.MON_CNT_C_IGNORED
  else if conv = 2 ∨ d.flag pMon R.MON_CTL_PAIR = true then (d.monTrigOne 0 kind).monTrigOne 1 kind
  else d.monTrigOne conv kind

/-! ### The ring -/

/-- Bytes of the ring in use (R258). -/
def Dev.monRingSize (d : Dev) : Nat :=
  if d.flag pMon R.MON_RING_CTL_DEST then 4096 * 2 ^ d.fld pMon R.MON_RING_CTL_SIZE else 65536

/-- Is some DMA channel enabled for client `k` and not faulted (R344, R349)? -/
def Dev.dmaServes (d : Dev) (k : Nat) : Bool :=
  !d.flag pPin R.PIN_STRAP_HOSTSEL && (List.range 16).any fun n =>
    d.flag (pDma n) R.PG_CTL_EN && d.fld (pDma n) R.DMA_CTL_CLIENT == k && d.fld (pDma n) R.DMA_STAT_STATE != 3

/-- Can the ring take a record now (R259)? -/
def Dev.monRoom (d : Dev) : Bool :=
  (d.fld pMon R.MON_RING_WR_OFS + 8) % d.monRingSize != d.fld pMon R.MON_RING_RD_OFS &&
    (!d.flag pMon R.MON_RING_CTL_DEST || d.dmaServes 1)

/-- Write one record at MON_RING_WR and advance it, raising the half and wrap events (R259). -/
def Dev.monPut (d : Dev) (rec : BitVec 64) : Dev :=
  let wr := d.fld pMon R.MON_RING_WR_OFS
  let nx := (wr + 8) % d.monRingSize
  let d :=
    if d.flag pMon R.MON_RING_CTL_DEST then { d with monFeed := d.monFeed ++ [rec] }
    else { d with mon := { d.mon with
      ring := mput 0 (mput 0 d.mon.ring (wr / 4) (rec.setWidth 32)) (wr / 4 + 1) ((rec >>> 32).setWidth 32) } }
  let d := d.setFld pMon R.MON_RING_WR_OFS nx
  let d := if nx = d.monRingSize / 2 then d.raiseEvt pMon 0 else d
  if nx = 0 then d.raiseEvt pMon 1 else d

/-- A gap record (Table 11-2). -/
def Dev.monGapRec (d : Dev) : BitVec 64 :=
  BitVec.ofNat 64 (min d.mon.gap (2 ^ 30 - 1) + 2 ^ 30 + d.frame.tick * 2 ^ 32 + d.frame.frame % 512 * 2 ^ 55)

/-- Hand one result record to the ring: dropped and counted when it is full, preceded by a gap record after a drop (R258,
R259). -/
def Dev.monRecord (d : Dev) (rec : BitVec 64) : Dev :=
  let d := if d.mon.gap ≠ 0 ∧ d.monRoom = true then { d.monPut d.monGapRec with mon := { (d.monPut d.monGapRec).mon with gap := 0 } } else d
  if d.monRoom then d.monPut rec
  else ({ d with mon := { d.mon with gap := d.mon.gap + 1 } }.bump pMon R.MON_CNT_B_DROP).raiseEvt pMon 5

/-! ### Results and settings -/

/-- The number of a frame, hyperframe included. -/
def Dev.frameCount (d : Dev) : Nat := d.frame.hyper * 1024 + d.frame.frame

/-- A conversion of converter `c` gives `code`: MON_LAST, REF_NS count and ring (R257, R258). -/
def Dev.monResult (d : Dev) (c : Nat) (cv : MonConv) (code : Nat) : Dev :=
  let ns := !d.flag pMon R.MON_STAT_REF_SETTLED
  let lp := d.flag pMon R.MON_STAT_LP_EFF
  let i := 16 * c + cv.input
  let d := d.setFld pMon (R.MON_LAST_CODE i) code
  let d := d.setFld pMon (R.MON_LAST_VALID i) 1
  let d := d.setFlag pMon (R.MON_LAST_REF_NS i) ns
  let d := d.setFlag pMon (R.MON_LAST_LP i) lp
  let d := d.setFld pMon (R.MON_LAST_FRAME i) cv.frame
  let d := { d with mon := { d.mon with lastFrame := mput 0 d.mon.lastFrame i d.frameCount, fresh := mput false d.mon.fresh i true } }
  let d := if ns then d.bump pMon R.MON_CNT_C_REFNS else d
  if d.flag pMon R.MON_RING_CTL_EN then
    d.monRecord (BitVec.ofNat 64 (code % 4096 + cv.input * 2 ^ 16 + lp.toNat * 2 ^ 20 + cv.entry % 16 * 2 ^ 21 +
      (d.fld pMon R.MON_CTL_PAIR) * 2 ^ 25 + ns.toNat * 2 ^ 26 + cv.src * 2 ^ 27 + c * 2 ^ 29 + cv.tick * 2 ^ 32 +
      cv.frame % 512 * 2 ^ 55))
  else d

/-- Converter `c` falls idle. -/
def Dev.monIdle (d : Dev) (c : Nat) : Dev :=
  (d.setMon c { d.monSt c with conv := none }).setFlag pMon (R.MON_STAT_BUSY.bit c) false

/-- What converter `c` does when a native conversion or a sweep has ended with nothing urgent left (R248, R251). -/
def Dev.monServePend (d : Dev) (c : Nat) : Dev :=
  if d.flag pMon (R.MON_STAT_PEND.bit c) then
    let d := d.setFlag pMon (R.MON_STAT_PEND.bit c) false
    if d.monCompat c then d.monStartSweep c 0 4
    else d.monStart c 0 (d.monSt c).pendKind (d.monNative c (d.monSt c).pendKind) 4
  else d.monIdle c

/-- The next conversion of converter `c` after one of list `src`, entry `entry`, has ended (R247 to R251). -/
def Dev.monNext (d : Dev) (c src entry : Nat) : Dev :=
  match src with
  | 0 => d.monServePend c
  | 1 =>
    if entry < d.monSlen c then d.monStartSweep c (entry + 1) 4
    else
      let d := ((d.setMon c { d.monSt c with sweeping := false }).setFld pMon (fSpos c) 0).raiseEvt pMon (8 + c)
      if d.monCont c then d.monStartSweep c 0 4 else d.monServePend c
  | _ =>
    if entry < d.monUlen c then d.monStartUrgent c (entry + 1) 4
    else
      let d := d.raiseEvt pMon (6 + c)
      if d.flag pMon (R.MON_STAT_UPEND.bit c) then
        (d.setFlag pMon (R.MON_STAT_UPEND.bit c) false).monStartUrgent c 0 4
      else if (d.monSt c).sweeping then d.monStartSweep c (d.fld pMon (fSpos c)) 4
      else d.monServePend c

/-- Should low-power mode be in effect (R255)? -/
def Dev.lpWanted (d : Dev) : Bool := d.flag pMon R.MON_CTL_LP || d.fld pDev R.DEV_PWR_EFF == 1

/-- New settings of converter `c` take effect: its pending flags clear without count and a suspended sweep is abandoned
(R256). -/
def Dev.monDrop (d : Dev) (c : Nat) : Dev :=
  let d := (d.monIdle c).setMon c .init
  let d := (d.setFlag pMon (R.MON_STAT_PEND.bit c) false).setFlag pMon (R.MON_STAT_UPEND.bit c) false
  (d.setFlag pMon (R.MON_STAT_SSUSP.bit c) false).setFld pMon (fSpos c) 0

/-- Settings that wait take effect once no converter they affect is converting (R256). -/
def Dev.monApply (d : Dev) : Dev :=
  if d.mon.waitOn.isEmpty || d.mon.waitOn.any (fun c => (d.monSt c).conv.isSome) then d
  else
    let d := d.mon.waitRegs.foldl (fun d e => d.setReg e.1 e.2) d
    let d := d.mon.waitOn.foldl Dev.monDrop d
    { d with mon := { d.mon with waitRegs := [], waitOn := [] } }.setFlag pMon R.MON_STAT_LP_EFF d.lpWanted

/-- LP_EFF follows the device power state at the end of the conversions in progress (R255, R256). -/
def Dev.monPower (d : Dev) : Dev :=
  if d.flag pMon R.MON_STAT_LP_EFF = d.lpWanted then d
  else { d with mon := { d.mon with waitOn := [0, 1] } }.monApply

/-- A fault of converter `c` stands for the energy-budget loop and thermal protection (R254). -/
def Dev.monFault (d : Dev) : Bool := !d.flag pMon R.MON_STAT_REF_SETTLED

/-- VALID clears on every input not converted for 64 frames (R257). -/
def Dev.monAge (d : Dev) : Dev :=
  (List.range 32).foldl (fun d i =>
    if d.flag pMon (R.MON_LAST_VALID i) && decide (mat 0 d.mon.lastFrame i + 64 ≤ d.frameCount) then
      d.setFld pMon (R.MON_LAST_VALID i) 0
    else d) d

end Sys2Proof.Machine
end

