-- ==== Sys2Proof/Machine/ThermalOps.lean ====
section
/-! DEFINITION. Thermal protection (R271 to R280): conversion of external readings, broken sensors, thresholds with
hysteresis and dwell, and the ladder. -/

namespace Sys2Proof.Machine

/-- Round `v / 2^n` to the nearest integer, halves to even (convergent rounding). -/
def roundConv (v : Int) (n : Nat) : Int :=
  let k : Int := (2 ^ n : Nat)
  let q := v / k
  let r := v % k
  if 2 * r < k then q else if k < 2 * r then q + 1 else if q % 2 = 0 then q else q + 1

/-- The state of sensor `i`: 0 the die diode, 1 + s external sensor s. -/
def Dev.sensor (d : Dev) (i : Nat) : SensorSt := mat .init d.therm.sensors i

/-- Change the state of sensor `i`. -/
def Dev.setSensor (d : Dev) (i : Nat) (s : SensorSt) : Dev :=
  { d with therm := { d.therm with sensors := mput .init d.therm.sensors i s } }

/-- Is sensor `i` enabled? -/
def Dev.sensorOn (d : Dev) (i : Nat) : Bool := i == 0 || d.flag pTherm (R.THERM_EXT_CFG_EN (i - 1))

/-- The temperature of an ADC code through the 17-point table of external sensor `s` (R272). -/
def Dev.lutTemp (d : Dev) (s code : Nat) : Int :=
  let p (k : Nat) : Int := d.sfld pTherm (R.THERM_EXT_LUT_T s k)
  p (code / 256) + roundConv ((p (code / 256 + 1) - p (code / 256)) * (code % 256 : Nat)) 8

/-- Threshold `k` of sensor `i` in °C: 0 WARN, 1 to 4 the steps (R274). -/
def Dev.threshold (d : Dev) (i k : Nat) : Int :=
  let lo (off : Nat) : Fld := { off := off, lo := 8 * k, w := 8 }
  if i = 0 then
    if k < 4 then d.sfld pTherm (lo R.THERM_DIE_THR_A_WARN.off) else d.sfld pTherm R.THERM_DIE_THR_B_S4
  else if k < 4 then d.sfld pTherm (lo (R.THERM_EXT_THR_WARN (i - 1)).off)
  else d.sfld pTherm (R.THERM_EXT_CFG_S4 (i - 1))

/-- One threshold judged against one reading (R275): whether it is exceeded and the run toward a change. -/
def judgeThr (thr temp : Int) (exceeded : Bool) (run : Nat) : Bool × Nat :=
  if thr = 127 then (false, 0)
  else if exceeded then
    if temp < (thr - 3) * 256 then (if run + 1 < 50 then (true, run + 1) else (false, 0)) else (true, 0)
  else if thr * 256 ≤ temp then (if run + 1 < 50 then (false, run + 1) else (true, 0))
  else (false, 0)

/-- Every threshold of sensor `i` judged against a temperature, signed Q8.8 °C. -/
def Dev.judgeSensor (d : Dev) (i : Nat) (temp : Int) : Dev :=
  d.setSensor i ((List.range 5).foldl (fun s k =>
    let j := judgeThr (d.threshold i k) temp (s.exceeded.testBit k) (mat 0 s.runs k)
    { s with runs := mput 0 s.runs k j.2,
             exceeded := s.exceeded - (if s.exceeded.testBit k then 2 ^ k else 0) + (if j.1 then 2 ^ k else 0) }) (d.sensor i))

/-- The level of a sensor: how many of its S thresholds are exceeded (R275). -/
def SensorSt.level (s : SensorSt) : Nat := ((List.range 4).filter fun k => s.exceeded.testBit (k + 1)).length

/-- The level sensor `i` brings to the ladder: 0 when not enabled, 4 while its hold stands (R277). -/
def Dev.ladderLevel (d : Dev) (i : Nat) : Nat :=
  if (d.sensor i).held then 4 else if d.sensorOn i then (d.sensor i).level else 0

/-- The ladder step: the highest level among the sensors (R277). -/
def Dev.ladderStep (d : Dev) : Nat := (List.range 9).foldl (fun m i => max m (d.ladderLevel i)) 0

/-- The leading sensor: the lowest-numbered one that sets the step (R277). -/
def Dev.ladderLead (d : Dev) : Nat := ((List.range 9).find? fun i => d.ladderLevel i == d.ladderStep).getD 0

/-- A sensor is found broken, or no longer (R273): BROKEN, CAUSE and THERM_BROKEN show it; a broken external sensor is held
at step 4 until cleared or disabled (R278). -/
def Dev.sensorCause (d : Dev) (i cause : Nat) : Dev :=
  let s := d.sensor i
  let d := d.setSensor i { s with cause := cause, held := s.held || (cause != 0 && i != 0) }
  if cause = 0 ∨ s.held = true ∨ (i = 0 ∧ d.flag pTherm R.THERM_DIE_BROKEN = true) then d
  else
    let d := if i = 0 then (d.setFld pTherm R.THERM_DIE_BROKEN 1).setFld pTherm R.THERM_DIE_CAUSE cause
             else (d.setFld pTherm (R.THERM_EXT_T_BROKEN (i - 1)) 1).setFld pTherm (R.THERM_EXT_T_CAUSE (i - 1)) cause
    let d := d.setFld pTherm (R.THERM_BROKEN_SENSOR.bit i) 1
    let d := (d.bump pTherm R.THERM_CNT_BROKEN).raiseEvt pTherm 2
    d.levelOn (if i = 0 then 137 else 136) pTherm

/-- The hold of external sensor `s` ends: cleared or disabled (R278). -/
def Dev.sensorRelease (d : Dev) (s : Nat) : Dev :=
  let d := d.setSensor (1 + s) { d.sensor (1 + s) with held := false, cause := 0 }
  let d := (d.setFld pTherm (R.THERM_EXT_T_BROKEN s) 0).setFld pTherm (R.THERM_EXT_T_CAUSE s) 0
  let d := d.setFld pTherm (R.THERM_BROKEN_SENSOR.bit (1 + s)) 0
  if (List.range 8).any fun j => (d.sensor (1 + j)).held then d else d.levelOff 136 pTherm

/-- The die diode at one reading `t` (Q8.8 °C) with what its interface detects: 0 nothing, 1 open, 2 short (R271, R273). A
broken die diode counts as reading 125 °C. -/
def Dev.readDie (d : Dev) (t fault : Nat) : Dev :=
  let s := d.sensor 0
  let same := if d.flag pTherm R.THERM_DIE_VALID ∧ s.lastRaw = t then s.same + 1 else 1
  let temp := signed 16 t
  let cause :=
    if fault ≠ 0 then fault
    else if 1000 ≤ same then 3
    else if temp < -55 * 256 ∨ 150 * 256 < temp then 4
    else 0
  let d := d.setSensor 0 { s with lastRaw := t, same := same }
  let d := if cause = 0 then ((d.setFld pTherm R.THERM_DIE_T t).setFld pTherm R.THERM_DIE_VALID 1).recLast 0 temp else d
  let d := (d.sensorCause 0 cause).setFld pDev R.DEV_BOOT_DIE_OK 1
  let seen : Int := if cause = 0 then temp else 125 * 256
  { d with therm := { d.therm with hot := if 125 * 256 ≤ seen then d.therm.hot + 1 else 0 } }.judgeSensor 0 seen

/-- External sensor `s` at one die reading (R272, R273): it takes a result that is new, settled and of a converter without a
fault, and otherwise keeps its last valid temperature. -/
def Dev.readExt (d : Dev) (s : Nat) : Dev :=
  if !d.flag pTherm (R.THERM_EXT_CFG_EN s) then d
  else
    let i := 16 * d.fld pTherm (R.THERM_EXT_CFG_CONV s) + d.fld pTherm (R.THERM_EXT_CFG_INPUT s)
    let st := d.sensor (1 + s)
    let usable := mat false d.mon.fresh i && !d.flag pMon (R.MON_LAST_REF_NS i) && !d.monFault
    let code := d.fld pMon (R.MON_LAST_CODE i)
    let same := if st.seen && (!usable || code == st.lastRaw) then st.same + 1 else 0
    let age := if usable then 0 else st.age + 1
    let temp := d.lutTemp s code
    let cause :=
      if usable ∧ (code = 4095 ∨ d.fld pTherm (R.THERM_EXT_LIM_CODE_HI s) < code) then 1
      else if usable ∧ (code = 0 ∨ code < d.fld pTherm (R.THERM_EXT_LIM_CODE_LO s)) then 2
      else if d.fld pTherm (R.THERM_EXT_CFG_STUCK_S s) ≠ 0 ∧ 1000 * d.fld pTherm (R.THERM_EXT_CFG_STUCK_S s) ≤ same then 3
      else if usable ∧ (temp < -55 * 256 ∨ 150 * 256 < temp) then 4
      else if (if st.seen then 100 else 1000) ≤ age then 5
      else if usable then 0 else if st.cause = 5 then 5 else st.cause
    let good := usable && (cause == 0 || cause == 3)
    let d := d.setSensor (1 + s) { st with lastRaw := if usable then code else st.lastRaw, same := same, age := age,
                                           seen := st.seen || good }
    let d := if usable then { d with mon := { d.mon with fresh := mput false d.mon.fresh i false } } else d
    let d := if good then ((d.setS pTherm (R.THERM_EXT_T_T s) temp).setFld pTherm (R.THERM_EXT_T_VALID s) 1).recLast (1 + s) temp else d
    let d := d.sensorCause (1 + s) cause
    if d.flag pTherm (R.THERM_EXT_T_VALID s) then d.judgeSensor (1 + s) (d.sfld pTherm (R.THERM_EXT_T_T s)) else d

/-- The ladder after a reading (R277): step, leading sensor, WARN, and their events. -/
def Dev.ladderSet (d : Dev) : Dev :=
  let old := d.fld pTherm R.THERM_STAT_STEP
  let step := d.ladderStep
  let warn := (List.range 9).any fun i => d.sensorOn i && (d.sensor i).exceeded.testBit 0
  let held := (List.range 8).any fun j => (d.sensor (1 + j)).held
  let d := if warn && !d.flag pTherm R.THERM_STAT_WARN then d.raiseEvt pTherm 1 else d
  let d := (d.setFlag pTherm R.THERM_STAT_WARN warn).setFlag pTherm R.THERM_STAT_HELD held
  let d := (d.setFld pTherm R.THERM_STAT_STEP step).setFld pTherm R.THERM_STAT_LEAD d.ladderLead
  let d := (if old = step then d else d.raiseEvt pTherm 0).recHigh 15 step
  if old < step then (d.bump pTherm R.THERM_CNT_STEP_UP).recCount (831 + step) 1 else d

/-- Should the device shut down now (R276)? -/
def Dev.tooHot (d : Dev) : Bool := decide (2 ≤ d.therm.hot) || d.flag pTherm R.THERM_DIE_BROKEN

/-- A write to THERM_CLR (R278): each named sensor that is held, whose latest result is valid and with no cause holding, is
released, its thresholds starting as exceeded within 3 °C; any other is counted. -/
def Dev.thermClear (d : Dev) (ext : Nat) : Dev :=
  (List.range 8).foldl (fun d s =>
    if !ext.testBit s then d
    else
      let st := d.sensor (1 + s)
      if st.held && st.cause == 0 && st.seen && d.flag pTherm (R.THERM_EXT_CFG_EN s) then
        let t := d.sfld pTherm (R.THERM_EXT_T_T s)
        let mask := (List.range 5).foldl (fun m k =>
          if d.threshold (1 + s) k ≠ 127 ∧ (d.threshold (1 + s) k - 3) * 256 ≤ t then m + 2 ^ k else m) 0
        (d.sensorRelease s).setSensor (1 + s) { (d.sensorRelease s).sensor (1 + s) with exceeded := mask, runs := [] }
      else d.bump pTherm R.THERM_CNT_CLR_REF) d

end Sys2Proof.Machine
end

