-- ==== Sys2Proof/Machine/Decibel.lean ====
section
/-! DEFINITION. Decibel readings: signed Q8.8 values of a power ratio (R70, R152), exact but for the rounding the spec does not
state (log entry 10). -/

namespace Sys2Proof.Machine

/-- Ten times the logarithm of `num / den` reaches `v` in 1/256 dB: num^2560 ≥ den^2560 · 10^v. -/
def dbReaches (num den : Nat) (v : Int) : Bool :=
  if 0 ≤ v then decide (den ^ 2560 * 10 ^ v.toNat ≤ num ^ 2560) else decide (den ^ 2560 ≤ num ^ 2560 * 10 ^ v.natAbs)

/-- Search down from step `2^k` for the largest reached value at or above `v`. -/
def dbSearch (num den : Nat) : Nat → Int → Int
  | 0, v => v
  | k + 1, v =>
    let w := v + (2 ^ k : Nat)
    dbSearch num den k (if dbReaches num den w then w else v)

/-- The reading of a power ratio in Q8.8 dB: 0x8000 for zero, else between 0x8001 and 0x7FFF (R70). -/
def dbOf (num den : Nat) : Int :=
  if num = 0 ∨ den = 0 then -32768
  else if !dbReaches num den (-32767) then -32767
  else
    let v := dbSearch num den 16 (-32767)
    let v := min v 32767
    if v < 32767 ∧ Config.roundUp num den then v + 1 else v

/-- Is a reading in dB present? 0x8000 stands for none. -/
def dbNone (v : Int) : Bool := v == -32768

/-- The binary exponent of a gain in Q8.8 dB: the factor lies in [2^(s-1), 2^s) (R151). -/
def gainExp (g : Int) : Int :=
  let l := (Nat.log2 (10 ^ g.natAbs) / 5120 : Nat)
  if 0 ≤ g then (l : Int) + 1 else -(l : Int)

/-- The gain factor of a gain in Q8.8 dB as mantissa over 2^17 and exponent; 0 dB is exact (R151). Gains above +90.3 dB are
applied as +90.3 dB. -/
def gainFactor (g : Int) : Nat × Int :=
  let g := min g 23117
  if g = 0 then (65536, 1) else (65536 + (Config.gainMant g).toNat, max (gainExp g) (-32))

/-- A value times a gain factor, rounded convergently (R151). -/
def applyFactor (f : Nat × Int) (v : Int) : Int :=
  if 17 ≤ f.2 then v * f.1 * (2 ^ (f.2 - 17).toNat : Nat) else roundConv (v * f.1) (17 - f.2).toNat

end Sys2Proof.Machine
end

