-- ==== Sys2Proof/Machine/SieveOps.lean ====
section
/-! DEFINITION. The Sieve: channel shapes, filter stages, restarts, banks and fades, resampling, delay, and the transmit
chain (R51 to R99). A chain is bit-true on the ROMs of Config; its fixed latency (R19) is left out: output p of a stage of
rate 1/R is formed when input R p arrives (log entry 14). -/

namespace Sys2Proof.Machine

/-! ### Words -/

/-- Even parity over 16 bits. -/
def parity16 (w : BitVec 16) : Bool := (List.range 16).foldl (fun b i => b != w.getLsbD i) false

/-- A good sample word of two values. -/
def mkWord (i q : Int) : SampleWord :=
  let bi := BitVec.ofInt 16 i
  let bq := BitVec.ofInt 16 q
  { i := bi, q := bq, pi := parity16 bi, pq := parity16 bq, spoil := false }

/-- A zero sample word with SPOIL set (R18). -/
def spoilWord : SampleWord := { i := 0, q := 0, pi := false, pq := false, spoil := true }

/-- Does the parity of a word check? -/
def SampleWord.good (w : SampleWord) : Bool := w.pi == parity16 w.i && w.pq == parity16 w.q

/-- Round off `n` bits and clamp symmetrically to `w` bits (R52, R53). -/
def reduceTo (n w : Nat) (v : Int) : Int :=
  let r := roundConv v n
  let m : Int := (2 ^ (w - 1) : Nat) - 1
  if m < r then m else if r < -m then -m else r

/-- Was a value clamped on the way to `w` bits (R53)? -/
def clamped (n w : Nat) (v : Int) : Bool :=
  let r := roundConv v n
  let m : Int := (2 ^ (w - 1) : Nat) - 1
  decide (m < r) || decide (r < -m)

/-- A complex value reduced, with a count of one when I or Q was clamped. -/
def reducePair (n w : Nat) (z : Int × Int) : (Int × Int) × Nat :=
  ((reduceTo n w z.1, reduceTo n w z.2), (clamped n w z.1 || clamped n w z.2).toNat)

/-- The sum of taps times samples, from tap `t` on. -/
def dot (h : Nat → Int) : Nat → Hist → Int × Int
  | _, [] => (0, 0)
  | t, x :: r => let s := dot h (t + 1) r; (h t * x.1 + s.1, h t * x.2 + s.2)

/-! ### Filters (R60) -/

/-- The half-band variant of a profile: 0 short, 1 standard, 2 long (R60). -/
def variantOf (profile : Nat) : Nat := if profile = 3 then 0 else if profile = 2 then 2 else 1

/-- Taps of half-band stage `s` of a chain of `n` stages in a variant (Table 03-3). -/
def hbTaps (variant n s : Nat) : Nat :=
  let pick (a b c : Nat) : Nat := if variant = 0 then a else if variant = 1 then b else c
  if s = n then pick 11 23 35 else if s + 1 = n then pick 7 11 15 else pick 7 7 11

/-- Coefficient `t` of a half-band filter: 0.5 at the centre, zero at every other even offset (R60). -/
def hbCoef (taps t : Nat) : Int :=
  let c := (taps - 1) / 2
  let dist := if t ≤ c then c - t else t - c
  if dist = 0 then 0x10000 else if dist % 2 = 0 then 0 else Config.hbRom taps dist

/-- Coefficient `t` of the 31-tap stage of rate 4 (R60). -/
def dec4Coef (t : Nat) : Int := Config.dec4Rom (if t ≤ 15 then 15 - t else t - 15)

/-- Fill length of the decimation chain in channel samples (Table 03-5). -/
def fillLength (variant : Nat) : Nat := if variant = 0 then 9 else if variant = 1 then 16 else 23

/-- Delay-line length M (Table 04-1). -/
def lineLength (profile k : Nat) : Nat :=
  if profile = 3 then [3, 5, 9, 17, 32, 32, 32].getD k 32 else [5, 9, 17, 33, 65, 128, 128].getD k 128

/-- Converter samples per half-band sample of RATE_K = k (R62): 2^(11 − k). -/
def gridStep (k : Nat) : Nat := 2 ^ (11 - k)

/-! ### A channel's shape -/

/-- How many bits of a 4-bit mask are set. -/
def popCount4 (m : Nat) : Nat := ((List.range 4).filter fun i => m.testBit i).length

/-- The `j`-th lowest-numbered port of a mask (R15). -/
def nthPort (m j : Nat) : Nat := ((List.range 4).filter fun i => m.testBit i).getD j 0

/-- The rank a RANK code stands for (Table 01-3). -/
def rankOf (code : Nat) : Nat := if code = 0 then 1 else if code = 1 then 2 else 4

/-- Is channel `n` enabled in effect? -/
def Dev.chOn (d : Dev) (n : Nat) : Bool := d.flag (pCh n) R.PG_CTL_EN

/-- The rank of channel `n`. -/
def Dev.chRank (d : Dev) (n : Nat) : Nat := rankOf (d.fld (pCh n) R.CH_DEF_RANK)

/-- Is channel `n` an uplink channel? -/
def Dev.chUp (d : Dev) (n : Nat) : Bool := d.flag (pCh n) R.CH_DEF_DIR

/-- The enabled channels. -/
def Dev.channels (d : Dev) : List Nat := (List.range 192).filter d.chOn

/-- The converter of stream `j` of a receive mask, ADC0 to ADC7 as 0 to 7 (R13). -/
def rxConvOf (up : Bool) (mask j : Nat) : Nat := nthPort mask j + if up then 4 else 0

/-- The converter of stream `j` of a transmit mask, DAC0 to DAC7 as 8 to 15 (R13). -/
def txConvOf (up : Bool) (mask j : Nat) : Nat := 8 + nthPort mask j + if up then 0 else 4

/-- The converter that stream `j` of channel `n` enters by. -/
def Dev.rxConv (d : Dev) (n j : Nat) : Nat := rxConvOf (d.chUp n) (d.fld (pCh n) R.CH_DEF_IN_MASK) j

/-- The converter that stream `j` of channel `n` leaves by. -/
def Dev.txConv (d : Dev) (n j : Nat) : Nat := txConvOf (d.chUp n) (d.fld (pCh n) R.CH_DEF_OUT_MASK) j

/-- The path group a converter belongs to (Table 01-1). -/
def convGroup (c : Nat) : Nat := if c < 4 then 0 else if c < 8 then 2 else if c < 12 then 3 else 1

/-- The converters of a path group. -/
def groupConvs (g : Nat) : List Nat :=
  (List.range 4).map fun i => if g = 0 then i else if g = 1 then 12 + i else if g = 2 then 4 + i else 8 + i

/-- The group channel `n` comes in by, and the one it leaves by. -/
def Dev.inGroup (d : Dev) (n : Nat) : Nat := if d.chUp n then 2 else 0

/-- The group channel `n` leaves by. -/
def Dev.outGroup (d : Dev) (n : Nat) : Nat := if d.chUp n then 3 else 1

/-- The state of converter `c`. -/
def Dev.convSt (d : Dev) (c : Nat) : ConvSt := mat .init d.conv c

/-- Change the state of converter `c`. -/
def Dev.setConv (d : Dev) (c : Nat) (s : ConvSt) : Dev := { d with conv := mput .init d.conv c s }

/-- Does converter `c` deliver samples: powered by its group and neither asleep nor waking? -/
def ConvSt.runs (s : ConvSt) : Bool := s.powered && !s.asleep && !s.waking

/-- Does converter `c` run the alternative frequency plan (Table 09-1)? -/
def Dev.altPlan (d : Dev) (c : Nat) : Bool := d.flag (pSyn (c / 8)) R.SYN_CTL_PLAN

/-- Converter samples per CK_FRAME cycle: 32, or 30 on the alternative plan (R56, R73). -/
def Dev.convRate (d : Dev) (c : Nat) : Nat := if d.altPlan c then 30 else 32

/-- The key of stream `j` of channel `n`. -/
def streamKey (n j : Nat) : Nat := 4 * n + j

/-- Receive chain `j` of channel `n`. -/
def Dev.rxChain (d : Dev) (n j : Nat) : RxChain := mat .init d.rx (streamKey n j)

/-- Transmit chain `j` of channel `n`. -/
def Dev.txChain (d : Dev) (n j : Nat) : TxChain := mat .init d.tx (streamKey n j)

/-- Change receive chain `j` of channel `n`. -/
def Dev.setRx (d : Dev) (n j : Nat) (c : RxChain) : Dev := { d with rx := mput .init d.rx (streamKey n j) c }

/-- Change transmit chain `j` of channel `n`. -/
def Dev.setTx (d : Dev) (n j : Nat) (c : TxChain) : Dev := { d with tx := mput .init d.tx (streamKey n j) c }

/-- The filters of channel `n`. -/
def Dev.sieveCh (d : Dev) (n : Nat) : SieveCh := mat .init d.sieve n

/-- Change the filters of channel `n`. -/
def Dev.setSieve (d : Dev) (n : Nat) (s : SieveCh) : Dev := { d with sieve := mput .init d.sieve n s }

/-- Count spoil words of channel `n` (R18): its register, its performance counter, and the recorder's counter at one per
1,024 (Table 17-3). -/
def Dev.addSpoil (d : Dev) (n k : Nat) : Dev :=
  let d := (d.bumpBy (pCh n) R.CH_SPOIL_CNT_COUNT k).perf (4 * n + 1) k
  let r := mat 0 d.rcd.spoilRem n + k
  ({ d with rcd := { d.rcd with spoilRem := mput 0 d.rcd.spoilRem n (r % 1024) } }).recCount (640 + n) (r / 1024)

/-- Count words clamped in channel `n` (R53). -/
def Dev.addSat (d : Dev) (n k : Nat) : Dev :=
  if k = 0 then d else (d.setFld (pCh n) R.CH_SV_STAT_SAT 1).bumpBy (pCh n) R.CH_SV_CNT_SAT k

/-! ### Restarts (R64, R92) -/

/-- The receive frequency word in effect of channel `n`, and the transmit one (R54, R90). -/
def Dev.ftwRx (d : Dev) (n : Nat) : Int := signed 48 (d.pair (pCh n) R.CH_NCO_FTW_LO_FTW_LO R.CH_NCO_FTW_HI_FTW_HI)

/-- The transmit frequency word in effect of channel `n` (R90). -/
def Dev.ftwTx (d : Dev) (n : Nat) : Int := signed 48 (d.pair (pCh n) R.CH_NCO_TX_FTW_LO_FTW_LO R.CH_NCO_TX_FTW_HI_FTW_HI)

/-- The accumulator R56 gives at converter sample `n`. -/
def accAt (pofs : Nat) (ftw : Int) (n : Nat) : Nat := twos 48 ((pofs : Int) * 65536 + ftw * n)

/-- Ask the receive chains of channel `n` to restart at their next grid sample; one restart is counted (R64). A fade
completes at once (R84). -/
def Dev.restartRx (d : Dev) (n : Nat) : Dev :=
  let d := (List.range (d.chRank n)).foldl (fun d j => d.setRx n j { d.rxChain n j with restart := true }) d
  let d := (List.range (d.chRank n)).foldl (fun d j => d.perf (1200 + 4 * d.rxConv n j + 1) 1) d
  let d := d.bump (pCh n) R.CH_SV_CNT_RESTART
  if d.flag (pCh n) R.CH_FIR_STAT_FADING then
    (d.setFld (pCh n) R.CH_FIR_STAT_ACTIVE (1 - d.fld (pCh n) R.CH_FIR_STAT_ACTIVE)).setFld (pCh n) R.CH_FIR_STAT_FADING 0
  else d

/-- Ask the transmit chains of channel `n` to restart (R92). -/
def Dev.restartTx (d : Dev) (n : Nat) : Dev :=
  (List.range (d.chRank n)).foldl (fun d j =>
    (d.setTx n j { d.txChain n j with restart := true }).perf (1200 + 4 * d.txConv n j + 1) 1) d

/-- Does channel `n` run receive chains on converter `c`? -/
def Dev.usesRx (d : Dev) (n c : Nat) : Bool :=
  d.chOn n && d.flag (pCh n) R.CH_DEF_SRC_LOCAL && (List.range (d.chRank n)).any fun j => d.rxConv n j == c

/-- Does channel `n` run transmit chains on converter `c`? -/
def Dev.usesTx (d : Dev) (n c : Nat) : Bool :=
  d.chOn n && d.fld (pCh n) R.CH_DEF_OUT_MASK != 0 && (List.range (d.chRank n)).any fun j => d.txConv n j == c

/-- Restart every chain fed by, or feeding, a converter of a list (R63, R22, R66); a channel restarts once. -/
def Dev.restartConvs (d : Dev) (cs : List Nat) : Dev :=
  d.channels.foldl (fun d n =>
    let d := if cs.any (d.usesRx n) then d.restartRx n else d
    if cs.any (d.usesTx n) then d.restartTx n else d) d

/-- The ABSENT bits of channel `n` (R67): streams whose converter does not run. -/
def Dev.setAbsent (d : Dev) (n : Nat) : Dev :=
  let m := (List.range (d.chRank n)).foldl (fun m j => if (d.convSt (d.rxConv n j)).runs then m else m + 2 ^ j) 0
  d.setFld (pCh n) R.CH_SV_STAT_ABSENT (if d.chOn n && d.flag (pCh n) R.CH_DEF_SRC_LOCAL then m else 0)

/-- Show ABSENT on every enabled channel. -/
def Dev.setAbsentAll (d : Dev) : Dev := d.channels.foldl Dev.setAbsent d

/-- Give converter `c` a sync reference at this tick (R63, R66). -/
def Dev.setRef (d : Dev) (c : Nat) (implicit : Bool) : Dev :=
  let d := d.setConv c { d.convSt c with ref := true, count := 0 }
  let d := d.setFld (pConv c) R.SV_REF_TICK_TICK d.frame.tick
  let d := d.setFld (pConv c) R.SV_REF_FRAME d.frame.frame
  (d.setFlag (pConv c) R.SV_REF_IMPLICIT implicit).setFld (pConv c) R.SV_REF_VALID 1

/-- A SIEVE_SYNC takes effect on the converters of a mask, ADC0 to ADC7 then DAC0 to DAC7 (R63, R66): those running take
this tick as their reference and restart their chains; those powered down count SYNC_IGN. -/
def Dev.sieveSync (d : Dev) (mask : Nat) : Dev :=
  let named := (List.range 16).filter fun c => mask.testBit c
  let live := named.filter fun c => (d.convSt c).runs
  let d := named.foldl (fun d c =>
    if (d.convSt c).runs then ((d.setRef c false).bump (pConv c) R.SV_CNT_SYNC).perf (1200 + 4 * c + 2) 1
    else d.bump (pConv c) R.SV_CNT_SYNC_IGN) d
  d.restartConvs live

/-- A converter returns from power-down (R66): its reference is the first tick its M buffer delivers, IMPLICIT sets, and its
chains restart. -/
def Dev.convReturn (d : Dev) (c : Nat) : Dev :=
  let d := d.setConv c { powered := true, asleep := false, waking := false, ref := false, count := 0 }
  ((d.setRef c true).restartConvs [c]).setAbsentAll

/-- A converter powers down: its streams are absent (R67). -/
def Dev.convDown (d : Dev) (c : Nat) : Dev := (d.setConv c .init).setAbsentAll

/-! ### FIR banks (R77 to R84) -/

/-- The delay-line length in use on channel `n`. -/
def Dev.lineM (d : Dev) (n : Nat) : Nat :=
  (d.sieveCh n).unfitM.getD (lineLength d.profile (d.fld (pCh n) R.CH_DEF_RATE_K))

/-- Taps in a bank of channel `n`: 0 is bank A. -/
def Dev.bankTaps (d : Dev) (n bank : Nat) : Nat :=
  d.fld (pCh n) (if bank = 0 then R.CH_FIR_NTAPS_NTAPS_A else R.CH_FIR_NTAPS_NTAPS_B)

/-- Coefficient of a bank at tap `t` (R79). -/
def Dev.bankCoef (d : Dev) (n bank t : Nat) : Int :=
  let i := min t (d.bankTaps n bank - 1 - t)
  d.sfld (pCh n) (if bank = 0 then R.CH_FIR_A_COEF i else R.CH_FIR_B_COEF i)

/-- Why a bank of `n` taps cannot be used under a line of `m`: 0 it can, 2 too long, 3 odd difference (R78, Table 04-8). -/
def bankFault (n m : Nat) : Nat := if n = 0 then 0 else if m < n then 2 else if (m - n) % 2 = 1 then 3 else 0

/-- The bank whose coefficient could not be read leaves the active role: source 115 no longer stands (Table 16-2). -/
def Dev.firMend (d : Dev) (n : Nat) : Dev :=
  if (d.sieveCh n).firBad = 0 then d else (d.setSieve n { d.sieveCh n with firBad := 0 }).levelOff 115 (pCh n)

/-- A coefficient of the active bank of channel `n` cannot be read (Table 16-2, source 115). -/
def Dev.firBreak (d : Dev) (n : Nat) : Dev :=
  (d.setSieve n { d.sieveCh n with firBad := d.fld (pCh n) R.CH_FIR_STAT_ACTIVE + 1 }).levelOn 115 (pCh n)

/-- A swap ends the unfit-bank condition or completes without a fade: bank `b` is active at once (R81, R26). -/
def Dev.swapNow (d : Dev) (n b : Nat) : Dev :=
  ((d.firMend n).setFld (pCh n) R.CH_FIR_STAT_ACTIVE b).raiseEvt (pCh n) 5

/-- Start a fade of channel `n` to the other bank over 2^k samples (R81). -/
def Dev.fadeStart (d : Dev) (n k : Nat) : Dev :=
  (d.setSieve n { d.sieveCh n with fadeK := k, fadeN := 0 }).setFld (pCh n) R.CH_FIR_STAT_FADING 1

/-- Does channel `n` produce FIR output samples now (R81)? -/
def Dev.firRuns (d : Dev) (n : Nat) : Bool :=
  d.chOn n && d.flag (pCh n) R.CH_DEF_SRC_LOCAL &&
    (List.range (d.chRank n)).any fun j => (d.convSt (d.rxConv n j)).runs && (d.convSt (d.rxConv n j)).ref

/-- The unfit-bank condition ends: CODE returns to 0, and the chain restarts under the profile's line (R26). -/
def Dev.unfitEnd (d : Dev) (n : Nat) : Dev :=
  let d := d.setSieve n { d.sieveCh n with unfitM := none }
  ((d.setFld (pCh n) R.CH_DEF_ERR_CODE 0).restartRx n).stir (pCh n)

/-- A bank swap is requested (R82, R83): refused, without effect, queued behind a running fade, or begun. -/
def Dev.requestSwap (d : Dev) (n bank k : Nat) : Dev :=
  let m := lineLength d.profile (d.fld (pCh n) R.CH_DEF_RATE_K)
  let why := if k < 4 ∨ 12 < k then 1 else bankFault (d.bankTaps n bank) m
  if why ≠ 0 then
    (d.bump (pCh n) R.CH_FIR_CNT_REFUSED).setFld (pCh n) R.CH_FIR_STAT_LAST_REFUSE why
  else if d.flag (pCh n) R.CH_FIR_STAT_FADING then
    let d := if d.flag (pCh n) R.CH_FIR_STAT_QUEUED then d.bump (pCh n) R.CH_FIR_CNT_REPLACED else d
    ((d.setFld (pCh n) R.CH_FIR_STAT_QUEUED 1).setFld (pCh n) R.CH_FIR_STAT_QBANK bank).setFld (pCh n) R.CH_FIR_STAT_QK k
  else if d.fld (pCh n) R.CH_FIR_STAT_ACTIVE = bank then d
  else if (d.sieveCh n).unfitM.isSome then (d.swapNow n bank).unfitEnd n
  else if d.firRuns n then d.fadeStart n k
  else d.swapNow n bank

/-- A fade of channel `n` ends: the new bank is active, and a queued request to the other bank begins its own (R83). -/
def Dev.fadeFinish (d : Dev) (n : Nat) : Dev :=
  if !d.flag (pCh n) R.CH_FIR_STAT_FADING then d
  else
    let now := 1 - d.fld (pCh n) R.CH_FIR_STAT_ACTIVE
    let d := ((d.firMend n).setFld (pCh n) R.CH_FIR_STAT_ACTIVE now).setFld (pCh n) R.CH_FIR_STAT_FADING 0
    let d := d.raiseEvt (pCh n) 5
    if d.flag (pCh n) R.CH_FIR_STAT_QUEUED then
      let d := d.setFld (pCh n) R.CH_FIR_STAT_QUEUED 0
      if d.fld (pCh n) R.CH_FIR_STAT_QBANK = now then d else d.fadeStart n (d.fld (pCh n) R.CH_FIR_STAT_QK)
    else d

/-- Is a bank locked against writes (R79)? -/
def Dev.bankLocked (d : Dev) (n bank : Nat) : Bool :=
  d.flag (pCh n) R.CH_FIR_STAT_FADING || d.fld (pCh n) R.CH_FIR_STAT_ACTIVE == bank

/-- A write to a coefficient of a bank (R79). -/
def Dev.writeCoef (d : Dev) (n bank i v : Nat) : Dev :=
  if d.bankLocked n bank then d.bump (pCh n) R.CH_FIR_CNT_LOCKED_WR
  else d.setFld (pCh n) (if bank = 0 then R.CH_FIR_A_COEF i else R.CH_FIR_B_COEF i) v

/-- A write to CH_FIR_NTAPS, which acts on each field on its own (R79). -/
def Dev.writeTaps (d : Dev) (n a b : Nat) : Dev :=
  let la := d.bankLocked n 0
  let lb := d.bankLocked n 1
  let hit := (la && d.bankTaps n 0 != a) || (lb && d.bankTaps n 1 != b)
  let d := if la then d else d.setFld (pCh n) R.CH_FIR_NTAPS_NTAPS_A a
  let d := if lb then d else d.setFld (pCh n) R.CH_FIR_NTAPS_NTAPS_B b
  if hit then d.bump (pCh n) R.CH_FIR_CNT_LOCKED_WR else d

/-- The accumulator of a bank over a delay line of words, and whether a spoil word lies under its taps (R77, R80). A bypass
passes the word floor((M − 1)/2) samples back. -/
def bankSum (coef : Nat → Int) (taps m : Nat) (line : List SampleWord) : (Int × Int) × Bool :=
  let z (w : SampleWord) : Int × Int := if w.spoil then (0, 0) else (w.i.toInt, w.q.toInt)
  if taps = 0 then
    let w := line.getD ((m - 1) / 2) .init
    (((z w).1 * 65536, (z w).2 * 65536), w.spoil)
  else
    let under := (line.drop ((m - taps) / 2)).take taps
    (dot coef 0 (under.map z), under.any (·.spoil))

/-- One FIR output word of channel `n` from a delay line, fading where a fade runs (R77 to R81), with its clamp count. -/
def Dev.firOut (d : Dev) (n : Nat) (line : List SampleWord) : SampleWord × Nat :=
  let act := d.fld (pCh n) R.CH_FIR_STAT_ACTIVE
  let m := d.lineM n
  let x := bankSum (d.bankCoef n act) (d.bankTaps n act) m line
  let x := (x.1, x.2 || ((d.sieveCh n).firBad == act + 1 && d.bankTaps n act != 0))
  if d.flag (pCh n) R.CH_FIR_STAT_FADING then
    let y := bankSum (d.bankCoef n (1 - act)) (d.bankTaps n (1 - act)) m line
    let s := d.sieveCh n
    let len : Int := (2 ^ s.fadeK : Nat)
    let c : Int := min ((s.fadeN : Int) + 1) len
    let v := ((x.1.1 * (len - c) + y.1.1 * c), (x.1.2 * (len - c) + y.1.2 * c))
    let r := reducePair (16 + s.fadeK) 16 v
    (if x.2 || y.2 then spoilWord else mkWord r.1.1 r.1.2, if x.2 || y.2 then 0 else r.2)
  else
    let r := reducePair 16 16 x.1
    (if x.2 then spoilWord else mkWord r.1.1 r.1.2, if x.2 then 0 else r.2)

/-! ### The receive chain, sample by sample -/

/-- What one converter sample made a cascade of half-bands produce: the histories, an output, the coarse tap, and clamps. -/
structure HbOut where
  hs : List Hist
  out : Option (Int × Int)
  tap : Option (Int × Int)
  clamps : Nat

/-- Push a sample of index `i` into half-band stage `s` and the stages after it; each halves the rate (R60). -/
def hbRun (taps : Nat → Nat) (tapAt : Nat) : Nat → List Hist → Nat → (Int × Int) → HbOut
  | _, [], _, x => { hs := [], out := some x, tap := none, clamps := 0 }
  | s, h :: rest, i, x =>
    let h' := (x :: h).take (taps s)
    if i % 2 = 0 then
      let y := reducePair 17 18 (dot (hbCoef (taps s)) 0 h')
      let r := hbRun taps tapAt (s + 1) rest (i / 2) y.1
      { r with hs := h' :: r.hs, tap := if s = tapAt then some y.1 else r.tap, clamps := y.2 + r.clamps }
    else { hs := h' :: rest, out := none, tap := none, clamps := 0 }

/-- What the chain needs to know of its channel. -/
structure RxCfg where
  k : Nat
  shift : Nat
  variant : Nat
  ftw : Int
  pofs : Nat
  resamp : Bool
  step : Nat

/-- The first resampler output that still meets input `r` or a later one (R80, R87). -/
def rsFirst (step r : Nat) : Nat := if r < 8 ∨ step = 0 then 0 else ((r - 8) * 2 ^ 30 + step - 1) / step

/-- A chain restarts at converter sample `n`, which is grid sample `n / gridStep` (R64 to R66, R69). -/
def RxChain.begin (c : RxChain) (f : RxCfg) (n : Nat) : RxChain :=
  let r := n / gridStep f.k
  { c with ftw := f.ftw, pofs := f.pofs, acc := accAt f.pofs f.ftw n, restart := false, retune := none, dec := [],
           hbs := List.replicate (9 - f.k) [], fillLeft := fillLength f.variant, coarseFrom := r + 7,
           coarseSum := 0, coarsePeak := 0, coarseN := 0, fir := [], rsIn := [], rsIdx := r, rsNext := rsFirst f.step r }

/-- A waiting frequency or phase change takes effect at a grid sample (R57 to R59). -/
def RxChain.tune (c : RxChain) (n : Nat) : RxChain :=
  match c.retune with
  | none => c
  | some t =>
    let acc := if t.ftw ≠ c.ftw ∧ t.coherent = true then accAt t.pofs t.ftw n
               else twos 48 ((c.acc : Int) + ((t.pofs : Int) - c.pofs) * 65536)
    { c with ftw := t.ftw, pofs := t.pofs, acc := acc, retune := none }

/-- One converter sample `x` of index `n` through mixer, decimate-by-4 and half-bands (R51 to R60), with the coarse path
(R68, R69). Answers the chain, the 18-bit output of a grid sample, and clamps. -/
def RxChain.sample (c : RxChain) (f : RxCfg) (n : Nat) (x : Int) : RxChain × Option (Int × Int) × Nat :=
  let c := if n % gridStep f.k = 0 then (if c.restart then c.begin f n else c.tune n) else c
  let ph := c.acc / 2 ^ 28
  let m := reducePair 11 18 (x * Config.cosRom ph, -(x * Config.sinRom ph))
  let dec := (m.1 :: c.dec).take 31
  let c := { c with acc := twos 48 ((c.acc : Int) + c.ftw), dec := dec }
  if n % 4 ≠ 0 then (c, none, m.2)
  else
    let y := reducePair 17 18 (dot dec4Coef 0 dec)
    let h := hbRun (hbTaps f.variant (9 - f.k)) (6 - f.k) 1 c.hbs (n / 4) y.1
    let tap := if f.k = 6 then some y.1 else h.tap
    let c := { c with hbs := h.hs }
    let c := match tap with
      | none => c
      | some t =>
        let sum := c.coarseSum + (t.1 * t.1 + t.2 * t.2).toNat
        let peak := max c.coarsePeak (max t.1.natAbs t.2.natAbs)
        if c.coarseN = 7 then
          { c with coarseSum := 0, coarsePeak := 0, coarseN := 0,
                   coarseOut := some (sum, peak, decide (c.coarseFrom ≤ n / gridStep f.k)) }
        else { c with coarseSum := sum, coarsePeak := peak, coarseN := c.coarseN + 1 }
    (c, h.out, m.2 + y.2 + h.clamps)

/-- The word a grid sample leaves the decimation chain as: spoil while the fill lasts, else shifted and reduced to 16 bits
(R51, R65). -/
def RxChain.leave (c : RxChain) (f : RxCfg) (z : Int × Int) : RxChain × SampleWord × Nat :=
  if c.fillLeft ≠ 0 then ({ c with fillLeft := c.fillLeft - 1 }, spoilWord, 0)
  else
    let r := reducePair 2 16 (z.1 * (2 ^ f.shift : Nat), z.2 * (2 ^ f.shift : Nat))
    (c, mkWord r.1.1 r.1.2, r.2)

/-- The value of a 16-tap phase of the resampler over 16 words, oldest first, and whether one is spoil (R87). -/
def rsSum (f : Nat) (win : List SampleWord) : (Int × Int) × Bool :=
  (dot (Config.rsRom f) 0 (win.map fun w => if w.spoil then (0, 0) else (w.i.toInt, w.q.toInt)), win.any (·.spoil))

/-- The receive resampler's outputs that input `idx` makes possible, at most two (R87): output m needs inputs i − 7 to
i + 8. -/
def RxChain.resample (c : RxChain) (step : Nat) : Nat → RxChain × List (SampleWord × Nat)
  | 0 => (c, [])
  | fuel + 1 =>
    let p := c.rsNext * step
    let f0 := (roundConv (p % 2 ^ 30 : Nat) 20).toNat
    let i := p / 2 ^ 30 + if f0 = 1024 then 1 else 0
    let f := if f0 = 1024 then 0 else f0
    if i + 8 ≤ c.rsIdx then
      let back := c.rsIdx - (i + 8)
      let win := ((List.range 16).map fun t => c.rsIn.getD (back + (15 - t)) .init)
      let s := rsSum f win
      let r := reducePair 16 16 s.1
      let w := if s.2 then spoilWord else mkWord r.1.1 r.1.2
      let rest := RxChain.resample { c with rsNext := c.rsNext + 1 } step fuel
      (rest.1, (w, if s.2 then 0 else r.2) :: rest.2)
    else (c, [])

/-! ### Delay (R93 to R97) -/

/-- Units of a delay: one tick is 960 × 2^30 of them, so every term of R93 is whole. -/
def tickUnits : Nat := 960 * 2 ^ 30

/-- Decimation chain delay of Table 04-5 in 1/32 tick: 15 for the stage of rate 4, and (taps − 1)/2 input periods for each
half-band. -/
def decDelay (variant k : Nat) : Nat :=
  (List.range (9 - k)).foldl (fun s i => s + (hbTaps variant (9 - k) (i + 1) - 1) / 2 * 2 ^ i * 4) 15

/-- What the delay of a channel depends on. -/
structure DelayCfg where
  profile : Nat
  k : Nat
  resamp : Bool
  step : Nat
  altRx : Bool
  altTx : Bool
  extra : Nat
  padded : Bool

/-- The floor of a profile in ticks (R94). -/
def delayFloor (profile : Nat) : Nat := if profile = 3 then 443 else if profile = 2 then 984 else 885

/-- The limit of a profile in ticks (Table 04-3, code 12). -/
def delayLimit (profile : Nat) : Nat := if profile = 3 then 786 else if profile = 2 then 1769 else 1376

/-- The channel sample period in units. -/
def DelayCfg.tch (c : DelayCfg) : Nat :=
  let thb := 2 ^ (6 - c.k) * tickUnits * (if c.altRx then 16 else 15) / 15
  if c.resamp then thb / 2 ^ 30 * c.step else thb

/-- The delay of R93 without its pad, in units. -/
def DelayCfg.base (c : DelayCfg) : Nat :=
  let part (x : Nat) (alt : Bool) : Nat := x * (tickUnits / 32) * (if alt then 16 else 15) / 15
  let thb := 2 ^ (6 - c.k) * tickUnits * (if c.altRx then 16 else 15) / 15
  let v := variantOf c.profile
  5146 * (tickUnits / 32) + part (decDelay v c.k) c.altRx + (lineLength c.profile c.k - 1) * thb / 2 +
    (if c.resamp then 8 * thb + 8 * c.tch else 0) + part (decDelay v c.k) c.altTx

/-- The pad P of R94, EXTRA included; none where R97 says so. -/
def DelayCfg.pad (c : DelayCfg) : Nat :=
  if c.padded then
    let floor := delayFloor c.profile * tickUnits
    (if floor ≤ c.base then 0 else (floor - c.base + c.tch - 1) / c.tch) + c.extra
  else 0

/-- The relay delay in units. -/
def DelayCfg.total (c : DelayCfg) : Nat := c.base + c.pad * c.tch

/-- Does the delay exceed the profile's limit (code 12)? -/
def DelayCfg.tooLong (c : DelayCfg) : Bool := decide (delayLimit c.profile * tickUnits < c.total)

/-- The delay settings of channel `n` as in effect; a channel without a local source takes the plan of CS-A. -/
def Dev.delayCfg (d : Dev) (n : Nat) : DelayCfg :=
  { profile := d.profile, k := d.fld (pCh n) R.CH_DEF_RATE_K, resamp := d.flag (pCh n) R.CH_DEF_RESAMP,
    step := d.fld (pCh n) R.CH_RS_STEP_STEP, altRx := d.altPlan 0, altTx := d.altPlan 8,
    extra := d.fld (pCh n) R.CH_DLY_CTL_EXTRA,
    padded := d.flag (pCh n) R.CH_DEF_SRC_LOCAL && d.fld (pCh n) R.CH_DEF_HAUL_FWD == 0 && d.fld (pCh n) R.CH_DEF_OUT_MASK != 0 }

/-- Set CH_DLY_PAD and, for a channel relayed within the device, CH_DLY in 1/32 tick rounded half to even; with M even and a
bypass active the delay is half a channel sample shorter (R78, R96). -/
def Dev.setDelay (d : Dev) (n : Nat) : Dev :=
  let c := d.delayCfg n
  let short := d.lineM n % 2 == 0 && d.bankTaps n (d.fld (pCh n) R.CH_FIR_STAT_ACTIVE) == 0
  let t := c.total - (if short then c.tch / 2 else 0)
  let u := tickUnits / 32
  let q := t / u
  let q := if 2 * (t % u) < u then q else if u < 2 * (t % u) then q + 1 else q + q % 2
  let d := d.setFld (pCh n) R.CH_DLY_PAD_PAD c.pad
  if d.flag (pCh n) R.CH_DEF_SRC_LOCAL && d.fld (pCh n) R.CH_DEF_OUT_MASK != 0 then d.setFld (pCh n) R.CH_DLY_DELAY q else d

/-- A change of P without a restart: samples skipped or repeated are counted as spoil (R98). -/
def Dev.movePad (d : Dev) (n old : Nat) : Dev :=
  let new := d.fld (pCh n) R.CH_DLY_PAD_PAD
  if old = new then d
  else (List.range (d.chRank n)).foldl (fun d j =>
    let t := d.txChain n j
    let pad := if old < new then List.replicate (new - old) spoilWord ++ t.pad else t.pad.drop (old - new)
    (d.setTx n j { t with pad := pad }).addSpoil n (if old < new then new - old else old - new)) d

/-! ### The transmit chain -/

/-- A word enters transmit chain `j` of channel `n` from the gain stage: the first F words after a restart become spoil,
those still good being counted (R92). -/
def Dev.txPush (d : Dev) (n j : Nat) (w : SampleWord) : Dev :=
  let t := d.txChain n j
  let d := d.perf (4 * n) 1
  if t.fillLeft ≠ 0 then
    let d := d.setTx n j { t with fillLeft := t.fillLeft - 1, pad := t.pad ++ [spoilWord] }
    if w.spoil then d else d.addSpoil n 1
  else d.setTx n j { t with pad := t.pad ++ [w] }

/-- Take the next word out of the pad of length `p`; a zero word while it fills. -/
def TxChain.pull (t : TxChain) (p : Nat) : TxChain × SampleWord :=
  match t.pad with
  | [] => (t, .init)
  | w :: r => if p < t.pad.length then ({ t with pad := r }, w) else (t, .init)

/-- What a transmit chain needs to know of its channel. -/
structure TxCfg where
  k : Nat
  variant : Nat
  pad : Nat
  resamp : Bool
  num : Nat
  den : Nat
  ftw : Int
  pofs : Nat

/-- The position the transmit resampler reads at output `j` (R88): input index and phase. -/
def txPos (num den j : Nat) : Nat × Nat :=
  let a := j * num
  let i := a / den
  let r := a % den
  let f := r * 1024 / den
  let x := r * 1024 - f * den
  let f := if den < 2 * x ∨ (2 * x = den ∧ f % 2 = 1) then f + 1 else f
  if f = 1024 then (i + 1, 0) else (i, f)

/-- A transmit chain restarts at DAC sample `n` (R92). -/
def TxChain.begin (t : TxChain) (f : TxCfg) (n : Nat) : TxChain :=
  { t with ftw := f.ftw, pofs := f.pofs, acc := accAt f.pofs f.ftw n, restart := false, retune := none,
           fillLeft := fillLength f.variant, rsIn := [], rsIdx := (txPos f.num f.den (n / gridStep f.k)).1 + 7,
           hbs := List.replicate (9 - f.k) [], dec := [] }

/-- Pull words until the resampler's newest input is `need`; one output advances at most two inputs. -/
def TxChain.pullTo (t : TxChain) (p need : Nat) : Nat → TxChain
  | 0 => t
  | fuel + 1 =>
    if t.rsIdx < need then
      let w := t.pull p
      let z : Int × Int := if w.2.spoil then (0, 0) else (w.2.i.toInt, w.2.q.toInt)
      TxChain.pullTo { w.1 with rsIn := (z :: w.1.rsIn).take 16, rsIdx := t.rsIdx + 1 } p need fuel
    else t

/-- The half-band input at half-band index `j`: the next word, or a resampler output (R88), as 18 bits, with clamps. -/
def TxChain.source (t : TxChain) (f : TxCfg) (j : Nat) : TxChain × (Int × Int) × Nat :=
  if f.resamp then
    let p := txPos f.num f.den j
    let t := t.pullTo f.pad (p.1 + 8) 4
    let y := reducePair 14 18 (dot (fun i => Config.rsRom p.2 (15 - i)) 0 t.rsIn)
    (t, y.1, y.2)
  else
    let w := t.pull f.pad
    (w.1, if w.2.spoil then (0, 0) else (w.2.i.toInt * 4, w.2.q.toInt * 4), 0)

/-- Interpolate by `r`: the output at phase `e` from a history, newest first, of a stage with coefficients `h` (R89). -/
def interp (h : Nat → Int) (r e : Nat) (hist : Hist) : (Int × Int) × Nat :=
  let s := dot (fun i => h (r * i + e)) 0 hist
  reducePair 17 18 ((r : Int) * s.1, (r : Int) * s.2)

/-- Push one input of index `i` up the interpolating half-bands from stage `s` down to 1: the samples at the rate of stage 1's
output are formed on demand, so a stage keeps its own history (R89). The list holds stage 1 first. -/
def upRun (taps : Nat → Nat) (src : TxChain → Nat → TxChain × (Int × Int) × Nat) :
    Nat → Nat → TxChain → List Hist → Nat → TxChain × List Hist × (Int × Int) × Nat
  | 0, _, t, hs, i => let x := src t i; (x.1, hs, x.2.1, x.2.2)
  | _ + 1, _, t, [], i => let x := src t i; (x.1, [], x.2.1, x.2.2)
  | fuel + 1, s, t, h :: rest, i =>
    if i % 2 = 0 then
      let u := upRun taps src fuel (s + 1) t rest (i / 2)
      let h' := (u.2.2.1 :: h).take ((taps s + 1) / 2)
      let y := interp (hbCoef (taps s)) 2 0 h'
      (u.1, h' :: u.2.1, y.1, y.2 + u.2.2.2)
    else
      let y := interp (hbCoef (taps s)) 2 1 h
      (t, h :: rest, y.1, y.2)

/-- One DAC sample of index `n` of a transmit chain (R89, R90): the upmixed 18-bit real value, and clamps. -/
def TxChain.sample (t : TxChain) (f : TxCfg) (n : Nat) : TxChain × Int × Nat :=
  let t :=
    if n % gridStep f.k = 0 then
      if t.restart then t.begin f n
      else match t.retune with
        | none => t
        | some r =>
          let acc := if r.ftw ≠ t.ftw ∧ r.coherent = true then accAt r.pofs r.ftw n
                     else twos 48 ((t.acc : Int) + ((r.pofs : Int) - t.pofs) * 65536)
          { t with ftw := r.ftw, pofs := r.pofs, acc := acc, retune := none }
    else t
  let u : TxChain × Nat :=
    if n % 4 = 0 then
      let r := upRun (hbTaps f.variant (9 - f.k)) (fun t j => t.source f j) 10 1 t t.hbs (n / 4)
      ({ r.1 with hbs := r.2.1, dec := (r.2.2.1 :: r.1.dec).take 8 }, r.2.2.2)
    else (t, 0)
  let y := interp dec4Coef 4 (n % 4) u.1.dec
  let ph := u.1.acc / 2 ^ 28
  let v := y.1.1 * Config.cosRom ph - y.1.2 * Config.sinRom ph
  ({ u.1 with acc := twos 48 ((u.1.acc : Int) + u.1.ftw) }, reduceTo 17 18 v, u.2 + y.2 + (clamped 17 18 v).toNat)

end Sys2Proof.Machine
end

