-- ==== Sys2Proof/Machine/SieveTick.lean ====
section
/-! DEFINITION. One CK_FRAME cycle of the Sieve: receive chains take their converter's samples and deliver words (R51 to
R70, R76 to R87); transmit chains and port sums form the DAC samples (R88 to R92). -/

namespace Sys2Proof.Machine

/-! ### Receive -/

/-- What receive chain `j` of channel `n` runs under. -/
def Dev.rxCfg (d : Dev) (n j : Nat) : RxCfg :=
  { k := d.fld (pCh n) R.CH_DEF_RATE_K, shift := d.fld (pCh n) R.CH_SV_CTL_OUT_SHIFT, variant := variantOf d.profile,
    ftw := d.ftwRx n, pofs := d.fld (pCh n) (R.CH_NCO_POFS_POFS j), resamp := d.flag (pCh n) R.CH_DEF_RESAMP,
    step := d.fld (pCh n) R.CH_RS_STEP_STEP }

/-- What the samples of one cycle made of a chain: the chain, the device with its counts, and the words it delivered. -/
structure RxOut where
  dev : Dev
  chain : RxChain
  words : List SampleWord
  grid : Bool

/-- A word leaves the decimation chain and passes FIR and resampler (R76). A spoil word is counted by the stage in which it
arises: the chain's fill, the FIR when the word its output stands for was good, the resampler likewise (R18, R65, R80). -/
def RxOut.word (o : RxOut) (n : Nat) (f : RxCfg) (w : SampleWord) (clamps : Nat) : RxOut :=
  let d := o.dev
  let m := d.lineM n
  let d := if w.spoil then d.addSpoil n 1 else d
  let line := (w :: o.chain.fir).take m
  let y := d.firOut n line
  let d := if y.1.spoil && !(line.getD ((m - 1) / 2) .init).spoil then d.addSpoil n 1 else d
  let d := d.addSat n (clamps + y.2)
  let c := { o.chain with fir := line, rsIdx := o.chain.rsIdx + 1 }
  if f.resamp then
    let c := { c with rsIn := (y.1 :: c.rsIn).take 32 }
    let back := c.rsIdx
    let r := { c with rsIdx := back - 1 }.resample f.step 2
    let good := !(c.rsIn.getD 8 .init).spoil
    let d := r.2.foldl (fun d x => (if x.1.spoil && good then d.addSpoil n 1 else d).addSat n x.2) d
    { dev := d, chain := { r.1 with rsIdx := back }, words := o.words ++ r.2.map (·.1), grid := true }
  else { dev := d, chain := c, words := o.words ++ [y.1], grid := true }

/-- The samples of one cycle, of converter indices from `i` on, through receive chain `j` of channel `n`. -/
def RxOut.run (n : Nat) (f : RxCfg) : RxOut → Nat → List (BitVec 12) → RxOut
  | o, _, [] => o
  | o, i, x :: xs =>
    let r := o.chain.sample f i x.toInt
    let o := { o with chain := r.1, dev := o.dev.addSat n r.2.2 }
    let o := match r.2.1 with
      | none => o
      | some z =>
        let l := o.chain.leave f z
        RxOut.word { o with chain := l.1 } n f l.2.1 l.2.2
    RxOut.run n f o (i + 1) xs

/-- Receive chain `j` of channel `n` for one cycle: the device and the words delivered. -/
def Dev.rxOne (d : Dev) (n j : Nat) (adc : AdcIn) : Dev × List SampleWord × Bool :=
  let cv := d.convSt (d.rxConv n j)
  if cv.runs && cv.ref then
    let was := (d.rxChain n j).restart
    let o := RxOut.run n (d.rxCfg n j) { dev := d, chain := d.rxChain n j, words := [], grid := false } cv.count
      (adc.getD (d.rxConv n j) [])
    let d := o.dev.setRx n j o.chain
    let d := if was && !o.chain.restart then d.setFld (pCh n) R.CH_SV_STAT_COARSE_VALID 0 else d
    (d, o.words, o.grid)
  else (d, [], false)

/-- FILL of channel `n` (R65). When it returns to 0 a fade that waited for it begins (R84). -/
def Dev.setFill (d : Dev) (n : Nat) : Dev :=
  let fill := (List.range (d.chRank n)).any fun j => (d.rxChain n j).fillLeft != 0
  let was := d.flag (pCh n) R.CH_SV_STAT_FILL
  let d := d.setFlag (pCh n) R.CH_SV_STAT_FILL fill
  if was && !fill && d.flag (pCh n) R.CH_FIR_STAT_QUEUED && !d.flag (pCh n) R.CH_FIR_STAT_FADING then
    let d := d.setFld (pCh n) R.CH_FIR_STAT_QUEUED 0
    if d.fld (pCh n) R.CH_FIR_STAT_QBANK = d.fld (pCh n) R.CH_FIR_STAT_ACTIVE then d
    else d.fadeStart n (d.fld (pCh n) R.CH_FIR_STAT_QK)
  else d

/-- Every receive chain of channel `n` for one cycle: the device, and the words by stream. A running fade advances by one
sample, holding at its length until it ends (R81). -/
def Dev.rxChannel (d : Dev) (n : Nat) (adc : AdcIn) : Dev × List (Nat × Nat × SampleWord) :=
  let r := (List.range (d.chRank n)).foldl (fun (a : Dev × List (Nat × Nat × SampleWord) × Bool) j =>
    let o := a.1.rxOne n j adc
    (o.1, a.2.1 ++ o.2.1.map (fun w => (n, j, w)), a.2.2 || o.2.2)) (d, [], false)
  let d := r.1
  let d :=
    if r.2.2 && d.flag (pCh n) R.CH_FIR_STAT_FADING then
      let s := d.sieveCh n
      d.setSieve n { s with fadeN := min (s.fadeN + 1) (2 ^ s.fadeK) }
    else d
  (d.setFill n, r.2.1)

/-- One cycle of every receive chain, and the words delivered: channel, stream and word. -/
def Dev.rxTick (d : Dev) (adc : AdcIn) : Dev × List (Nat × Nat × SampleWord) :=
  (d.channels.filter fun n => d.flag (pCh n) R.CH_DEF_SRC_LOCAL).foldl (fun a n =>
    let o := a.1.rxChannel n adc
    (o.1, a.2 ++ o.2)) (d, [])

/-- The spoil words still to come of the fills of channel `n` leave, and the fills end (R65). -/
def Dev.fillOut (d : Dev) (n : Nat) : Dev :=
  ((List.range (d.chRank n)).foldl (fun d j =>
    let c := d.rxChain n j
    (d.setRx n j { c with fillLeft := 0 }).addSpoil n c.fillLeft) d).setFill n

/-! ### Transmit -/

/-- Units of SHIFT at the port sum and the DAC word (R91): 12 bits and SHIFT more drop in one convergent rounding (log entry
13), clamped to 14 bits. -/
def dacWord (shift : Nat) (sum : Int) : Int × Bool := (reduceTo (12 + shift) 14 sum, clamped (12 + shift) 14 sum)

/-- What transmit chain `j` of channel `n` runs under. The receive plan is that of its ADC, or of CS-A without a local
source (R88). -/
def Dev.txCfg (d : Dev) (n j : Nat) : TxCfg :=
  let altRx := if d.flag (pCh n) R.CH_DEF_SRC_LOCAL then d.altPlan (d.rxConv n j) else d.altPlan 0
  let altTx := d.altPlan (d.txConv n j)
  let ab : Nat × Nat := if altRx = altTx then (1, 1) else if altRx then (15, 16) else (16, 15)
  { k := d.fld (pCh n) R.CH_DEF_RATE_K, variant := variantOf d.profile, pad := d.fld (pCh n) R.CH_DLY_PAD_PAD,
    resamp := d.flag (pCh n) R.CH_DEF_RESAMP, num := ab.1 * 2 ^ 30, den := d.fld (pCh n) R.CH_RS_STEP_STEP * ab.2,
    ftw := d.ftwTx n, pofs := d.fld (pCh n) (R.CH_NCO_TX_POFS_POFS j) }

/-- `k` DAC samples of a transmit chain from index `i` on: the chain, its upmixed values in order, and clamps. -/
def TxChain.run (f : TxCfg) : Nat → TxChain → Nat → TxChain × List Int × Nat
  | 0, t, _ => (t, [], 0)
  | k + 1, t, i =>
    let s := t.sample f i
    let r := TxChain.run f k s.1 (i + 1)
    (r.1, s.2.1 :: r.2.1, s.2.2 + r.2.2)

/-- Sum two lists of samples, the shorter one filled with zeros. -/
def addLists : List Int → List Int → List Int
  | [], b => b
  | a, [] => a
  | x :: a, y :: b => (x + y) :: addLists a b

/-- A sample word of stream `j` of channel `n` passes a snapshot point: 0 Sieve output, 1 junction, 2 gain-stage output; every DMA
channel that captures it takes it (R349). -/
def Dev.snapPush (d : Dev) (n j point : Nat) (w : SampleWord) : Dev :=
  let takes (k : Nat) : Bool :=
    d.flag (pDma k) R.PG_CTL_EN && d.fld (pDma k) R.DMA_CTL_CLIENT == 2 && d.flag (pDma k) R.DMA_SNAP_RUN &&
      d.fld (pDma k) R.DMA_SNAP_CH == n && d.fld (pDma k) R.DMA_SNAP_J == j && d.fld (pDma k) R.DMA_SNAP_POINT == point
  { d with snapFeed := d.snapFeed ++ ((List.range 16).filter takes).map fun k => (k, w) }

/-- Is the transmit gate of DAC converter `c` (8 to 15) open? DAC0 to DAC3 are D-TX0 to D-TX3, DAC4 to DAC7 S-TX0 to S-TX3 (Table 01-1). -/
def Dev.gateOpen (d : Dev) (c : Nat) : Bool := d.front.gates.testBit (if c < 12 then c - 4 else c - 12)

/-- One cycle of DAC `c` (8 to 15): the sum of every stream that feeds it, shifted, rounded and clamped (R91); a closed gate
sends zero code. The squares of the port sums, before shift and rounding, gather for the port's power (R159). -/
def Dev.dacTick (d : Dev) (c : Nat) : Dev :=
  let cv := d.convSt c
  if cv.runs && cv.ref then
    let feeds := d.channels.flatMap fun n =>
      if d.usesTx n c then ((List.range (d.chRank n)).filter fun j => d.txConv n j == c).map fun j => (n, j) else []
    let r := feeds.foldl (fun (a : Dev × List Int) nj =>
      let t := TxChain.run (a.1.txCfg nj.1 nj.2) (a.1.convRate c) (a.1.txChain nj.1 nj.2) cv.count
      ((a.1.setTx nj.1 nj.2 t.1).addSat nj.1 t.2.2, addLists a.2 t.2.1)) (d, [])
    let shift := d.fld (pConv c) R.DAC_TX_CTL_SHIFT
    let sums := if r.2.isEmpty then List.replicate (d.convRate c) 0 else r.2
    let words := sums.map (dacWord shift)
    let d := r.1.bumpBy (pConv c) R.DAC_TX_CLIP_COUNT (words.filter (·.2)).length
    let d := d.perf (1200 + 4 * c + 3) (words.filter (·.2)).length
    let out := if d.gateOpen c then words.map (·.1) else words.map fun _ => 0
    let d := d.perf (1200 + 4 * c) (out.filter fun v => v.natAbs == 8191).length
    let acc := mat (0, 0) d.portSum c
    { d with dacOut := mput [] d.dacOut c out,
             portSum := mput (0, 0) d.portSum c
               (acc.1 + (sums.foldl (fun s v => s + v * v) 0).toNat, acc.2 + sums.length) }
  else { d with dacOut := mput [] d.dacOut c [] }

/-- One cycle of every DAC. -/
def Dev.dacTicks (d : Dev) : Dev := ((List.range 8).map (· + 8)).foldl Dev.dacTick d

/-- Every converter that runs has delivered or taken the samples of one cycle (R56); ADC samples at a full-scale code are
counted (Table 18-3). -/
def Dev.convTicks (d : Dev) (adc : AdcIn) : Dev :=
  (List.range 16).foldl (fun d c =>
    let cv := d.convSt c
    if cv.runs then
      let full := if c < 8 then ((adc.getD c []).filter fun x => x.toInt == 2047 || x.toInt == -2048).length else 0
      (d.setConv c { cv with count := cv.count + d.convRate c }).perf (1200 + 4 * c) full
    else d) d

/-! ### Profiles (R7, R26, R27) -/

/-- The active bank of channel `n` meets the line of the profile now in force (R26): usable, or kept under the line `oldM` with
CODE 23 and the configuration-error event. -/
def Dev.fitBank (d : Dev) (n oldM : Nat) : Dev :=
  let m := lineLength d.profile (d.fld (pCh n) R.CH_DEF_RATE_K)
  let act := d.fld (pCh n) R.CH_FIR_STAT_ACTIVE
  if bankFault (d.bankTaps n act) m = 0 then
    if (d.sieveCh n).unfitM.isSome then
      ((d.setSieve n { d.sieveCh n with unfitM := none }).setFld (pCh n) R.CH_DEF_ERR_CODE 0).stir (pCh n)
    else d
  else
    (((d.setSieve n { d.sieveCh n with unfitM := some oldM }).setFld (pCh n) R.CH_DEF_ERR_CODE 23).raiseEvt
      (pCh n) 0).stir (pCh n)

/-- Does the thermal ladder, or the band of the energy-budget loop, call for BUDGET (R277, R161)? -/
def Dev.forceWanted (d : Dev) : Bool × Bool :=
  (d.fld pTherm R.THERM_STAT_STEP != 0,
   d.flag pDev R.DEV_EB_SRC_EN && d.flag pDev (R.DEV_EB_ALLOW_FORCE_BUDGET (d.fld pDev R.DEV_EB_STAT_BAND)))

/-- Does BUDGET take effect in converters, span cap and output limit (R27)? -/
def Dev.inBudget (d : Dev) : Bool := d.fld pDev R.DEV_PROFILE_EFF == 1

/-- At a frame boundary the requested profile takes effect, or BUDGET while it is forced; the requested profile's filters are
used either way (R7, R26, R27). Channels whose half-band variant changes restart, and every pad is chosen anew (R94). -/
def Dev.profileTake (d : Dev) : Dev :=
  let req := d.fld pDev R.DEV_PROFILE_REQ
  let want := d.forceWanted
  let d := d.setFlag pDev R.DEV_PROFILE_FORCED_THERM want.1
  let d := d.setFlag pDev R.DEV_PROFILE_FORCED_ENERGY want.2
  let d := d.setFld pDev R.DEV_PROFILE_EFF (if want.1 || want.2 then 1 else req)
  if d.profile = req then d
  else
  let lines := d.channels.map fun n => (n, d.lineM n)
  let vary := variantOf d.profile != variantOf req
  let d := { d with profile := req }
  lines.foldl (fun d nm =>
    let n := nm.1
    let d := if d.flag (pCh n) R.CH_DEF_SRC_LOCAL then d.fitBank n nm.2 else d
    let d := d.setDelay n
    if vary then
      let d := if d.flag (pCh n) R.CH_DEF_SRC_LOCAL then d.restartRx n else d
      if d.fld (pCh n) R.CH_DEF_OUT_MASK = 0 then d else d.restartTx n
    else d) d

/-- A channel's pad is chosen anew without a restart; the words it skips or repeats are spoil (R94, R98). -/
def Dev.repad (d : Dev) (n : Nat) : Dev :=
  let old := d.fld (pCh n) R.CH_DLY_PAD_PAD
  (d.setDelay n).movePad n old

/-- The M buffer of converter `c` slips (R22). -/
def Dev.slip (d : Dev) (c : Nat) : Dev := (d.bump (pConv c) R.SV_SLIP_SLIP).restartConvs [c]

end Sys2Proof.Machine
end

