-- ==== Sys2Proof/Machine/FrontOps.lean ====
section
/-! DEFINITION. The front end (R222 to R244): path groups and their steps, entry sequences, RFFE masters, GPIOs, transmit
gates and converter sleep. -/

namespace Sys2Proof.Machine

/-! ### Path groups -/

/-- The machine of path group `g`. -/
def Dev.grp (d : Dev) (g : Nat) : GroupSt := mat .init d.front.groups g

/-- Change the machine of path group `g`. -/
def Dev.setGrp (d : Dev) (g : Nat) (s : GroupSt) : Dev :=
  { d with front := { d.front with groups := mput .init d.front.groups g s } }

/-- EFF of group `g` (R222). -/
def Dev.grpEff (d : Dev) (g : Nat) : Nat := d.fld pFe (R.FE_PG_STAT_EFF g)

/-- REQ of group `g` as last applied. -/
def Dev.grpReq (d : Dev) (g : Nat) : Nat := d.fld pFe (R.FE_PG_STAT_REQ g)

/-- Show the state in effect of group `g`. -/
def Dev.showEff (d : Dev) (g : Nat) : Dev :=
  let s := d.grp g
  (d.setFld pFe (R.FE_PG_STAT_EFF g) (if s.prot ≠ 0 then s.prot else s.pos)).stir pFe

/-- The highest state a device power state allows for a request (R25, R226): HOLD ranks as LISTEN, CAL as WARM. -/
def capState (power req : Nat) : Nat :=
  match power with
  | 0 => 0
  | 1 => min req 1
  | 2 => if req = 6 then 6 else min req 2
  | _ => req

/-- The next adjacent state on the way from `pos` to `t` (R225). -/
def nextState (pos t : Nat) : Option Nat :=
  if pos = t then none
  else if pos = 6 then some 2
  else if pos = 5 then some (if t = 4 then 4 else 3)
  else if t = 6 then some (if pos = 2 then 6 else if pos < 2 then pos + 1 else pos - 1)
  else if t = 5 then some (if 3 ≤ pos then 5 else pos + 1)
  else some (if pos < t then pos + 1 else pos - 1)

/-- The rank of a state on the ladder beneath protection (R225, R226): HOLD as LISTEN, CAL as WARM. -/
def rankState (s : Nat) : Nat := if s = 5 then 3 else if s = 6 then 2 else s

/-- The state group `g` moves to: REQ within the power limit (R25); beneath a protective state only the power limit moves
it, and only down (R228). -/
def Dev.grpGoal (d : Dev) (g : Nat) : Nat :=
  let p := d.fld pDev R.DEV_PWR_EFF
  if (d.grp g).prot ≠ 0 then capState p (d.grp g).pos else capState p (d.grpReq g)

/-- The synthesiser that governs group `g` (R229). -/
def synOf (g : Nat) : Nat := if g = 0 ∨ g = 2 then 0 else 1

/-- Is the governing synthesiser of group `g` locked and not calibrating (R229)? -/
def Dev.grpLocked (d : Dev) (g : Nat) : Bool :=
  d.flag (pSyn (synOf g)) R.SYN_STAT_LOCK && !d.flag (pSyn (synOf g)) R.SYN_STAT_CAL_BUSY

/-- Is a step of group `g` out of CAL held by a run that names one of its converters (R227)? -/
def Dev.calHolds (d : Dev) (g : Nat) : Bool :=
  let st := d.fld pCal R.CAL_STAT_STATE
  decide (1 ≤ st ∧ st ≤ 3) && (groupConvs g).any fun c => d.cal.mask.testBit c

/-! ### Transmit gates (R232, R242, R47) -/

/-- The gate bits of transmit group 1 (S-TX) or 3 (D-TX); receive groups have none. -/
def groupGates (g : Nat) : Nat := if g = 1 then 0x0F else if g = 3 then 0xF0 else 0

/-- The receive group whose burst ends with that of transmit group `g` (R232). -/
def pairedRx (g : Nat) : Nat := if g = 1 then 0 else 2

/-- The burst of group `g` ends: the return is due where one is set (R232). -/
def Dev.burstEnd (d : Dev) (g : Nat) (protective : Bool) : Dev :=
  let s := d.grp g
  if s.burst then
    d.setGrp g { s with burst := false, retDue := !protective && d.fld pFe (R.FE_PG_CTL_RET g) != 0 }
  else d

/-- A gate of a group opens again or a burst begins: a return still due is skipped and counted (R233). -/
def Dev.burstBegin (d : Dev) (g : Nat) : Dev :=
  let s := d.grp g
  let d := if s.retDue then d.bump pFe (R.FE_PG_CNT_RET_SKIP g) else d
  d.setGrp g { s with burst := true, retDue := false }

/-- Close the gates of a mask (bits of S-TX 0 to 3, D-TX 4 to 7); a group whose last open gate closes ends its burst. -/
def Dev.closeGates (d : Dev) (mask : Nat) (protective : Bool) : Dev :=
  let old := d.front.gates
  let now := old - (old &&& mask)
  let d := { d with front := { d.front with gates := now } }
  [1, 3].foldl (fun d g =>
    if old &&& groupGates g ≠ 0 ∧ now &&& groupGates g = 0 then (d.burstEnd g protective).burstEnd (pairedRx g) protective
    else d) d

/-- Open the gates of a mask. -/
def Dev.openGates (d : Dev) (mask : Nat) : Dev :=
  let old := d.front.gates
  let d := { d with front := { d.front with gates := old ||| mask } }
  [1, 3].foldl (fun d g =>
    if mask &&& groupGates g ≠ 0 then
      let d := if old &&& groupGates g = 0 then (d.burstBegin g).burstBegin (pairedRx g) else d
      d
    else d) d

/-! ### GPIO (R241) -/

/-- The state of GPIO `n`. -/
def Dev.gpio (d : Dev) (n : Nat) : GpioSt := mat .init d.front.gpio n

/-- Drive an FE-mode GPIO to a level or to high impedance; any other mode counts REJ (R241). -/
def Dev.gpioDrive (d : Dev) (n : Nat) (level highz : Bool) : Dev :=
  if d.fld pFe (R.FE_GPIO_MODE_MODE n) = 1 then
    { d with front := { d.front with
      gpio := mput .init d.front.gpio n { d.gpio n with drive := if highz then none else some level } } }
  else d.bump pFe R.FE_GPIO_CNT_REJ

/-- The level at GPIO `n`: what it drives, or what is met at the pin (R241, R242). The boundary register drives it under the
TEST strap. -/
def Dev.gpioLevel (d : Dev) (n : Nat) : Bool :=
  match d.fld pFe (R.FE_GPIO_MODE_MODE n) with
  | 1 => (d.gpio n).drive.getD (d.gpio n).ext
  | 2 => (if n < 32 then d.fld pFe R.FE_GPIO_OUT0_OUT else d.fld pFe R.FE_GPIO_OUT1_OUT).testBit (n % 32)
  | 4 => d.front.gates.testBit (d.fld pFe (R.FE_GPIO_MODE_PORT n) % 8) != d.flag pFe (R.FE_GPIO_MODE_POL n)
  | _ => (d.gpio n).ext

/-! ### RFFE masters (R237 to R239) -/

/-- RFFE master `m`. -/
def Dev.rffe (d : Dev) (m : Nat) : RffeSt := mat .init d.front.rffe m

/-- Change RFFE master `m` and show its queue depth. -/
def Dev.setRffe (d : Dev) (m : Nat) (s : RffeSt) : Dev :=
  { d with front := { d.front with rffe := mput .init d.front.rffe m s } }.setFld pFe (R.FE_RFFE_STAT_QDEPTH m) s.queue.length

/-- A timed write reaches master `m`: dropped and counted when the queue is full, delayed and counted behind another command
(R238). -/
def Dev.rffePush (d : Dev) (m : Nat) (w : RffeWrite) : Dev :=
  let s := d.rffe m
  if 32 ≤ s.queue.length then (d.bump pFe (R.FE_RFFE_CNT_DROP m)).raiseEvt pFe (8 + m)
  else
    let d := if s.run.isSome || s.hostRun || !s.queue.isEmpty then d.bump pFe (R.FE_RFFE_CNT_QDELAY m) else d
    d.setRffe m { s with queue := s.queue ++ [w] }

/-- Would a timed write be dropped by master `m` now? -/
def Dev.rffeFull (d : Dev) (m : Nat) : Bool := decide (32 ≤ (d.rffe m).queue.length)

/-- Write bytes to a slave's registers, the lowest byte first. -/
def RffeSt.slaveWrite (s : RffeSt) (usid addr data : Nat) (n : Nat) : RffeSt :=
  { s with slave := (List.range n).foldl (fun m i => mput 0 m (usid * 65536 + (addr + i) % 65536) (data / 256 ^ i % 256)) s.slave }

/-! ### Entry sequences (R234 to R236) -/

/-- Step `i` of the sequence of group `g` for state `s`, 64 bits. -/
def Dev.seqStep (d : Dev) (g s i : Nat) : Nat := d.pair pFe (R.FE_SEQ_LO_STEP g s i) (R.FE_SEQ_HI_STEP g s i)

/-- Bits [hi:lo] of an entry. -/
def bitsOf (v hi lo : Nat) : Nat := v / 2 ^ lo % 2 ^ (hi + 1 - lo)

/-- Group `g` completes its step: EFF, BUSY, the converters it powers, and the transition once REQ is reached (R225, R427,
Table 10-2). -/
def Dev.stepFinish (d : Dev) (g : Nat) : Dev :=
  let s := d.grp g
  match s.stepTo with
  | none => d
  | some t =>
    let d := d.setGrp g { s with stepTo := none, hwDone := false, seqDone := false, pos := t }
    let d := ((d.setFld pFe (R.FE_PG_STAT_BUSY g) 0).setFld pFe (R.FE_PG_STAT_NEXT g) 0).showEff g
    let d :=
      if s.pos = 1 ∧ t = 2 then (groupConvs g).foldl Dev.convReturn d
      else if s.pos = 2 ∧ t = 6 then
        (groupConvs g).foldl (fun d c => if (d.convSt c).asleep then d.convReturn c else d) d
      else if t ≤ 1 then (groupConvs g).foldl Dev.convDown d
      else d
    if t = d.grpGoal g then
      (d.setFld pFe (R.FE_PG_TIME_TICKS g) (min (d.frame.clk - s.stepClk) (2 ^ 20 - 1))).raiseEvt pFe g
    else d

/-- Complete the step of group `g` when both its parts are done (R225). -/
def Dev.stepTry (d : Dev) (g : Nat) : Dev :=
  if (d.grp g).hwDone && (d.grp g).seqDone then d.stepFinish g else d

/-- The sequence of group `g` has ended. -/
def Dev.seqEnd (d : Dev) (g : Nat) : Dev := (d.setGrp g { d.grp g with seqRun := none, seqDone := true }).stepTry g

/-- Run the steps of group `g`'s sequence from step `i` of state `s` until one takes time (R234). A write that finds its
queue full is dropped and its step is over (log entry 20). -/
def Dev.seqExec (d : Dev) (g s : Nat) : Nat → Nat → Dev
  | 0, _ => d.seqEnd g
  | fuel + 1, i =>
    let e := d.seqStep g s i
    if 8 ≤ i then d.seqEnd g
    else
      let d := d.setGrp g { d.grp g with seqRun := some (s, i) }
      match bitsOf e 63 60 with
      | 1 =>
        let m := bitsOf e 57 56
        let w : RffeWrite := { usid := bitsOf e 55 52, addr := bitsOf e 47 32, data := bitsOf e 31 24, long := bitsOf e 51 51 == 1,
                               src := 1, grp := g, idx := 8 * s + i, undo := false }
        if d.rffeFull m then (d.rffePush m w).seqExec g s fuel (i + 1) else d.rffePush m w
      | 2 => d.gpioDrive (bitsOf e 37 32) (bitsOf e 0 0 == 1) (bitsOf e 1 1 == 1)
      | 3 => (d.biasStrobe (bitsOf e 1 0) 0).seqExec g s fuel (i + 1)
      | 4 => d
      | _ => d.seqEnd g

/-- Group `g` enters state `s`: a sequence still running is cut and counted, and the new one starts (R234, R236). Sequences do
not run while CK_REF is absent. -/
def Dev.seqStart (d : Dev) (g s : Nat) : Dev :=
  let d := if (d.grp g).seqRun.isSome then d.bump pFe (R.FE_PG_CNT_SEQ_CUT g) else d
  let d := d.setGrp g { d.grp g with seqRun := none, seqDone := false }
  if d.pins.refHold then d.setGrp g { d.grp g with seqDone := true } else d.seqExec g s 9 0

/-- The step of group `g`'s sequence that is under way completes and the next starts; `byBus` tells whether a command ended
on a bus, which alone completes an RFFE step (R234). -/
def Dev.seqAdvance (d : Dev) (g : Nat) (byBus : Bool) : Dev :=
  match (d.grp g).seqRun with
  | none => d
  | some (s, i) =>
    if (bitsOf (d.seqStep g s i) 63 60 == 1) == byBus then d.seqExec g s 9 (i + 1) else d

/-! ### Requests and steps -/

/-- A request is applied to group `g`: REQ shows it, AUTO clears unless it is the automatic return, and a return still due is
skipped and counted (R224, R232, R233). -/
def Dev.pathRequest (d : Dev) (g st : Nat) (auto : Bool) : Dev :=
  let s := d.grp g
  let d := if s.retDue && !auto then d.bump pFe (R.FE_PG_CNT_RET_SKIP g) else d
  let d := d.setGrp g { s with retDue := false, stepClk := if s.stepTo.isSome || s.pos != d.grpGoal g then s.stepClk else d.frame.clk }
  let d := d.setFld pFe (R.FE_PG_STAT_REQ g) st
  (d.setFlag pFe (R.FE_PG_STAT_AUTO g) auto).stir pFe

/-- Group `g` begins one adjacent step toward its goal, unless it is held (R225, R227, R229). Leaving RELAY closes the group's
gates (Table 10-2). -/
def Dev.stepStart (d : Dev) (g : Nat) : Dev :=
  let s := d.grp g
  if s.stepTo.isSome then d
  else match nextState s.pos (d.grpGoal g) with
    | none => d
    | some t =>
      if t = 4 ∧ d.grpLocked g = false then d.setFld pFe (R.FE_PG_STAT_LOCK_WAIT g) 1
      else if s.pos = 6 ∧ d.calHolds g = true then d
      else
        let d := d.setFld pFe (R.FE_PG_STAT_LOCK_WAIT g) 0
        let d := if s.pos = 4 then d.closeGates (groupGates g) false else d
        let d := d.setGrp g { d.grp g with stepTo := some t, hwDone := false }
        let d := (d.setFld pFe (R.FE_PG_STAT_BUSY g) 1).setFld pFe (R.FE_PG_STAT_NEXT g) t
        d.seqStart g t

/-- The hardware part of group `g`'s step is done (R225). -/
def Dev.stepHw (d : Dev) (g : Nat) : Dev :=
  if (d.grp g).stepTo.isSome then (d.setGrp g { d.grp g with hwDone := true }).stepTry g else d

/-- Group `g` enters MUTED_PROTECT (7) or FAULT (8) at once: a step in progress is abandoned at the lower of its two states,
and the group stands at that position, LISTEN at most (R228). Its gates close. -/
def Dev.pathProtect (d : Dev) (g st : Nat) : Dev :=
  let s := d.grp g
  if s.prot = st then d
  else
    let low := match s.stepTo with
      | some t => min (rankState s.pos) (rankState t)
      | none => rankState s.pos
    let d := d.setGrp g { s with stepTo := none, hwDone := false, prot := st, pos := min low 3, retDue := false, burst := false }
    let d := (d.setFld pFe (R.FE_PG_STAT_BUSY g) 0).setFld pFe (R.FE_PG_STAT_NEXT g) 0
    let d := d.setFld pFe (R.FE_PG_STAT_LOCK_WAIT g) 0
    let d := (d.closeGates (groupGates g) true).showEff g
    d.seqStart g st

/-- The protective state of group `g` ends: it stands at the position it held beneath (no state is entered, so no sequence runs; what
is left of the protective one is cut) and proceeds to REQ (R228, R234, R236; log entry 43). -/
def Dev.pathRelease (d : Dev) (g : Nat) : Dev :=
  let s := d.grp g
  if s.prot = 0 then d
  else
    let d := if s.seqRun.isSome then d.bump pFe (R.FE_PG_CNT_SEQ_CUT g) else d
    (d.setGrp g { s with prot := 0, seqRun := none, seqDone := true, stepClk := d.frame.clk }).showEff g

/-- The return of R232 falls due for group `g`: taken from RELAY only. -/
def Dev.pathReturn (d : Dev) (g : Nat) : Dev :=
  if (d.grp g).retDue then
    if d.grpEff g = 4 then d.pathRequest g (4 - d.fld pFe (R.FE_PG_CTL_RET g)) true
    else (d.setGrp g { d.grp g with retDue := false }).bump pFe (R.FE_PG_CNT_RET_SKIP g)
  else d

/-! ### Converter sleep and wake (R427) -/

/-- Put converter `c` to sleep or begin to wake it; nothing happens below WARM or when it is so already (R427). -/
def Dev.convWake (d : Dev) (c : Nat) (wake : Bool) : Dev :=
  let cv := d.convSt c
  if (d.grp (convGroup c)).pos < 2 ∨ cv.powered = false then d
  else if wake then (if cv.asleep then d.setConv c { cv with waking := true } else d)
  else if cv.asleep then (if cv.waking then d.setConv c { cv with waking := false } else d)
  else (d.setConv c { cv with asleep := true, waking := false, ref := false }).setAbsentAll

/-- Converter `c` has been woken: its M buffer delivers (R427). -/
def Dev.convWoken (d : Dev) (c : Nat) : Dev := if (d.convSt c).waking then d.convReturn c else d

/-! ### Beams (R240) -/

/-- A beam map entry is issued: an RFFE timed write or a GPIO drive (R240). -/
def Dev.beamIssue (d : Dev) (b : Nat) : Dev :=
  let e := d.pair pFe (R.FE_BEAM_LO_ENTRY b) (R.FE_BEAM_HI_ENTRY b)
  match bitsOf e 63 60 with
  | 1 =>
    let w : RffeWrite := { usid := bitsOf e 55 52, addr := bitsOf e 47 32, data := bitsOf e 31 24, long := bitsOf e 51 51 == 1,
                           src := 2, grp := 0, idx := 0, undo := false }
    d.rffePush (bitsOf e 57 56) w
  | 2 => d.gpioDrive (bitsOf e 37 32) (bitsOf e 0 0 == 1) (bitsOf e 1 1 == 1)
  | _ => d

/-! ### Host RFFE commands (R239) -/

/-- The host issues a command on master `m` through FE_RFFE_CMD: it waits, BUSY set. While one waits or runs a further GO
changes nothing (log entry 21). -/
def Dev.rffeHost (d : Dev) (m kind n usid addr data : Nat) : Dev :=
  if (d.rffe m).host.isSome then d
  else
    let d := (d.setFld pFe (R.FE_RFFE_CMD_KIND m) kind).setFld pFe (R.FE_RFFE_CMD_N m) n
    let d := (d.setFld pFe (R.FE_RFFE_CMD_USID m) usid).setFld pFe (R.FE_RFFE_CMD_ADDR m) addr
    let d := d.setFld pFe (R.FE_RFFE_DATA_DATA m) data
    (d.setRffe m { d.rffe m with host := some (kind, n + 1, usid, addr, data) }).setFld pFe (R.FE_RFFE_STAT_BUSY m) 1

/-- A pending host command starts, once no timed write waits or runs (R239). -/
def Dev.rffeHostStart (d : Dev) (m : Nat) : Dev :=
  let s := d.rffe m
  if s.host.isSome && s.queue.isEmpty && s.run.isNone && !s.hostRun then d.setRffe m { s with hostRun := true } else d

/-- The host command on the bus of master `m` ends (R239): a read returns its data, with PERR when its parity failed. -/
def Dev.rffeHostEnd (d : Dev) (m : Nat) (rd : Nat) (perr : Bool) : Dev :=
  let s := d.rffe m
  match s.host with
  | none => d
  | some (kind, n, usid, addr, data) =>
    let n := if kind = 0 ∨ kind = 3 then 1 else n
    let s1 : RffeSt := { s with host := none, hostRun := false }
    let s1 := if kind < 3 then s1.slaveWrite usid addr data n else s1
    let d := (d.setRffe m s1).setFld pFe (R.FE_RFFE_STAT_BUSY m) 0
    if kind < 3 then d
    else
      let d := d.setFld pFe (R.FE_RFFE_DATA_DATA m) (rd % 256 ^ n)
      if perr then d.setFld pFe (R.FE_RFFE_STAT_PERR m) 1 else d

end Sys2Proof.Machine
end

