-- ==== Sys2Proof/Machine/FrameOps.lean ====
section
/-! DEFINITION. The frame event table (R40 to R50): entries and their checks, the dispatcher, the slot map, gate confirmation,
cancellation and unwind, and steps of the counter. -/

namespace Sys2Proof.Machine

/-! ### Entries (R40, R41) -/

/-- A table entry as Table 02-7 lays it out. -/
def decodeEntry (w : BitVec 128) : Entry :=
  let v := w.toNat
  { valid := bitsOf v 127 127 == 1, every := bitsOf v 126 126 == 1, frame := bitsOf v 125 116, tick := bitsOf v 115 93,
    cls := bitsOf v 92 84, inst := bitsOf v 83 72, action := bitsOf v 71 64, govEn := bitsOf v 63 63 == 1,
    govGrp := bitsOf v 62 61, lead := bitsOf v 60 46, arg := bitsOf v 45 0 }

/-- May this action carry a lead (Table 02-9)? -/
def actionLeads (a : Nat) : Bool := decide (4 ≤ a ∧ a ≤ 9)

/-- May this action be governed (Table 02-9)? -/
def actionGoverns (a : Nat) : Bool := a == 2 || decide (4 ≤ a ∧ a ≤ 9)

/-- How many instances of a page type code there are (Table 01-16). -/
def pagesOfType (t : Nat) : Nat := match pageDefs.find? fun p => p.typ == t with
  | some p => p.count
  | none => 0

/-- Are CLASS and INST valid for an action (Table 02-9)? -/
def classValid (e : Entry) : Bool :=
  let c := e.cls
  let i := e.inst
  match e.action with
  | 0 => true
  | 1 => decide (c < 0x100 ∧ i < pagesOfType c)
  | 2 => c == 0x100 && (i == 1 || i == 3)
  | 3 => c == 0x100 && (i == 1 || i == 3)
  | 4 => c == 0x100 && decide (i < 4)
  | 5 => c == 0x101 && decide (i < 4)
  | 6 => c == 0x102 && decide (i < 48)
  | 7 => c == 0x103 && decide (i < 4)
  | 8 => c == 0x103 && decide (i < 4)
  | 9 => (c == 0x20 || c == 0x21) && decide (i < 8)
  | 10 => c == 0x31 && decide (i < 3)
  | 11 => c == 0x10 && decide (i < 192)
  | 12 => (c == 0x11 && decide (i < 96)) || (c == 0x12 && decide (i < 12))
  | 13 => c == 0x10 && decide (i < 192)
  | 14 => c == 0x10 && decide (i < 192)
  | 15 => c == 0x104 && i == 0
  | _ => c == 0x02 && i == 0

/-- The reason an entry is malformed, 0 when it is not; the lowest that holds (Table 02-8). -/
def Entry.malformed (e : Entry) : Nat :=
  if 16 < e.action then 1
  else if !classValid e then 2
  else if frameTicks ≤ e.tick then 3
  else if 19660 < e.lead ∨ (e.lead ≠ 0 ∧ actionLeads e.action = false) then 4
  else if e.action = 12 ∧ e.tick ≠ 0 then 5
  else if e.govEn && !actionGoverns e.action then 6
  else if e.action = 5 ∧ bitsOf e.arg 37 37 = 0 ∧ bitsOf e.arg 19 12 ≠ 0 then 7
  else 0

/-- Entry `n` of the table. -/
def Dev.entry (d : Dev) (n : Nat) : Entry := decodeEntry (mat 0 d.frame.events n)

/-! ### The slot map (R36 to R39) -/

/-- The slot code of a frame's spans at a tick; a frame without a map reads 0b11 (R36). -/
def spanCode (spans : List SlotSpan) (tick : Nat) : Nat :=
  match spans.find? fun s => decide (s.lo ≤ tick ∧ tick < s.hi) with
  | some s => s.code
  | none => 3

/-- Is a frame and tick at or after a mark? -/
def OnOffMark.reached (m : OnOffMark) (frame tick : Nat) : Bool :=
  decide (m.frame < frame) || (m.frame == frame && decide (m.tick ≤ tick))

/-- Are slots switched off by ONOFF at a counter time? The last mark reached decides (R36). -/
def Dev.offAt (d : Dev) (t : Nat) : Bool :=
  d.frame.onOff.foldl (fun off m => if m.reached (t / frameTicks) (t % frameTicks) then !m.on else off) d.frame.offNow

/-- The slot code in force at a counter time (R36, R37, R39). -/
def Dev.slotCode (d : Dev) (t : Nat) : Nat :=
  if !d.flag pFrame R.FRAME_CTL_SC_EN then 3
  else if d.frame.scLost || d.offAt t then 0
  else spanCode (mat [] d.frame.slots (t / frameTicks)) (t % frameTicks)

/-- Does the map allow the actions of group `g` at a counter time (R37)? -/
def Dev.slotAllows (d : Dev) (g t : Nat) : Bool :=
  if d.flag pFrame R.FRAME_CTL_SC_EN && d.flag pFrame (R.FRAME_CTL_SC_GOV.bit g) then
    match d.slotCode t with
    | 3 => true
    | 1 => decide (g < 2)
    | 2 => decide (2 ≤ g)
    | _ => false
  else true

/-- Is an action allowed where its target falls (R46)? -/
def Dev.actAllowed (d : Dev) (e : Entry) (target : Nat) : Bool := !e.govEn || d.slotAllows e.govGrp target

/-! ### Gate confirmation (R47) -/

/-- Does a direction mute or device RF off stand on transmit group `g` (R47)? -/
def Dev.grpMuted (d : Dev) (g : Nat) : Bool :=
  let p := pProt
  d.flag p R.PROT_DIR_RF_OFF || d.flag p R.PROT_DIR_RF_LATCH ||
    (if g < 2 then d.flag p R.PROT_DIR_DL_MUTED || d.flag p R.PROT_DIR_DL_LATCH
     else d.flag p R.PROT_DIR_UL_MUTED || d.flag p R.PROT_DIR_UL_LATCH)

/-- The timing mode R47 and TLOST use: with HAUL active, the master's mode when it is FREERUN, HOLDOVER or LOST (R303). -/
def Dev.timeMode (d : Dev) : Nat :=
  let root := d.fld (pHaul 0) R.HAUL_CASC_STAT_ROOT_MODE
  if d.fld pFrame R.FRAME_STAT_ACTIVE = 3 ∧ (root = 0 ∨ root = 3 ∨ root = 4) then root
  else d.fld pFrame R.FRAME_STAT_MODE

/-- Is the holdover estimate within budget: the device's own, or the master's (R47, R303)? -/
def Dev.holdOk (d : Dev) : Bool :=
  if d.fld pFrame R.FRAME_STAT_ACTIVE = 3 then d.flag (pHaul 0) R.HAUL_CASC_STAT_ROOT_HOLD_OK
  else decide (d.fld pFrame R.FRAME_HOLD_EST_EST ≤ d.fld pFrame R.FRAME_HOLD_BUDGET_BUDGET)

/-- Does the time base allow transmission (R47)? -/
def Dev.timeConfirms (d : Dev) : Bool :=
  (d.timeMode == 2 || (d.timeMode == 3 && d.holdOk) || d.flag pFrame R.FRAME_CTL_FREERUN_TX) &&
    !d.flag pFrame R.FRAME_STAT_STEP_GUARD

/-- A GATE_OPEN of transmit group `g` takes effect (R47, R230, R45): on confirmation the named gates open, but for those a
GATE_CLOSE closed in the same tick; else it is refused and counted. -/
def Dev.gateOpenAct (d : Dev) (g mask : Nat) (allowed : Bool) : Dev :=
  let bits := if g = 1 then mask % 16 else mask % 16 * 16
  let lock := d.flag pFe (R.FE_PG_STAT_LOCK_WAIT g) || !d.grpLocked g
  if d.timeConfirms && d.grpEff g == 4 && d.grpLocked g && allowed && !d.grpMuted g && !d.flag pPin R.PIN_STRAP_TEST then
    d.openGates (bits - (bits &&& d.frame.closedNow))
  else
    let d := d.bump pFrame R.FRAME_CNT_C_GATE_REFUSED
    if lock then (d.bump pFe (R.FE_PG_CNT_LOCK_SKIP g)).raiseEvt pFe (4 + g) else d

/-- A GATE_CLOSE of transmit group `g` takes effect; it holds against any GATE_OPEN of the same tick (R45). -/
def Dev.gateCloseAct (d : Dev) (g mask : Nat) : Dev :=
  let bits := if g = 1 then mask % 16 else mask % 16 * 16
  { d with frame := { d.frame with closedNow := d.frame.closedNow ||| bits } }.closeGates bits false

/-! ### Cancellation and unwind (R48, R49) -/

/-- Reverse an action that has become visible (Table 02-9). -/
def Dev.unwind (d : Dev) (a : Act) : Dev :=
  match a.ent.action with
  | 4 => d.pathRequest a.ent.inst a.prev false
  | 5 =>
    if bitsOf a.ent.arg 36 36 = 1 then
      let w : RffeWrite := { usid := bitsOf a.ent.arg 3 0, addr := bitsOf a.ent.arg 19 4, data := bitsOf a.ent.arg 35 28,
                             long := bitsOf a.ent.arg 37 37 == 1, src := 0, grp := 0, idx := a.idx, undo := true }
      d.rffePush a.ent.inst w
    else d
  | 6 =>
    let p := { d.gpio a.ent.inst with drive := if a.prev = 0 then none else some (a.prev == 2) }
    { d with front := { d.front with gpio := mput .init d.front.gpio a.ent.inst p } }
  | 7 => (d.biasUnwindLoad a.ent.inst (a.idx + 1)).1
  | 8 => (d.biasUnwindRamp a.ent.inst (a.idx + 1)).1
  | _ => d

/-- Withdraw an action that nobody has seen: a timed write leaves its queue, a converter returns to its power state. -/
def Dev.withdraw (d : Dev) (a : Act) : Dev :=
  match a.ent.action with
  | 5 =>
    let s := d.rffe a.ent.inst
    d.setRffe a.ent.inst { s with queue := s.queue.filter fun w => !(w.src == 0 && w.idx == a.idx && !w.undo) }
  | 9 => d.convWake ((if a.ent.cls = 0x20 then 0 else 8) + a.ent.inst) (a.prev == 1)
  | _ => d

/-- Cancel one pending action (R49). -/
def Dev.cancelAct (d : Dev) (a : Act) : Dev :=
  if a.unwinding then d
  else if a.visible then ((d.unwind a).bump pFrame R.FRAME_CNT_B_UNWIND).raiseEvt pFrame 7
  else (d.withdraw a).bump pFrame R.FRAME_CNT_B_CANCEL_SILENT

/-- Cancel the pending actions a test names (R48); a visible one stays listed while its unwind runs. -/
def Dev.cancelWhere (d : Dev) (p : Act → Bool) : Dev :=
  let hit := d.frame.pend.filter p
  let d := hit.foldl Dev.cancelAct d
  { d with frame := { d.frame with
    pend := d.frame.pend.filterMap fun a => if p a then (if a.visible then some { a with unwinding := true } else none) else some a } }

/-- Cancel every pending action: a step, or a FRAME page block reset (R48). -/
def Dev.cancelAll (d : Dev) : Dev := d.cancelWhere fun _ => true

/-- A protective state covers path group `g`: PATH_STATE requests above its position and every action it governs are cancelled
(R48). -/
def Dev.cancelGroup (d : Dev) (g : Nat) : Dev :=
  let pos := rankState (d.grp g).pos
  d.cancelWhere fun a =>
    (a.ent.action == 4 && a.ent.inst == g && decide (pos < rankState (bitsOf a.ent.arg 3 0))) ||
      (a.ent.govEn && a.ent.govGrp == g)

/-- The map has changed: pending governed actions it no longer allows are cancelled (R38, R48). -/
def Dev.cancelSlots (d : Dev) : Dev := d.cancelWhere fun a => !d.actAllowed a.ent a.target

/-! ### The dispatcher (R42, R43) -/

/-- The issue time of a queued action. -/
def Act.issue (a : Act) : Nat := a.target - a.ent.lead

/-- Place an action in the issue queue by issue time, then by table index. -/
def queueIn (a : Act) : List Act → List Act
  | [] => [a]
  | b :: r => if a.issue < b.issue ∨ (a.issue = b.issue ∧ a.idx < b.idx) then a :: b :: r else b :: queueIn a r

/-- The next target of an entry that is due and not yet handled, at most 20,480 ticks ahead; the frames that matter are the
present one and the next (R42). -/
def Dev.nextTarget (d : Dev) (n : Nat) (e : Entry) : Option Nat :=
  let f := d.now / frameTicks
  ((List.range 2).map fun i => (f + i) * frameTicks + e.tick).find? fun t =>
    (e.every || t / frameTicks % 1024 == e.frame) && decide (t ≤ d.now + 20480) && !d.frame.handled.contains (n, t)

/-- Note that entry `n` has been dealt with for a target; what lies two frames back is forgotten. -/
def Dev.setHandled (d : Dev) (n t : Nat) : Dev :=
  { d with frame := { d.frame with
    handled := (n, t) :: d.frame.handled.filter fun h => decide (d.now < h.2 + 2 * frameTicks) } }

/-- Count an entry that is not executed (R42). -/
def Dev.missed (d : Dev) : Dev := (d.bump pFrame R.FRAME_CNT_A_MISSED).raiseEvt pFrame 6

/-- The gates a GATE_CLOSE entry closes at once when reached after its target time (R42). -/
def Dev.closeNow (d : Dev) (e : Entry) : Dev :=
  if e.action = 3 then (d.gateCloseAct e.inst e.arg).perf (1328 + 3) 1 else d

/-- The dispatcher reaches entry `n` (R41 to R44): malformed, out of order, missed, or into the issue queue. A full queue
pauses reading. -/
def Dev.entryRead (d : Dev) (n : Nat) : Dev :=
  let e := d.entry n
  if !e.valid || decide (1024 ≤ d.frame.queue.length) then d
  else
    let why := e.malformed
    if why ≠ 0 then
      let d := (d.bump pFrame R.FRAME_CNT_C_BADENT).raiseEvt pFrame 8
      (d.setFld pFrame R.FRAME_EVT_LASTBAD_INDEX n).setFld pFrame R.FRAME_EVT_LASTBAD_REASON why
    else
      let prev := if n < d.frame.passNext then none else d.frame.passTick
      let disorder := match prev with
        | some t => decide (e.tick < t)
        | none => false
      let d := { d with frame := { d.frame with passNext := n + 1, passTick := some e.tick } }
      match d.nextTarget n e with
      | none => d
      | some t =>
        let d := if disorder then
            ((d.bump pFrame R.FRAME_CNT_E_ORDER).setFld pFrame R.FRAME_EVT_LASTORD_INDEX n).raiseEvt pFrame 10
          else d
        let d := d.setHandled n t
        if t < d.now then (d.missed).closeNow e
        else if (match d.frame.suppress with
            | some s => decide (t < s)
            | none => false) && e.action != 3 then d.missed
        else
          let a : Act := { idx := n, ent := e, target := t, issued := false, visible := false, unwinding := false, prev := 0 }
          { d with frame := { d.frame with queue := queueIn a d.frame.queue } }

/-! ### Steps (R30, R50) -/

/-- Does a counter time lie in [old, new), and is entry `n` due there and not handled? At most one is found for an entry
(R50). -/
def Dev.passedOver (d : Dev) (n : Nat) (e : Entry) (old new : Nat) : Bool :=
  if e.every then
    let t0 := old / frameTicks * frameTicks + e.tick
    let t1 := t0 + frameTicks
    (decide (old ≤ t0 ∧ t0 < new) && !d.frame.handled.contains (n, t0)) || decide (old ≤ t1 ∧ t1 < new)
  else
    let f := old / frameTicks
    let t := (f + (e.frame + 1024 - f % 1024) % 1024) * frameTicks + e.tick
    decide (old ≤ t ∧ t < new) && !d.frame.handled.contains (n, t)

/-- Put a whole counter time in the counter fields; the hyperframe count wraps (R29). -/
def Dev.setTime (d : Dev) (t : Nat) : Dev :=
  { d with frame := { d.frame with
    tick := t % frameTicks, frame := t / frameTicks % 1024, hyper := t / frameTicks / 1024 % 2 ^ 31 } }

/-- Ticks in the whole counter, after which the hyperframe count wraps (R29). -/
def counterTicks : Nat := 2 ^ 31 * 1024 * frameTicks

/-- The counter steps by `e` ticks (R30, R50, R426): gates close, STEP_GUARD sets, pending actions are cancelled, the queue is
emptied, entries passed over are counted, and a change of the frame number is one frame boundary. -/
def Dev.stepBy (d : Dev) (e : Int) : Dev :=
  if e = 0 then d
  else
    let old := d.now
    let new := ((old : Int) + e).toNat
    let under := decide ((old : Int) + e < 0)
    let newMod := (((old : Int) + e) % (counterTicks : Int)).toNat
    let d := ((d.bump pFrame R.FRAME_CNT_E_STEPS).raiseEvt pFrame 1).recCount 843 1
    let d := d.setFld pFrame R.FRAME_STAT_STEP_GUARD 1
    let d := (d.closeGates 0xFF false).cancelAll
    let waiting := d.frame.queue.map fun a => (a.idx, a.target)
    let d := { d with frame := { d.frame with queue := [], handled := d.frame.handled.filter fun h => !waiting.contains h } }
    let d :=
      if 0 < e then
        d.frame.events.foldl (fun d en =>
          let e := decodeEntry en.2
          if e.valid && e.malformed == 0 && d.passedOver en.1 e old new then
            let d := (d.missed).closeNow e
            let t := new / frameTicks * frameTicks + e.tick
            if t < new then d.setHandled en.1 t else d
          else d) d
      else
        { d with frame := { d.frame with
          suppress := some (max (newMod + e.natAbs) (d.frame.suppress.getD 0)),
          handled := if under then [] else d.frame.handled.filter fun h => decide (h.2 < new) } }
    let of := old / frameTicks
    let nf := newMod / frameTicks
    let d := { d.setTime newMod with frame := { (d.setTime newMod).frame with
      slew := 0, prevErr := none, added := 0, stepClk := d.frame.clk, passNext := 0, passTick := none, lastNow := newMod, issuedNow := 0 } }
    let d := if of / 1024 ≠ nf / 1024 then d.raiseEvt pFrame 9 else d
    if of = nf then d else { d with wires := { d.wires with boundary := true } }

end Sys2Proof.Machine
end

