-- ==== Sys2Proof/Machine/ProtOps.lean ====
section
/-! DEFINITION. Network protection (R175 to R185): verdicts, the shutdown ladder on channels, directions and the device,
back-off, latches and their release, and thermal shutdown (R279). -/

namespace Sys2Proof.Machine

/-! ### What stands -/

/-- A flag of a direction: downlink false, uplink true. -/
def dirMuted (up : Bool) : Fld := if up then R.PROT_DIR_UL_MUTED else R.PROT_DIR_DL_MUTED
/-- The latch of a direction. -/
def dirLatch (up : Bool) : Fld := if up then R.PROT_DIR_UL_LATCH else R.PROT_DIR_DL_LATCH
/-- The trip count of a direction. -/
def dirAttempt (up : Bool) : Fld := if up then R.PROT_DIR_UL_ATTEMPT else R.PROT_DIR_DL_ATTEMPT
/-- The outgoing path group of a direction. -/
def dirGroup (up : Bool) : Nat := if up then 3 else 1

/-- Does device RF off stand? -/
def Dev.rfOff (d : Dev) : Bool := d.flag pProt R.PROT_DIR_RF_OFF || d.flag pProt R.PROT_DIR_RF_LATCH

/-- Does a direction mute stand? -/
def Dev.dirOff (d : Dev) (up : Bool) : Bool := d.flag pProt (dirMuted up) || d.flag pProt (dirLatch up)

/-- Does a mute of channel `n` alone stand? -/
def Dev.chOff (d : Dev) (n : Nat) : Bool := d.flag pProt (R.PROT_CH_STAT_MUTED n) || d.flag pProt (R.PROT_CH_STAT_LATCHED n)

/-- Is channel `n` under a protective mute of any scope (R179)? -/
def Dev.muted (d : Dev) (n : Nat) : Bool := d.chOff n || d.dirOff (d.chUp n) || d.rfOff

/-- Mark verdict code `c` as tripped (R178). -/
def Dev.verdict (d : Dev) (c : Nat) : Dev := d.setFld pProt (R.PROT_VERDICT_TRIPPED.bit (c - 1)) 1

/-- Seconds of the wait after a trip, by the trip count before it (R182). -/
def waitSeconds (attempt : Nat) : Nat := if attempt = 0 then 1 else if attempt = 1 then 10 else 100

/-- CK_FRAME cycles in one second. -/
def secondClk : Nat := 491520000

/-- Begin the back-off of scope `k` for `s` seconds. -/
def Dev.setBackoff (d : Dev) (k s : Nat) : Dev :=
  { d with prot := { d.prot with boEnd := mput 0 d.prot.boEnd k (if s = 0 then 0 else d.frame.clk + s * secondClk) } }

/-- Whole seconds left of the back-off of scope `k`. -/
def Dev.backoffLeft (d : Dev) (k : Nat) : Nat := (mat 0 d.prot.boEnd k - d.frame.clk + secondClk - 1) / secondClk

/-- The protective state an outgoing group shows: FAULT when its direction or the device is latched (R179, R190). -/
def Dev.groupState (d : Dev) (up : Bool) : Nat :=
  if d.flag pTherm R.THERM_STAT_SHUT || d.flag pProt (dirLatch up) || d.flag pProt R.PROT_DIR_RF_LATCH then 8
  else if d.dirOff up || d.rfOff then 7 else 0

/-- Put an outgoing group in the protective state that stands, or release it. -/
def Dev.showGroup (d : Dev) (up : Bool) : Dev :=
  let s := d.groupState up
  if s = 0 then d.pathRelease (dirGroup up) else (d.pathProtect (dirGroup up) s).cancelGroup (dirGroup up)

/-! ### Restart (R185) -/

/-- Channel `n` resumes when nothing mutes it: its gain starts from CH_STAB_FLOOR and rises by 1 dB per level update, and its
canceller resumes from its taps in region ACQUIRE (R118, R164, R185). -/
def Dev.chResume (d : Dev) (n : Nat) : Dev :=
  if d.muted n then d
  else
    let g := mat .init d.gain n
    let c := mat .init d.canc n
    let d := { d with gain := mput .init d.gain n { g with ramp := some (d.sfld (pCh n) R.CH_STAB_FLOOR_FLOOR) },
                      canc := mput .init d.canc n { c with frozenDet := false } }
    d.setFld (pCh n) R.CH_CANC_STAT_REGION 0

/-- Every enabled channel of a direction resumes. -/
def Dev.dirResume (d : Dev) (up : Bool) : Dev :=
  (d.channels.filter fun n => d.chUp n == up).foldl (fun d n => (d.chResume n).stir (pCh n)) d

/-! ### Device RF off -/

/-- Device RF off for verdict `c` (R179): every gate closes, every bias output goes to its clear code, both outgoing groups
show it. -/
def Dev.deviceOff (d : Dev) (c : Nat) : Dev :=
  let was := d.rfOff
  let d := d.verdict c
  let d := if d.prot.devCauses.contains c then d else { d with prot := { d.prot with devCauses := d.prot.devCauses ++ [c] } }
  let d := d.setFld pProt R.PROT_DIR_RF_OFF 1
  let d := if was then d else
    (((d.setFld pProt R.PROT_DIR_DEV_CAUSE c).bump pProt R.PROT_CNT_B_DEV_TRIPS).recCount 840 1)
  let d := if !was && d.flag pRec R.REC_CTL_FLUSH_RFOFF then d.requestFlush 6 0 else d
  let d := (d.closeGates 0xFF true).biasClearAll
  let d := (d.showGroup false).showGroup true
  d.channels.foldl (fun d n => d.stir (pCh n)) d

/-- The cause `c` of device RF off ends; with no other cause and no latch the device restarts (R183, R185). -/
def Dev.deviceOn (d : Dev) (c : Nat) : Dev :=
  let d := { d with prot := { d.prot with devCauses := d.prot.devCauses.filter (· ≠ c) } }
  match d.prot.devCauses with
  | c' :: _ => d.setFld pProt R.PROT_DIR_DEV_CAUSE c'
  | [] =>
    if d.flag pProt R.PROT_DIR_RF_OFF then
      let d := (d.setFld pProt R.PROT_DIR_RF_OFF 0).setFld pProt R.PROT_DIR_DEV_CAUSE 0
      if d.rfOff then d else (((d.showGroup false).showGroup true).dirResume false).dirResume true
    else d

/-! ### Direction mute -/

/-- The verdict codes that hold a direction. -/
def Dev.dirCauses (d : Dev) (up : Bool) : List Nat := if up then d.prot.ulCauses else d.prot.dlCauses

/-- Change the verdict codes that hold a direction. -/
def Dev.setDirCauses (d : Dev) (up : Bool) (l : List Nat) : Dev :=
  if up then { d with prot := { d.prot with ulCauses := l } } else { d with prot := { d.prot with dlCauses := l } }

/-- Mute a direction for verdict `c` (R179). -/
def Dev.dirMute (d : Dev) (up : Bool) (c : Nat) : Dev :=
  let d := d.verdict c
  let d := if (d.dirCauses up).contains c then d else d.setDirCauses up (d.dirCauses up ++ [c])
  let d := (d.setFld pProt (dirMuted up) 1).showGroup up
  (d.channels.filter fun n => d.chUp n == up).foldl (fun d n => d.stir (pCh n)) d

/-- The cause `c` of a direction mute ends (R183, R185). -/
def Dev.dirUnmute (d : Dev) (up : Bool) (c : Nat) : Dev :=
  if (d.dirCauses up).contains c then
    let d := d.setDirCauses up ((d.dirCauses up).filter (· ≠ c))
    if (d.dirCauses up).isEmpty then ((d.setFld pProt (dirMuted up) 0).showGroup up).dirResume up else d
  else d

/-- One more trip of the device, ESC in both directions at once (R180, R182). -/
def Dev.tripDevice (d : Dev) : Dev :=
  if d.prot.devCauses.contains 10 then d
  else
    let a := d.fld pProt R.PROT_DIR_DEV_ATTEMPT
    let d :=
      if a = 3 then ((d.setFld pProt R.PROT_DIR_RF_LATCH 1).bump pProt R.PROT_CNT_B_LATCHES).recCount 839 1
      else (d.setFld pProt R.PROT_DIR_DEV_ATTEMPT (a + 1)).setBackoff 194 (waitSeconds a)
    d.deviceOff 10

/-- A direction trips by escalation (R180, R182): its own trip count and back-off; the fourth trip latches it. -/
def Dev.tripDir (d : Dev) (up : Bool) : Dev :=
  if (d.dirCauses up).contains 10 || d.flag pProt (dirLatch up) then d.verdict 10
  else
    let a := d.fld pProt (dirAttempt up)
    let d := (d.bump pProt R.PROT_CNT_A_DIR_TRIPS).recCount (if up then 838 else 837) 1
    let d :=
      if a = 3 then ((d.setFld pProt (dirLatch up) 1).bump pProt R.PROT_CNT_B_LATCHES).recCount 839 1
      else (d.setFld pProt (dirAttempt up) (a + 1)).setBackoff (if up then 193 else 192) (waitSeconds a)
    let d := d.dirMute up 10
    if (d.dirCauses (!up)).contains 10 then d.tripDevice else d

/-! ### Channel mute -/

/-- A channel trip counts toward the escalation of its direction (R180). -/
def Dev.countTrip (d : Dev) (up : Bool) : Dev :=
  let fresh := (if up then d.prot.ulTrips else d.prot.dlTrips).filter fun t => decide (d.frame.clk < t + secondClk)
  let l := fresh ++ [d.frame.clk]
  let d := if up then { d with prot := { d.prot with ulTrips := l } } else { d with prot := { d.prot with dlTrips := l } }
  let esc := d.fld pProt R.PROT_CTL_ESC_DIR
  if esc ≠ 0 ∧ esc ≤ l.length then d.tripDir up else d

/-- Verdict `c` trips on channel `n` (R178, R179, R182). On a channel already under a protective mute it only sets its bit; in the
tick of the trip itself it joins that trip, whose CAUSE is the lowest code. -/
def Dev.tripChannel (d : Dev) (n c : Nat) : Dev :=
  let d := d.verdict c
  if d.muted n then
    if d.chOff n && mat 0 d.prot.tripAt n == d.frame.clk + 1 then
      d.setFld pProt (R.PROT_CH_STAT_CAUSE n) (min c (d.fld pProt (R.PROT_CH_STAT_CAUSE n)))
    else d
  else
    let d := { d with prot := { d.prot with tripAt := mput 0 d.prot.tripAt n (d.frame.clk + 1) } }
    let a := d.fld pProt (R.PROT_CH_STAT_ATTEMPT n)
    let d := ((d.bump pProt R.PROT_CNT_A_CH_TRIPS).recCount (448 + n) 1).setFld pProt (R.PROT_CH_STAT_CAUSE n) c
    let d := d.setFld pProt (R.PROT_CH_STAT_MUTED n) 1
    let d :=
      if a = 3 then ((d.setFld pProt (R.PROT_CH_STAT_LATCHED n) 1).bump pProt R.PROT_CNT_B_LATCHES).recCount 839 1
      else (d.setFld pProt (R.PROT_CH_STAT_ATTEMPT n) (a + 1)).setBackoff n (waitSeconds a)
    (((d.raiseEvt (pCh n) 3).stir (pCh n))).countTrip (d.chUp n)

/-- Verdicts that trip together on channel `n` make one mute; CAUSE takes the lowest code (R178). -/
def Dev.tripMany (d : Dev) (n : Nat) (cs : List Nat) : Dev :=
  match cs.min? with
  | none => d
  | some lo => cs.foldl Dev.verdict (d.tripChannel n lo)

/-! ### Ends of back-off and latches (R182, R184) -/

/-- The back-off of channel `n` ends (R182). A latched channel stays. -/
def Dev.chRestart (d : Dev) (n : Nat) : Dev :=
  if d.flag pProt (R.PROT_CH_STAT_MUTED n) && !d.flag pProt (R.PROT_CH_STAT_LATCHED n) then
    (((d.setFld pProt (R.PROT_CH_STAT_MUTED n) 0).setBackoff n 0).chResume n).stir (pCh n)
  else d

/-- The back-off of a direction ends. -/
def Dev.dirRestart (d : Dev) (up : Bool) : Dev :=
  if d.flag pProt (dirLatch up) then d else (d.setBackoff (if up then 193 else 192) 0).dirUnmute up 10

/-- The back-off of the device ends. -/
def Dev.devRestart (d : Dev) : Dev :=
  if d.flag pProt R.PROT_DIR_RF_LATCH then d else (d.setBackoff 194 0).deviceOn 10

/-- PROT_CLR releases a latched channel and sets its trip count to 0; any other is unaffected (R184). -/
def Dev.clearChannel (d : Dev) (n : Nat) : Dev :=
  if d.flag pProt (R.PROT_CH_STAT_LATCHED n) then
    ((d.setFld pProt (R.PROT_CH_STAT_LATCHED n) 0).setFld pProt (R.PROT_CH_STAT_ATTEMPT n) 0).chRestart n
  else d

/-- PROT_CLR releases a latched direction (R184). -/
def Dev.clearDir (d : Dev) (up : Bool) : Dev :=
  if d.flag pProt (dirLatch up) then
    ((d.setFld pProt (dirLatch up) 0).setFld pProt (dirAttempt up) 0).dirRestart up
  else d

/-- PROT_CLR releases the latched device (R184). -/
def Dev.clearDevice (d : Dev) : Dev :=
  if d.flag pProt R.PROT_DIR_RF_LATCH then
    ((d.setFld pProt R.PROT_DIR_RF_LATCH 0).setFld pProt R.PROT_DIR_DEV_ATTEMPT 0).devRestart
  else d

/-! ### Conditions (R183) -/

/-- Begin or end a verdict that mutes both directions while it stands: TLOST 7 or CLK_A 8. -/
def Dev.bothDirs (d : Dev) (c : Nat) (on : Bool) : Dev :=
  if on then (if (d.dirCauses false).contains c then d else (d.dirMute false c).dirMute true c)
  else (d.dirUnmute false c).dirUnmute true c

/-- TLOST stands from LOST with FREERUN_TX = 0 until TRACK or FREERUN_TX = 1 (R175, R183, R303). -/
def Dev.judgeLost (d : Dev) : Dev :=
  let m := d.timeMode
  let free := d.flag pFrame R.FRAME_CTL_FREERUN_TX
  if m = 4 ∧ free = false then d.bothDirs 7 true
  else if m = 2 ∨ free = true then d.bothDirs 7 false
  else d

/-- HOST stands while PROT_CTL.RF_OFF = 1 is in effect (R175, R183). -/
def Dev.judgeHost (d : Dev) : Dev :=
  if d.flag pProt R.PROT_CTL_RF_OFF then (if d.prot.devCauses.contains 11 then d else d.deviceOff 11)
  else if d.prot.devCauses.contains 11 then d.deviceOn 11 else d

/-- CK_REF is lost, or the supplies fail: gates close and bias outputs clear without any other clock (R23, R404). -/
def Dev.outputsOff (d : Dev) : Dev := (d.closeGates 0xFF true).biasClearAll

/-! ### Thermal shutdown (R276, R279) -/

/-- What stands while the thermal latch is set (R228, R279): gates closed, bias outputs clear, STANDBY, and every path group in
FAULT with its converters powered down. -/
def Dev.thermHold (d : Dev) : Dev :=
  let d := (d.outputsOff).setFld pDev R.DEV_PWR_EFF 1
  let d := (List.range 4).foldl (fun d g =>
    let d := (d.pathProtect g 8).cancelGroup g
    (groupConvs g).foldl Dev.convDown ((d.setGrp g { d.grp g with pos := 0 }))) d
  (d.stir pDev).monPower

/-- The thermal latch sets: a fatal fault, and everything the latch holds (R276, R279, Table 17-7). -/
def Dev.thermShut (d : Dev) : Dev :=
  if d.flag pTherm R.THERM_STAT_SHUT then d
  else
    let d := (((d.setFld pTherm R.THERM_STAT_SHUT 1).raiseEvt pTherm 3).lwFlag 0 true).levelOn 138 pTherm
    (d.recCount 836 1).thermHold

end Sys2Proof.Machine
end

