-- ==== Sys2Proof/Machine/TimeOps.lean ====
section
/-! DEFINITION. Frame time (R29 to R39, R425, R426): the counter's advance, its sources and modes, corrections, holdover, and
the side-control messages. -/

namespace Sys2Proof.Machine

/-! ### The counter (R29, R31) -/

/-- One CK_FRAME cycle: the counter advances by `k` ticks (1, or 0 or 2 under a correction). At the wrap the frame number
advances and the frame boundary is due. -/
def Dev.advance (d : Dev) (k : Nat) : Dev :=
  let old := d.now
  let new := (old + k) % counterTicks
  let f := d.frame
  let d := { d with frame := { f with clk := f.clk + 1, lastNow := old, issuedNow := 0, closedNow := 0 } }
  let d := d.setTime new
  let d := { d with frame := { d.frame with
    pend := d.frame.pend.filter fun a => decide (new < a.target),
    suppress := match d.frame.suppress with
      | some s => if s ≤ new then none else some s
      | none => none } }
  if old / frameTicks = new / frameTicks then d
  else
    let d := { d with wires := { d.wires with boundary := true } }
    if old / frameTicks / 1024 = new / frameTicks / 1024 then d else d.raiseEvt pFrame 9

/-- The counter runs to the next frame boundary in one command (R426); CK_FRAME has run as many cycles. -/
def Dev.toBoundary (d : Dev) : Dev :=
  let left := frameTicks - 1 - d.frame.tick
  { d with frame := { d.frame with clk := d.frame.clk + left, tick := d.frame.tick + left } }.advance 1

/-- The frequency correction gathers for one cycle: parts in 10^11 of a tick (R30). -/
def Dev.gatherCorr (d : Dev) : Dev :=
  { d with frame := { d.frame with corrAcc := d.frame.corrAcc + d.sfld pFrame R.FRAME_FREQ_CORR_CORR } }

/-- One tick in units of the frequency correction. -/
def corrTick : Int := 100000000000

/-- How many ticks this cycle advances when the frequency correction may act: 2 or 0 once a whole tick has gathered (R30). -/
def Dev.corrAdvance (d : Dev) : Nat × Dev :=
  let a := d.frame.corrAcc
  if corrTick ≤ a then (2, { d with frame := { d.frame with corrAcc := a - corrTick, added := d.frame.added + 1 } })
  else if a ≤ -corrTick then (0, { d with frame := { d.frame with corrAcc := a + corrTick, added := d.frame.added - 1 } })
  else (1, d)

/-- How many ticks this cycle advances when slewing may act: one tick more or less in 4,096 (R30). -/
def Dev.slewAdvance (d : Dev) : Nat × Dev :=
  let f := d.frame
  if f.slew = 0 ∨ f.clk < f.slewClk + 4096 then (1, d)
  else if 0 < f.slew then (2, { d with frame := { f with slew := f.slew - 1, slewClk := f.clk, added := f.added + 1 } })
  else (0, { d with frame := { f with slew := f.slew + 1, slewClk := f.clk, added := f.added - 1 } })

/-! ### Holdover (R35) -/

/-- CK_FRAME cycles in the 16 s of the frequency loop. -/
def corrSpan : Nat := 7864320000

/-- The sum of correction times cycles over the last 16 s, newest entry first, and the cycles it covers. -/
def corrSum : List (Nat × Int) → Nat → Nat → Int × Nat
  | [], _, _ => (0, 0)
  | (c, v) :: r, hi, lo =>
    let from' := max c lo
    let s := if c ≤ lo then (0, 0) else corrSum r c lo
    (v * ((hi - from' : Nat) : Int) + s.1, (hi - from') + s.2)

/-- The average of the correction over the last 16 s of TRACK (R35). -/
def Dev.corrMean (d : Dev) : Int :=
  let s := corrSum d.frame.corrLog d.frame.clk (d.frame.clk - corrSpan)
  if s.2 = 0 then d.sfld pFrame R.FRAME_FREQ_CORR_CORR else ratio s.1 s.2

/-- Set the timing mode; TLOST follows it. -/
def Dev.setMode (d : Dev) (m : Nat) : Dev := (d.setFld pFrame R.FRAME_STAT_MODE m).judgeLost

/-- HOLDOVER begins: the correction freezes at its average (R35). -/
def Dev.enterHoldover (d : Dev) : Dev :=
  let d := if d.frame.corrLog.isEmpty then d else d.setS pFrame R.FRAME_FREQ_CORR_CORR d.corrMean
  let d := { d with frame := { d.frame with holdClk := d.frame.clk, corrLog := [], prevErr := none } }
  let d := (d.setFld pFrame R.FRAME_HOLD_EST_EST 65).setFld pFrame R.FRAME_HOLD_EST_SEC 0
  ((d.setMode 3).raiseEvt pFrame 2).recCount 844 1

/-- Numerator of the estimate of R35 after `c` cycles, in ns over `holdDen`. -/
def holdNum (y0 a c : Nat) : Nat :=
  65 * (200000 * secondClk ^ 2) + y0 * 2000 * secondClk * c + a * c ^ 2

/-- Denominator of the estimate of R35. -/
def holdDen : Nat := 200000 * secondClk ^ 2

/-- The holdover estimate is updated once per frame; beyond the budget the mode becomes LOST (R35). The register shows the
estimate to the nearest ns, as Table 02-3 does. -/
def Dev.holdUpdate (d : Dev) : Dev :=
  let m := d.fld pFrame R.FRAME_STAT_MODE
  if m = 3 ∨ m = 4 then
    let c := d.frame.clk - d.frame.holdClk
    let n := holdNum (d.fld pFrame R.FRAME_HOLD_Y0_Y0) (d.fld pFrame R.FRAME_HOLD_Y0_A) c
    let d := d.setFld pFrame R.FRAME_HOLD_EST_EST (min ((2 * n + holdDen) / (2 * holdDen)) 0xFFFF)
    let d := d.setFld pFrame R.FRAME_HOLD_EST_SEC (min (c / secondClk) 0xFFFF)
    if m = 3 ∧ d.fld pFrame R.FRAME_HOLD_BUDGET_BUDGET * holdDen < n then
      ((d.setMode 4).raiseEvt pFrame 3).recCount 845 1
    else d
  else d

/-! ### Sources (R32, R33, Table 02-1) -/

/-- Is source code `c` qualified: 1 TA, 2 PPS, 3 HAUL, 4 SC? -/
def Dev.srcQual (d : Dev) (c : Nat) : Bool := c != 0 && decide (c ≤ 4) && d.flag pFrame (R.FRAME_STAT_QUAL.bit (c - 1))

/-- The order of preference; a repeated code counts at its first place only (R33). -/
def Dev.srcOrder (d : Dev) : List Nat :=
  ([R.FRAME_SRC_PRIO_P0, R.FRAME_SRC_PRIO_P1, R.FRAME_SRC_PRIO_P2, R.FRAME_SRC_PRIO_P3].map fun F => d.fld pFrame F).foldl
    (fun l c => if l.contains c then l else l ++ [c]) []

/-- Source `c` becomes active (R33): in TRACK the mode stays, else ACQUIRE begins and its first correction is a step. -/
def Dev.activate (d : Dev) (c : Nat) : Dev :=
  let d := (d.setFld pFrame R.FRAME_STAT_ACTIVE c).raiseEvt pFrame 0
  let d := { d with frame := { d.frame with prevErr := none, added := 0 } }
  if d.fld pFrame R.FRAME_STAT_MODE = 2 then d.judgeLost
  else { d with frame := { d.frame with acqFirst := true, trackRun := 0 } }.setMode 1

/-- Choose the active source after a change of qualification (R33). -/
def Dev.selectSource (d : Dev) : Dev :=
  let act := d.fld pFrame R.FRAME_STAT_ACTIVE
  if d.srcQual act && d.srcOrder.contains act then d
  else match d.srcOrder.find? d.srcQual with
    | some c => d.activate c
    | none =>
      if act = 0 then d
      else
        let d := (d.setFld pFrame R.FRAME_STAT_ACTIVE 0).raiseEvt pFrame 0
        let m := d.fld pFrame R.FRAME_STAT_MODE
        if m = 1 ∨ m = 2 then d.enterHoldover else d

/-- A source becomes qualified or is disqualified. -/
def Dev.setQual (d : Dev) (c : Nat) (on : Bool) : Dev :=
  (d.setFlag pFrame (R.FRAME_STAT_QUAL.bit (c - 1)) on).selectSource

/-- A source earlier in the order than the active one takes over (R33). -/
def Dev.takeover (d : Dev) : Dev :=
  let act := d.fld pFrame R.FRAME_STAT_ACTIVE
  match (d.srcOrder.takeWhile (· ≠ act)).find? d.srcQual with
  | some c => if act = 0 then d else d.activate c
  | none => d

/-- Frames in the counter, in 1/16 tick: the span in which a phase error is measured. -/
def span16 : Int := 1024 * 4915200 * 16

/-- The difference of two times in 1/16 tick, taken as the nearest, within 512 frames (R30). -/
def wrap16 (e : Int) (span : Int) : Int := (e + span / 2) % span - span / 2

/-- The frequency loop takes a measurement (R425). -/
def Dev.fllUpdate (d : Dev) (e16 : Int) : Dev :=
  match d.frame.prevErr with
  | none => d
  | some p =>
    let dt := d.frame.clk - d.frame.prevClk
    let n := (e16 - p + 16 * d.frame.added) * corrTick
    let corr := d.sfld pFrame R.FRAME_FREQ_CORR_CORR
    let v := if corrSpan ≤ dt then ratio n (16 * dt)
             else ratio (corr * (16 * corrSpan : Nat) + n - corr * (16 * dt : Nat)) (16 * corrSpan)
    let v := if 5000000 < v then 5000000 else if v < -5000000 then -5000000 else v
    let d := d.setS pFrame R.FRAME_FREQ_CORR_CORR v
    if d.fld pFrame R.FRAME_STAT_MODE = 2 then
      { d with frame := { d.frame with corrLog := (d.frame.clk, v) :: d.frame.corrLog } }
    else d

/-- The active source gives a phase error, in 1/16 tick (R30, R425, Table 02-2): the loop takes it, and the phase is removed by
slewing or by a step; three errors within 32 ticks bring ACQUIRE to TRACK. -/
def Dev.measure (d : Dev) (e16 : Int) : Dev :=
  let d := (d.setS pFrame R.FRAME_PHASE_ERR_ERR (satS 16 e16)).fllUpdate e16
  let ticks := roundConv e16 4
  let acq := d.fld pFrame R.FRAME_STAT_MODE == 1
  let thr : Int := d.fld pFrame R.FRAME_CTL_STEP_THR * 16
  let first := acq && d.frame.acqFirst
  let near := decide (e16.natAbs ≤ 512)
  let run := if acq && near then d.frame.trackRun + 1 else 0
  let d := { d with frame := { d.frame with trackRun := run, acqFirst := false } }
  let d :=
    if first || decide (thr < e16) || decide (e16 < -thr) then
      let d := d.stepBy ticks
      if ticks = 0 then { d with frame := { d.frame with prevErr := some e16, prevClk := d.frame.clk, added := 0 } } else d
    else { d with frame := { d.frame with slew := ticks, prevErr := some e16, prevClk := d.frame.clk, added := 0 } }
  if acq && decide (3 ≤ run) then
    { d with frame := { d.frame with corrLog := [(d.frame.clk, d.sfld pFrame R.FRAME_FREQ_CORR_CORR)] } }.setMode 2
  else d

/-- A measurement of source `c` counts when the source is active. -/
def Dev.measureFrom (d : Dev) (c : Nat) (e16 : Int) : Dev :=
  if d.fld pFrame R.FRAME_STAT_ACTIVE = c then d.measure e16 else d

/-- The counter in 1/16 tick. -/
def Dev.now16 (d : Dev) : Int := (d.now * 16 : Nat)

/-- May Timing Acquirer `n` search (R32)? -/
def Dev.taSearches (d : Dev) (n : Nat) : Bool :=
  let ch := d.fld pFrame (R.FRAME_TA_CFG_CH n)
  d.flag pFrame (R.FRAME_TA_CFG_EN n) && decide (ch < 192) && d.chOn ch && !d.chUp ch && d.flag (pCh ch) R.CH_DEF_SRC_LOCAL

/-- Show which acquirers are qualified; source TA follows (R32). -/
def Dev.setTa (d : Dev) (n run : Nat) : Dev :=
  let d := { d with frame := { d.frame with taRun := mput 0 d.frame.taRun n (min run 3) } }
  let d := d.setFlag pFrame (R.FRAME_STAT_TA_QUAL.bit n) (decide (3 ≤ run))
  d.setQual 1 (d.fld pFrame R.FRAME_STAT_TA_QUAL != 0)

/-- The acquirer in use: the qualified one with the lowest number (R32). -/
def Dev.taUsed (d : Dev) : Option Nat := (List.range 8).find? fun i => d.flag pFrame (R.FRAME_STAT_TA_QUAL.bit i)

/-- Acquirer `n` detects its cell: with the frame number decoded, or the frame boundary alone (R32, Table 02-1). -/
def Dev.taDetect (d : Dev) (n : Nat) (pbch : Bool) (sfn tick16 : Nat) : Dev :=
  if !d.taSearches n then d
  else
    let run := if pbch then mat 0 d.frame.taRun n + 1 else if d.flag pFrame (R.FRAME_STAT_TA_QUAL.bit n) then 3 else 0
    let d := d.setTa n run
    let src : Int := (sfn * frameTicks * 16 + tick16 : Nat)
    let e := if pbch then wrap16 (src - d.now16) span16 else wrap16 ((tick16 : Int) - d.now16) ((frameTicks * 16 : Nat) : Int)
    if d.taUsed = some n then d.measureFrom 1 e else d

/-- An acquirer whose channel no longer lets it search is unqualified (R32). -/
def Dev.taRefresh (d : Dev) : Dev :=
  (List.range 8).foldl (fun d n =>
    if d.flag pFrame (R.FRAME_STAT_TA_QUAL.bit n) && !d.taSearches n then d.setTa n 0 else d) d

/-- A PPS_IN edge (R31, Table 02-1): frame NEXT_SFN, which then advances by 100; three edges 1 s ± 2 µs apart qualify. -/
def Dev.ppsEdge (d : Dev) (sub : Nat) : Dev :=
  if !d.flag pFrame R.FRAME_CTL_PPS_EN then d
  else
    let sfn := d.fld pFrame R.FRAME_PPS_NEXT_SFN
    let clk := d.frame.clk
    let run := match d.frame.ppsLast with
      | some t => if clk ≤ t + secondClk + 983 ∧ t + secondClk ≤ clk + 983 then d.frame.ppsRun + 1 else 1
      | none => 1
    let e := wrap16 ((sfn * frameTicks * 16 : Nat) + d.sfld pFrame R.FRAME_PPS_DLY * 16 - (d.now16 + (sub : Int))) span16
    let d := { d with frame := { d.frame with ppsRun := min run 3, ppsLast := some clk } }
    let d := d.setFld pFrame R.FRAME_PPS_NEXT_SFN ((sfn + 100) % 1024)
    let d := if 3 ≤ run then d.setQual 2 true else d
    d.measureFrom 2 e

/-- No PPS edge twice in succession: PPS is disqualified (Table 02-1). -/
def Dev.ppsTimeout (d : Dev) : Dev :=
  { d with frame := { d.frame with ppsRun := 0, ppsLast := none } }.setQual 2 false

/-! ### Side control (R36 to R39) -/

/-- The CRC-16 of R36 over bits, most significant first. -/
def crc16 (bits : List Bool) : Nat :=
  bits.foldl (fun c b =>
    let top := (decide (32768 ≤ c)) != b
    let s := c * 2 % 65536
    if top then s ^^^ 0x1021 else s) 0xFFFF

/-- Does a message of 128 bits pass its CRC (R36)? -/
def scCrcOk (msg : BitVec 128) : Bool :=
  crc16 ((List.range 112).map fun i => msg.getLsbD (127 - i)) == bitsOf msg.toNat 15 0

/-- The frame a message means by a number: the first at or after the present one (R36). -/
def Dev.frameAhead (d : Dev) (f : Nat) : Nat :=
  let c := d.now / frameTicks
  c + (f + 1024 - c % 1024) % 1024

/-- A message has passed its check and is not discarded (R36, R39). -/
def Dev.scValid (d : Dev) : Dev := { d with frame := { d.frame with noValid := 0, scHeard := true, scBad := 0 } }

/-- Count a discarded message (R36). -/
def Dev.scDiscard (d : Dev) : Dev := d.bump pFrame R.FRAME_CNT_D_SC_CRC

/-- SC is disqualified and its qualifying run starts anew (Table 02-1). -/
def Dev.scUnqualify (d : Dev) : Dev :=
  { d with frame := { d.frame with scRun := 0, scDis := 0, scLast := none } }.setQual 4 false

/-- A message fails its check: discarded and counted; two in succession disqualify SC (R36, Table 02-1). -/
def Dev.scFail (d : Dev) : Dev :=
  let d := d.scDiscard
  let bad := d.frame.scBad + 1
  let d := { d with frame := { d.frame with scBad := bad, scRun := 0 } }
  if 2 ≤ bad then d.scUnqualify else d

/-- A TIME message: `ago` ticks ago was tick 0 of frame `sfn` (R36, Table 02-1). Three that agree within 32 ticks qualify SC, two
that disagree disqualify it; while SC loss stands TIME does not qualify. -/
def Dev.scTime (d : Dev) (sfn ago : Nat) : Dev :=
  let d := d.scValid
  let src : Int := (sfn * frameTicks + ago : Nat) + d.sfld pFrame R.FRAME_SC_DLY_DLY
  let off := src - d.frame.clk
  let agree := match d.frame.scLast with
    | some o => decide ((wrap16 (off - o) (span16 / 16)).natAbs ≤ 32)
    | none => true
  let first := d.frame.scLast.isNone
  let run := if first || !agree then 1 else d.frame.scRun + 1
  let dis := if agree then 0 else d.frame.scDis + 1
  let d := { d with frame := { d.frame with scLast := some off, scRun := min run 3, scDis := dis } }
  let d :=
    if 2 ≤ dis then { d with frame := { d.frame with scRun := 1 } }.setQual 4 false
    else if 3 ≤ run ∧ d.frame.scLost = false then d.setQual 4 true else d
  d.measureFrom 4 (wrap16 (src * 16 - d.now16) span16)

/-- SC loss ends at a valid SLOTS or ONOFF message (R39). -/
def Dev.scFound (d : Dev) : Dev := { d with frame := { d.frame with scLost := false } }

/-- The slots of a frame at a subcarrier spacing as spans: slot s of 10 · 2^scs slots. -/
def slotSpans (scs codes : Nat) : List SlotSpan :=
  let len := frameTicks / (10 * 2 ^ scs)
  (List.range (10 * 2 ^ scs)).map fun s => { lo := s * len, hi := (s + 1) * len, code := codes / 2 ^ (78 - 2 * s) % 4 }

/-- The map of a frame once a late message has changed it: slots that start at or after tick `cut` are new (R38). -/
def mergeSpans (old new : List SlotSpan) (cut : Nat) : List SlotSpan :=
  let fresh := new.filter fun s => decide (cut ≤ s.lo)
  let edge := match fresh with
    | s :: _ => s.lo
    | [] => frameTicks
  let keep := if old.isEmpty then [{ lo := 0, hi := edge, code := 3 }] else old
  ((keep.filter fun s => decide (s.lo < edge)).map fun s => { s with hi := min s.hi edge }) ++ fresh

/-- Ticks before the first changed slot by which a message is on time, and before which a slot keeps its map (R38). -/
def lateTicks : Nat := 24576
/-- The least lead of a slot that takes a late map (R38). -/
def takeTicks : Nat := 492

/-- A SLOTS message (R36, R38): on time it replaces the frame's map; late it is counted and applies to slots at least 492 ticks
away, and pending actions it disallows are cancelled. -/
def Dev.scSlots (d : Dev) (frame scs codes : Nat) : Dev :=
  let d := (d.scValid).scFound
  let f := d.frameAhead frame
  let base := f * frameTicks
  let new := slotSpans scs codes
  let old := mat [] d.frame.slots f
  let late := match new.find? fun s => s.code != spanCode old s.lo with
    | some s => decide (base + s.lo < d.now + lateTicks)
    | none => false
  let spans := if late then mergeSpans old new (d.now + takeTicks - base) else new
  let d := { d with frame := { d.frame with slots := mput [] d.frame.slots f spans } }
  let d := if late then (d.bump pFrame R.FRAME_CNT_D_SC_LATE).raiseEvt pFrame 4 else d
  d.cancelSlots

/-- The first slot start of a frame at or after a tick; without a map slots are those of 15 kHz (log entry 23). -/
def slotStartAfter (spans : List SlotSpan) (tick : Nat) : Nat :=
  match ((if spans.isEmpty then slotSpans 0 0 else spans).find? fun s => decide (tick ≤ s.lo)) with
  | some s => s.lo
  | none => frameTicks

/-- Enter a mark in time order, in place of one at the same frame and tick. -/
def markIn (m : OnOffMark) : List OnOffMark → List OnOffMark
  | [] => [m]
  | o :: r =>
    if o.frame = m.frame ∧ o.tick = m.tick then m :: r
    else if m.frame < o.frame ∨ (m.frame = o.frame ∧ m.tick < o.tick) then m :: o :: r
    else o :: markIn m r

/-- An ONOFF message (R36, R38). -/
def Dev.scOnOff (d : Dev) (frame : Nat) (on : Bool) : Dev :=
  let d := (d.scValid).scFound
  let f := d.frameAhead frame
  let base := f * frameTicks
  let late := decide (base < d.now + lateTicks) && d.offAt base == on
  let tick := if late then slotStartAfter (mat [] d.frame.slots f) (d.now + takeTicks - base) else 0
  let m : OnOffMark := if tick = frameTicks then { frame := f + 1, tick := 0, on := on } else { frame := f, tick := tick, on := on }
  let d := { d with frame := { d.frame with onOff := markIn m d.frame.onOff } }
  let d := if late then (d.bump pFrame R.FRAME_CNT_D_SC_LATE).raiseEvt pFrame 4 else d
  d.cancelSlots

/-- A BEAM message (R240): its entry waits for the group start less LEAD; late within the group it is issued at once; later, or
naming what does not exist, it is dropped. -/
def Dev.scBeam (d : Dev) (frame slot grp idx : Nat) : Dev :=
  let d := d.scValid
  let f := d.frameAhead frame
  let spans := mat [] d.frame.slots f
  let slots := if spans.isEmpty then slotSpans (d.fld pFe R.FE_BEAM_CTL_SCS) 0 else spans
  let len := match slots with
    | s :: _ => s.hi - s.lo
    | [] => 1
  let kind := bitsOf (d.pair pFe (R.FE_BEAM_LO_ENTRY idx) (R.FE_BEAM_HI_ENTRY idx)) 63 60
  if 6 < grp ∨ frameTicks / len ≤ slot ∨ kind = 0 then (d.bump pFe R.FE_BEAM_CNT_BAD).raiseEvt pFe 12
  else
    let start := f * frameTicks + slot * len + grp * len / 7
    let stop := f * frameTicks + slot * len + (grp + 1) * len / 7
    let due := start - d.fld pFe R.FE_BEAM_CTL_LEAD
    if d.now ≤ due then
      { d with front := { d.front with beams := d.front.beams ++ [{ entry := idx, due := due }] } }
    else
      let d := (d.bump pFe R.FE_BEAM_CNT_LATE).raiseEvt pFe 12
      if d.now < stop then d.beamIssue idx else d

/-- The beam entry due first is issued (R240). -/
def Dev.beamDue (d : Dev) : Dev :=
  match d.front.beams.find? fun b => d.front.beams.all fun c => decide (b.due ≤ c.due) with
  | some b => { d with front := { d.front with beams := d.front.beams.erase b } }.beamIssue b.entry
  | none => d

/-- SC loss (R39): governed groups stand in off slots and SC is disqualified. -/
def Dev.scLose (d : Dev) : Dev :=
  if d.flag pFrame R.FRAME_CTL_SC_EN && !d.frame.scLost && decide (d.fld pFrame R.FRAME_CTL_SC_LOSS ≤ d.frame.noValid) then
    ({ d with frame := { d.frame with scLost := true } }.raiseEvt pFrame 5).scUnqualify
  else d

/-! ### The frame boundary (R426) -/

/-- What frame time does at a boundary: the count toward SC loss, the holdover estimate, and maps and marks that are past
forgotten. -/
def Dev.timeBoundary (d : Dev) : Dev :=
  let f := d.now / frameTicks
  let d := if d.flag pFrame R.FRAME_CTL_SC_EN then { d with frame := { d.frame with noValid := if d.frame.scHeard then 0 else d.frame.noValid + 1, scHeard := false } } else d
  let off := d.frame.onOff.foldl (fun b m => if decide (m.frame < f) then !m.on else b) d.frame.offNow
  let d := { d with frame := { d.frame with
    offNow := off, onOff := d.frame.onOff.filter fun m => decide (f ≤ m.frame),
    slots := d.frame.slots.filter fun e => decide (f ≤ e.1 ∧ e.1 < f + 1024) } }
  d.holdUpdate

end Sys2Proof.Machine
end

