-- ==== Sys2Proof/Machine/EngImage.lean ====
section
/-! DEFINITION. Engine images (R132, R133, Tables 06-6 and 06-7): an image in a bank, its header, tables, descriptors and
bundles, and the engines that hold them. -/

namespace Sys2Proof.Machine

/-- Engine `e`. -/
def Dev.engine (d : Dev) (e : Nat) : EngSt := mat .init d.eng e

/-- Change engine `e`. -/
def Dev.setEng (d : Dev) (e : Nat) (s : EngSt) : Dev := { d with eng := mput .init d.eng e s }

/-- An image as it stands in a bank, by 32-bit word. -/
abbrev Image := SMap Word

/-- A bank of an engine. -/
def EngSt.bank (s : EngSt) (b : Bool) : Image := if b then s.bank1 else s.bank0

/-- Is the active bank of engine `e` bank 1? -/
def Dev.actBank (d : Dev) (e : Nat) : Bool := d.flag (pEng e) R.ENG_STAT_ACTIVE_BANK

/-- The active image of engine `e`. -/
def Dev.active (d : Dev) (e : Nat) : Image := (d.engine e).bank (d.actBank e)

/-- The shadow image of engine `e`. -/
def Dev.shadowImg (d : Dev) (e : Nat) : Image := (d.engine e).bank (!d.actBank e)

/-- The state of engine `e`: 0 IDLE, 1 RUN, 2 TAIL, 3 HALT. -/
def Dev.engState (d : Dev) (e : Nat) : Nat := d.fld (pEng e) R.ENG_STAT_STATE

/-- Byte `a` of an image. -/
def Image.byte (m : Image) (a : Nat) : Nat := (mat 0 m (a / 4)).toNat / 256 ^ (a % 4) % 256

/-- A little-endian number of `n` bytes at `a`. -/
def Image.num (m : Image) (a : Nat) : Nat → Nat
  | 0 => 0
  | n + 1 => Image.byte m a + 256 * Image.num m (a + 1) n

/-! ### Header (Table 06-6) -/

/-- The image's compile hash. -/
def Image.hash (m : Image) : Nat := Image.num m 8 8
/-- PERIOD_TICKS. -/
def Image.period (m : Image) : Nat := Image.num m 0x10 4 % 2 ^ 23
/-- SHARE. -/
def Image.share (m : Image) : Bool := Image.num m 0x10 4 / 2 ^ 24 % 2 == 1
/-- PERIOD_CYC. -/
def Image.cycles (m : Image) : Nat := Image.num m 0x14 4
/-- NBUNDLES. -/
def Image.bundles (m : Image) : Nat := Image.num m 0x18 2
/-- TAIL_ENTRY. -/
def Image.tail (m : Image) : Nat := Image.num m 0x1A 2
/-- SIG. -/
def Image.sig (m : Image) : Nat := Image.num m 0x1C 4
/-- CONST_BYTES. -/
def Image.constBytes (m : Image) : Nat := Image.num m 0x20 4
/-- STATE_BYTES. -/
def Image.stateBytes (m : Image) : Nat := Image.num m 0x24 4
/-- TOTAL_BYTES. -/
def Image.total (m : Image) : Nat := Image.num m 0x28 4

/-- The offset of the constant region: the next 64-byte boundary after the bundles. -/
def Image.constAt (m : Image) : Nat := (0x2860 + 32 * Image.bundles m + 63) / 64 * 64

/-- Bundle `i`, 256 bits. -/
def Image.bundle (m : Image) (i : Nat) : Nat := Image.num m (0x2860 + 32 * i) 32

/-- Does PMOD entry `k` hold in the period of index `idx` (Table 06-3)? -/
def Image.pmod (m : Image) (k idx : Nat) : Bool :=
  let v := Image.num m (0x40 + 2 * k) 2
  idx % 2 ^ (v % 16) == v / 16

/-- The base register `i` in a share variant (R132). -/
def Image.base (m : Image) (i variant : Nat) : Nat := Image.num m (0x60 + 8 * i + 4 * variant) 4

/-- The share map's bit for a period (R146). -/
def Image.shareBit (m : Image) (idx : Nat) : Nat := Image.byte m (0x160 + idx / 8 % 512) / 2 ^ (idx % 8) % 2

/-! ### Descriptors (Table 06-7) -/

/-- A channel descriptor. -/
structure ChanDesc where
  chan : Nat
  var : Nat
  nc : Nat
  bulk : Nat
  ofs : Nat
  lines : Nat
  deriving DecidableEq

/-- Channel descriptor `i`. -/
def Image.chan (m : Image) (i : Nat) : ChanDesc :=
  let a := 0x360 + 16 * i
  { chan := Image.byte m a, var := Image.byte m (a + 1), nc := Image.num m (a + 2) 2, bulk := Image.num m (a + 4) 2,
    ofs := Image.num m (a + 8) 4, lines := Image.num m (a + 12) 4 }

/-- The channel descriptors in use: neither marked unused nor all zero. -/
def Image.chans (m : Image) : List ChanDesc :=
  ((List.range 64).map (Image.chan m)).filter fun c =>
    c.chan != 0xFF && c != { chan := 0, var := 0, nc := 0, bulk := 0, ofs := 0, lines := 0 }

/-- A loop descriptor. -/
structure LoopDesc where
  kind : Nat
  chan : Nat
  pmod : Nat
  inSlot : Nat
  outSlot : Nat
  apply : Nat
  latExact : Nat
  latWorst : Nat
  stage : Nat

/-- Loop descriptor `i`. -/
def Image.loop (m : Image) (i : Nat) : LoopDesc :=
  let a := 0x760 + 32 * i
  { kind := Image.byte m a, chan := Image.byte m (a + 1), pmod := Image.byte m (a + 2), inSlot := Image.num m (a + 4) 4,
    outSlot := Image.num m (a + 8) 4, apply := Image.num m (a + 12) 4, latExact := Image.num m (a + 20) 4,
    latWorst := Image.num m (a + 24) 4, stage := Image.byte m (a + 30) }

/-- The loop descriptors in use. -/
def Image.loopList (m : Image) : List LoopDesc := ((List.range 256).map (Image.loop m)).filter fun l => l.kind != 0

/-- A stream descriptor. -/
structure StreamDesc where
  ring : Nat
  depth : Nat
  chan : Nat
  j : Nat
  out : Bool
  sf : Nat

/-- Stream descriptor `i`. -/
def Image.stream (m : Image) (i : Nat) : StreamDesc :=
  let v := Image.num m (0x2760 + 8 * i) 8
  { ring := v % 2 ^ 15, depth := v / 2 ^ 16 % 256, chan := v / 2 ^ 24 % 256, j := v / 2 ^ 32 % 4,
    out := v / 2 ^ 34 % 2 == 1, sf := v / 2 ^ 35 % 32 }

/-- Does an image hold anything? An empty bank reads as zeros and its descriptors as unused. -/
def Image.some (m : Image) : Bool := !m.isEmpty

/-! ### Which engines serve a channel -/

/-- Does the active image of engine `e` hold the canceller of channel `n`? -/
def Dev.hostsCanc (d : Dev) (e n : Nat) : Bool :=
  Image.some (d.active e) && (Image.chans (d.active e)).any fun c => c.chan == n && c.nc != 0

/-- Does the active image of engine `e` describe channel `n`? -/
def Dev.serves (d : Dev) (e n : Nat) : Bool :=
  Image.some (d.active e) && (Image.chans (d.active e)).any fun c => c.chan == n

/-- The engines that hold an image. -/
def Dev.engines (d : Dev) : List Nat := d.eng.filterMap fun p => if Image.some (d.active p.1) then some p.1 else none

/-- Does a halted or muted engine hold the canceller of channel `n` (R141)? -/
def Dev.engFreezes (d : Dev) (n : Nat) : Bool := d.engines.any fun e => (d.engine e).muted && d.hostsCanc e n

/-- Does a halted or muted engine serve channel `n`, so that its output words are zeros (R141)? -/
def Dev.engMutes (d : Dev) (n : Nat) : Bool := d.engines.any fun e => (d.engine e).muted && d.serves e n

/-- Is channel `n` left out of this period of every engine that describes it (R146)? -/
def Dev.notServed (d : Dev) (n : Nat) : Bool :=
  let es := d.engines.filter fun e => d.engState e == 1 && d.serves e n
  !es.isEmpty && es.all fun e =>
    Image.share (d.active e) &&
      (Image.chans (d.active e)).all fun c => c.chan != n || (c.var != 2 && c.var != (d.engine e).variant)

end Sys2Proof.Machine
end

