-- ==== Sys2Proof/Machine/CancOps.lean ====
section
/-! DEFINITION. Feedback cancellation and the stability rule (R100 to R122): taps and their adaptation, estimates, the guard,
oscillation detection, lost feedback and the pilot. -/

namespace Sys2Proof.Machine

/-! ### What stands -/

/-- The canceller of channel `n`. -/
def Dev.canceller (d : Dev) (n : Nat) : CancSt := mat .init d.canc n

/-- Change the canceller of channel `n`. -/
def Dev.setCanc (d : Dev) (n : Nat) (c : CancSt) : Dev := { d with canc := mput .init d.canc n c }

/-- Has channel `n` a canceller (R100)? -/
def Dev.hasCanc (d : Dev) (n : Nat) : Bool :=
  d.chOn n && d.flag (pCh n) R.CH_DEF_SRC_LOCAL && d.fld (pCh n) R.CH_DEF_OUT_MASK != 0

/-- The reference rank of channel `n`: its transmit streams. -/
def Dev.refRank (d : Dev) (n : Nat) : Nat := d.chRank n

/-- Is a transmit gate of channel `n` open? -/
def Dev.outGates (d : Dev) (n : Nat) : Bool :=
  (List.range (d.chRank n)).any fun j => d.gateOpen (d.txConv n j)

/-- The tap budget of a span cap at a rate (Table 05-1): 4.0 µs, SWIFT 3.0 µs, BUDGET 1.5 µs. -/
def nCap (profile k : Nat) : Nat :=
  (if profile = 1 then [11, 23, 46, 92, 184, 368, 737] else if profile = 3 then [23, 46, 92, 184, 368, 737, 1474]
   else [30, 61, 122, 245, 491, 983, 1966]).getD k 0

/-- N_eff of channel `n` (R104): under RESAMP the cap scales with the channel rate. -/
def Dev.nEff (d : Dev) (n : Nat) : Nat :=
  let cap := nCap (d.fld pDev R.DEV_PROFILE_EFF) (d.fld (pCh n) R.CH_DEF_RATE_K)
  let cap :=
    if d.flag (pCh n) R.CH_DEF_RESAMP then
      let step := d.fld (pCh n) R.CH_RS_STEP_STEP
      if d.altPlan (d.rxConv n 0) then cap * 15 * 2 ^ 30 / (16 * step) else cap * 2 ^ 30 / step
    else cap
  min (d.fld (pCh n) R.CH_CANC_CFG_NTAPS) cap

/-- Show N_eff (R104); it takes effect at the engine's next period start (R131). -/
def Dev.showNeff (d : Dev) (n : Nat) : Dev := d.setFld (pCh n) R.CH_CANC_EFF_NEFF (if d.hasCanc n then d.nEff n else 0)

/-- Is the outgoing group of channel `n` in HOLD (R223)? -/
def Dev.outHold (d : Dev) (n : Nat) : Bool := d.grpEff (d.outGroup n) == 5

/-- Is adaptation of channel `n` stopped by event, ADAPT_EN, detection or loss, or by a halted engine (R108, R118, R121, R141)? -/
def Dev.cancFrozen (d : Dev) (n : Nat) : Bool :=
  let c := d.canceller n
  c.frozenEvt || c.frozenDet || c.lost || !d.flag (pCh n) R.CH_CANC_CTL_ADAPT_EN || d.engFreezes n

/-- Show FROZEN. -/
def Dev.showFrozen (d : Dev) (n : Nat) : Dev := d.setFlag (pCh n) R.CH_CANC_STAT_FROZEN (d.cancFrozen n)

/-- Does adaptation stop for a reason outside the canceller: a protective mute, shedding (R164, R179)? -/
def Dev.adaptHeld (d : Dev) (n : Nat) : Bool := d.muted n || d.flag (pCh n) R.CH_GL_STAT_SHED

/-- The key of tap `t` of path (i, j). -/
def tapKey (i j t : Nat) : Nat := (4 * j + i) * 4096 + t

/-! ### The guard (R114, R115) -/

/-- The level `v` limited to a signed Q8.8 register. -/
def sat16 (v : Int) : Int := satS 16 v

/-- The guard limit of channel `n` is formed anew (R114, R121). -/
def Dev.setCap (d : Dev) (n : Nat) : Dev :=
  if !d.hasCanc n then d.setS (pCh n) R.CH_STAB_STAT_CAP 0x7FFF
  else
    let c := d.canceller n
    let i := d.sfld (pCh n) R.CH_CANC_ISO_ISO
    let rule := if c.estOnce then min (i - d.fld (pCh n) R.CH_STAB_CTL_MARGIN + d.fld (pCh n) R.CH_CANC_DEPTH_CREDIT) (i + 30 * 256)
                else d.sfld (pCh n) R.CH_STAB_FLOOR_FLOOR
    d.setS (pCh n) R.CH_STAB_STAT_CAP (sat16 (if c.lost then min rule c.gLost else rule))

/-- The isolation from XG and C_dig is formed anew (R112). -/
def Dev.setIso (d : Dev) (n : Nat) : Dev :=
  d.setS (pCh n) R.CH_CANC_ISO_ISO (sat16 (d.sfld (pCh n) R.CH_CANC_XG_XG - d.sfld (pCh n) R.CH_CANC_ISO_CDIG))

/-- MARGIN, XG or FLOOR has been committed (R115). -/
def Dev.guardCommit (d : Dev) (n : Nat) : Dev :=
  (if (d.canceller n).estOnce then d.setIso n else d).setCap n

/-- The taps of channel `n` are cleared and the canceller enters ACQUIRE (R105, R113). -/
def Dev.tapClear (d : Dev) (n : Nat) : Dev :=
  let d := d.setCanc n { d.canceller n with taps := [], grad := [], psum := [], nupd := [], credOn := false }
  let d := (d.bump (pCh n) R.CH_CANC_CNT_CLEAR).setFld (pCh n) R.CH_CANC_STAT_REGION 0
  let d := (d.setFld (pCh n) R.CH_CANC_STAT_EST_VALID 0).setFld (pCh n) R.CH_CANC_DEPTH_CREDIT 0
  d.setCap n

/-! ### Adaptation (R106) -/

/-- The step shift of the region in effect (Table 05-3). -/
def Dev.muShift (d : Dev) (n : Nat) : Nat :=
  match d.fld (pCh n) R.CH_CANC_STAT_REGION with
  | 0 => d.fld (pCh n) R.CH_CANC_CTL_MU_ACQ
  | 1 => d.fld (pCh n) R.CH_CANC_CTL_MU_TRK
  | _ => d.fld (pCh n) R.CH_CANC_CTL_MU_FINE

/-- A word as a complex number; spoil words enter as zeros (R105). -/
def SampleWord.z (w : SampleWord) : Int × Int := if w.spoil then (0, 0) else (w.i.toInt, w.q.toInt)

/-- The reference words under the taps of transmit stream `i`: u(m − B − t), t below N_eff (R101). -/
def Dev.refWindow (d : Dev) (n i : Nat) : List SampleWord :=
  let l := (mat [] (d.canceller n).ref i).drop (d.fld (pCh n) R.CH_CANC_CFG_BULK)
  (List.range (d.canceller n).eff).map fun t => l.getD t .init

/-- The taps of path (i, j) in effect. -/
def Dev.tapList (d : Dev) (n i j : Nat) : List (Int × Int) :=
  (List.range (d.canceller n).eff).map fun t => mat (0, 0) (d.canceller n).taps (tapKey i j t)

/-- One stream's update instant (R106). -/
def Dev.cancStream (d : Dev) (n j : Nat) : Dev :=
  let c := d.canceller n
  let wins := (List.range (d.refRank n)).map fun i => (i, d.refWindow n i)
  let x := mat .init c.x j
  let y := Config.leak (wins.map fun iw => (d.tapList n iw.1 j, iw.2.map SampleWord.z))
  let e : Int × Int := (satS 16 (x.z.1 - y.1), satS 16 (x.z.2 - y.2))
  let p := wins.foldl (fun s iw => iw.2.foldl (fun s w => s + (w.z.1 * w.z.1 + w.z.2 * w.z.2).toNat) s) 0
  let spoil := x.spoil || wins.any fun iw => iw.2.any (·.spoil)
  let quiet := !d.outGates n || d.outHold n || d.flag pProt (R.PROT_CH_STAT_GATED n) || d.notServed n
  let other := d.cancFrozen n || d.adaptHeld n || spoil || p == 0
  let skipped := d.perf (4 * n + 3) 1
  if quiet then (if d.cancFrozen n || d.adaptHeld n || spoil then skipped.bump (pCh n) R.CH_CANC_SKIP_SKIP else skipped)
  else if other then skipped.bump (pCh n) R.CH_CANC_SKIP_SKIP
  else
    let mu := d.muShift n
    let c := wins.foldl (fun c iw => (iw.2.zip (List.range iw.2.length)).foldl (fun (c : CancSt) wt =>
      let k := tapKey iw.1 j wt.2
      let u := wt.1.z
      let t := Config.nlmsTap mu (mat (0, 0) c.taps k) e u p
      let g := mat (0, 0) c.grad k
      { c with taps := mput (0, 0) c.taps k (satS 32 t.1, satS 32 t.2),
               grad := mput (0, 0) c.grad k (g.1 + e.1 * u.1 + e.2 * u.2, g.2 + e.2 * u.1 - e.1 * u.2) }) c) c
    (d.setCanc n { c with psum := mput 0 c.psum j (mat 0 c.psum j + p), nupd := mput 0 c.nupd j (mat 0 c.nupd j + 1) }).perf
      (4 * n + 2) 1

/-- An update instant of channel `n`: every stream updates or skips (R106). -/
def Dev.cancUpdate (d : Dev) (n : Nat) : Dev :=
  if d.hasCanc n then (List.range (d.chRank n)).foldl (fun d j => d.cancStream n j) d else d

/-! ### Estimates (R107, R112, R113) -/

/-- The region a depth in Q8.8 dB belongs to (Table 05-3). -/
def Dev.regionOf (d : Dev) (n depth : Nat) : Nat :=
  if depth < d.fld (pCh n) R.CH_CANC_CTL_DEPTH_ACQ * 256 then 0
  else if depth < d.fld (pCh n) R.CH_CANC_CTL_DEPTH_FINE * 256 then 1 else 2

/-- The residual power of the frame in Q8.8 dB on the scale of R70: the mean of I² + Q² over 2^30 · 0.25. -/
def CancSt.residDb (c : CancSt) : Int := dbOf c.residSum (c.residN * 2 ^ 28)

/-- Has every stream of channel `n` had the updates an estimate needs (R112)? -/
def Dev.estReady (d : Dev) (n : Nat) : Bool :=
  (List.range (d.chRank n)).all fun j => decide (1024 ≤ mat 0 (d.canceller n).nupd j)

/-- The estimate of a frame (R112, R113): made when every stream had 1,024 updates, else held and counted. -/
def Dev.estimate (d : Dev) (n : Nat) : Dev × Bool :=
  let c := d.canceller n
  let clear (c : CancSt) : CancSt := { c with grad := [], psum := [], nupd := [], residSum := 0, residN := 0 }
  if !d.estReady n then ((d.setCanc n (clear c)).bump (pCh n) R.CH_CANC_CNT_HELD, false)
  else
    let bulk := d.fld (pCh n) R.CH_CANC_CFG_BULK
    let cdig := sat16 (Config.cdig (d.chRank n) bulk (c.taps.filter fun e => decide (e.1 % 4096 < c.eff)))
    let cres := sat16 (Config.cres (d.chRank n) bulk c.grad c.psum)
    let depth := (min (45 * 256) (max 0 (cdig - cres))).toNat
    let first := !c.credOn
    let cred := d.fld (pCh n) R.CH_CANC_DEPTH_CREDIT
    let cred' := if first then 0 else if depth ≤ cred then depth else min depth (cred + 768)
    let d := (d.setS (pCh n) R.CH_CANC_ISO_CDIG cdig).setIso n
    let d := (d.setFld (pCh n) R.CH_CANC_DEPTH_DEPTH depth).setFld (pCh n) R.CH_CANC_DEPTH_CREDIT cred'
    let d := (d.setS (pCh n) R.CH_CANC_RESID_CRES cres).setS (pCh n) R.CH_CANC_RESID_RESPWR c.residDb
    let d := (d.setFld (pCh n) R.CH_CANC_STAT_EST_VALID 1).setFld (pCh n) R.CH_CANC_STAT_REGION (d.regionOf n depth)
    let same := if !c.estOnce || c.residDb ≠ c.resPrev || (c.ref.all fun e => e.2.all fun w => w.z == (0, 0)) then 1 else c.resSame + 1
    (d.setCanc n { clear c with estOnce := true, estSince := true, credOn := true, resPrev := c.residDb, resSame := same }, true)

/-! ### Lost feedback (R120 to R122) -/

/-- The causes that hold on channel `n`: bit 0 frozen input, 1 stuck residual, 2 stale estimate (R120). -/
def Dev.lostCauses (d : Dev) (n : Nat) : Nat :=
  let c := d.canceller n
  (if (List.range (d.chRank n)).any fun j => decide (64 ≤ mat 0 c.sameRun j) then 1 else 0) +
    (if 8 ≤ c.resSame then 2 else 0) + (if 2 ≤ c.stale then 4 else 0)

/-- Feedback is found lost, or its causes change (R121, R122). -/
def Dev.lostJudge (d : Dev) (n : Nat) : Dev :=
  let m := d.lostCauses n
  let d := d.setFld (pCh n) R.CH_CANC_STAT_LOST_CAUSE m
  if m = 0 ∨ (d.canceller n).lost = true then d
  else
    let d := d.setCanc n { d.canceller n with lost := true, hold := 2, clean := 0, gLost := d.sfld (pCh n) R.CH_GL_GAIN_APPLIED }
    let d := (d.setFld (pCh n) R.CH_CANC_STAT_LOST 1).setFld (pCh n) R.CH_CANC_STAT_LOST_SEEN 1
    let d := ((d.bump (pCh n) R.CH_CANC_CNT2_LOST).raiseEvt (pCh n) 2).levelOn 112 (pCh n)
    (d.showFrozen n).setCap n

/-- Lost-feedback handling at a frame boundary (R121). -/
def Dev.lostBoundary (d : Dev) (n : Nat) : Dev :=
  let c := d.canceller n
  if !c.lost then d
  else
    let floor := d.sfld (pCh n) R.CH_STAB_FLOOR_FLOOR
    let d :=
      if d.lostCauses n ≠ 0 then
        d.setCanc n { c with clean := 0, hold := c.hold - 1,
                             gLost := if c.hold = 0 ∧ floor < c.gLost then max (c.gLost - 256) floor else c.gLost }
      else if 8 ≤ c.clean + 1 then
        (((d.setCanc n { c with clean := c.clean + 1, lost := false, credOn := false }).setFld (pCh n) R.CH_CANC_DEPTH_CREDIT 0).setFld
          (pCh n) R.CH_CANC_STAT_LOST 0).levelOff 112 (pCh n)
      else d.setCanc n { c with clean := c.clean + 1 }
    (d.showFrozen n).setCap n

/-! ### Oscillation (R117 to R119) -/

/-- Is oscillation detected on a stream whose last coarse values are `l`, newest first (R117)? -/
def Dev.oscillates (d : Dev) (n : Nat) (l : List Coarse) : Bool :=
  match l with
  | [] => false
  | v :: _ =>
    let grow : Int := d.fld (pCh n) R.CH_OSC_CTL_GROW * 64
    let crest : Int := d.fld (pCh n) R.CH_OSC_CTL_CREST * 64
    d.outGates n && l.length == 17 && (l.all (·.valid)) && decide (grow < v.power - (l.getD 16 .init).power) &&
      ((l.take 4).all fun w => decide (w.peak - w.power ≤ crest)) && decide (d.sfld (pCh n) R.CH_OSC_CTL_FLOOR < v.power)

/-- Oscillation is detected: credit zero, adaptation frozen, and the channel mute (R118, R119). -/
def Dev.oscillation (d : Dev) (n : Nat) : Dev :=
  if d.muted n then d.verdict 1
  else
    let d := d.setFld (pCh n) R.CH_CANC_DEPTH_CREDIT 0
    let d := d.setCanc n { d.canceller n with frozenDet := true, credOn := false }
    let d := ((d.setFld (pCh n) R.CH_CANC_STAT_OSC 1).bump (pCh n) R.CH_CANC_CNT2_OSC).raiseEvt (pCh n) 1
    ((d.showFrozen n).setCap n).tripChannel n 1

/-- A coarse value of stream `j` reaches the canceller: the frozen-input count, then oscillation detection (R117, R120). -/
def Dev.cancCoarse (d : Dev) (n j : Nat) (v : Coarse) : Dev :=
  if !d.hasCanc n then d
  else
    let c := d.canceller n
    let l := (v :: mat [] c.coarse j).take 17
    let run := match mat [] c.coarse j with
      | w :: _ => if v.valid && w.valid && v.power == w.power then mat 0 c.sameRun j + 1 else if v.valid then 1 else 0
      | [] => if v.valid then 1 else 0
    let d := d.setCanc n { c with coarse := mput [] c.coarse j l, sameRun := mput 0 c.sameRun j run }
    let d := d.lostJudge n
    if d.oscillates n l then d.oscillation n else d

/-! ### The pilot (R109 to R111) -/

/-- Chip `k` of the maximal-length sequence of x^15 + x^14 + 1 from a nonzero state. -/
def prbs15 : Nat → Nat → Nat
  | 0, s => s
  | k + 1, s => prbs15 k (s * 2 % 32768 + (s / 16384 % 2 + s / 8192 % 2) % 2)

/-- Is the pilot called for: MODE on, or auto with its condition met (R111)? -/
def Dev.pilotWanted (d : Dev) (n : Nat) : Bool :=
  match d.fld (pCh n) R.CH_PILOT_CTL_MODE with
  | 1 => true
  | 2 => (d.canceller n).pilotWant
  | _ => false

/-- May the pilot be injected in this frame at all (R108, R111)? -/
def Dev.pilotOn (d : Dev) (n : Nat) : Bool :=
  d.hasCanc n && d.pilotWanted n && !d.cancFrozen n && !d.adaptHeld n && d.fld (pCh n) R.CH_PILOT_LEN_LEN != 0

/-- Is the pilot in its window at tick `t` of the frame (R111)? -/
def Dev.pilotWindow (d : Dev) (n t : Nat) : Bool :=
  let r := t % (61440 * 2 ^ d.fld (pCh n) R.CH_PILOT_CTL_PER)
  let o := d.fld (pCh n) R.CH_PILOT_OFS_OFS
  decide (o ≤ r ∧ r < o + d.fld (pCh n) R.CH_PILOT_LEN_LEN)

/-- The pilot's auto condition at a frame boundary: on for the next frame when the estimate was short of updates or the reference
was too narrow, off after four frames in which neither held (R111). -/
def Dev.pilotJudge (d : Dev) (n : Nat) (short : Bool) : Dev :=
  let c := d.canceller n
  let peaky := Config.refPeaky (c.ref.map fun e => e.2.map SampleWord.z)
  if short || peaky then d.setCanc n { c with pilotWant := true, pilotQuiet := 0 }
  else if 4 ≤ c.pilotQuiet + 1 then d.setCanc n { c with pilotWant := false, pilotQuiet := 4 }
  else d.setCanc n { c with pilotQuiet := c.pilotQuiet + 1 }

/-! ### Once per frame -/

/-- The estimate of channel `n` in the period with FRAME_MARK set (R107, R112 to R115, R120); says whether it is valid. -/
def Dev.cancEstimate (d : Dev) (n : Nat) : Dev × Bool :=
  if !d.hasCanc n then (d, false)
  else
    let e := d.estimate n
    (((e.1.setCap n).lostJudge n), e.2)

/-- What the canceller of channel `n` does at a frame boundary: the count of stale frames, lost feedback, the guard, the pilot
(R111, R120, R121). -/
def Dev.cancBoundary (d : Dev) (n : Nat) : Dev :=
  if !d.hasCanc n then d
  else
    let short := !d.estReady n
    let c := d.canceller n
    let open' := c.gateSeen || d.outGates n
    let d := d.setCanc n { c with stale := if c.estSince then 0 else if open' then c.stale + 1 else c.stale,
                                  gateSeen := d.outGates n, estSince := false }
    let d := (d.lostBoundary n).lostJudge n
    let d := (d.setCap n).pilotJudge n short
    d.setFlag (pCh n) R.CH_CANC_STAT_PILOT_ON (d.pilotOn n)

/-- A CANC_FREEZE or CANC_RELEASE takes effect (R108). -/
def Dev.cancFreeze (d : Dev) (n : Nat) (on : Bool) : Dev :=
  (d.setCanc n { d.canceller n with frozenEvt := on }).showFrozen n

end Sys2Proof.Machine
end

