-- ==== Sys2Proof/Machine/GainOps.lean ====
section
/-! DEFINITION. Gain (R150 to R169), the site energy budget (R160 to R164), uplink gating (R186 to R188), and the verdicts they
feed (R175, R176). -/

namespace Sys2Proof.Machine

/-! ### Numbers -/

/-- A Q16.16 dB value as Q8.8: rounded convergently and saturated (R152). -/
def q16to8 (v : Int) : Int := satS 16 (roundConv v 8)

/-- A Q8.8 dB value as Q16.16. -/
def q8to16 (v : Int) : Int := v * 256

/-- The mean power of `cnt` words of power sum `sum`, in Q8.8 dB on the scale of R70; −128 dB for none (R152). -/
def meanDb (sum cnt : Nat) : Int := dbOf sum (cnt * 2 ^ 28)

/-- The gain state of channel `n`. -/
def Dev.gainSt (d : Dev) (n : Nat) : GainSt := mat .init d.gain n

/-- Change the gain state of channel `n`. -/
def Dev.setGain (d : Dev) (n : Nat) (g : GainSt) : Dev := { d with gain := mput .init d.gain n g }

/-- INREF of channel `n`, Q8.8 dBm. -/
def Dev.inref (d : Dev) (n : Nat) : Int := d.sfld (pCh n) R.CH_GL_INREF_INREF

/-! ### Shedding (R163, R164) -/

/-- The shed level in effect: the larger of the site's and that of the thermal ladder (R163). -/
def Dev.shedLevel (d : Dev) : Nat :=
  let t := d.fld pTherm R.THERM_STAT_STEP
  max d.energy.siteShed (if t = 4 then 3 else if t = 3 then 2 else 0)

/-- Should channel `n` be shed (Table 07-2)? -/
def Dev.shedWanted (d : Dev) (n : Nat) : Bool :=
  d.chOn n && decide (d.shedLevel ≠ 0 ∧ 4 ≤ d.fld (pCh n) R.CH_DEF_PRIO + d.shedLevel)

/-- Channel `n` enters or leaves shed as the level in effect has it (R163, R164). -/
def Dev.shedJudge (d : Dev) (n : Nat) : Dev :=
  let want := d.shedWanted n
  if d.flag (pCh n) R.CH_GL_STAT_SHED = want then d
  else if want then
    ((((d.setFld (pCh n) R.CH_GL_STAT_SHED 1).bump (pCh n) R.CH_GL_CNT2_SHED).raiseEvt (pCh n) 4).setFlag (pCh n)
      R.CH_CANC_STAT_PILOT_ON false).stir (pCh n)
  else
    ((d.setFld (pCh n) R.CH_GL_STAT_SHED 0).setGain n
      { d.gainSt n with ramp := some (d.sfld (pCh n) R.CH_STAB_FLOOR_FLOOR) }).stir (pCh n)

/-- Every channel enters or leaves shed. -/
def Dev.shedAll (d : Dev) : Dev := (List.range 192).foldl Dev.shedJudge d

/-! ### The applied gain (R150) -/

/-- The most negative trim among the ports of channel `n` (R150). -/
def Dev.tPort (d : Dev) (n : Nat) : Int :=
  if d.fld (pCh n) R.CH_DEF_OUT_MASK = 0 then 0
  else (List.range (d.chRank n)).foldl (fun t j => min t (d.sfld (pConv (d.txConv n j)) R.DAC_PP_STAT_TRIM)) 0

/-- The backoffs of R150: site, thermal and profile. -/
def Dev.backoffs (d : Dev) : Int :=
  d.energy.siteBackoff + (if 2 ≤ d.fld pTherm R.THERM_STAT_STEP then 768 else 0) + (if d.inBudget then 768 else 0)

/-- L_nr as it reads: +127.996 dB while not enabled (R150). -/
def Dev.lNr (d : Dev) (n : Nat) : Int :=
  if d.flag (pCh n) R.CH_GL_CTL_NR_EN then q16to8 (d.gainSt n).lNr else 0x7FFF

/-- G_loop of channel `n` with the term that sets it: 0 G_req, 1 L_stab, 2 L_nr. -/
def Dev.gLoop (d : Dev) (n : Nat) : Int × Nat :=
  let a := d.sfld (pCh n) R.CH_GL_GAIN_REQ
  let b := q16to8 (d.gainSt n).lStab
  let c := d.lNr n
  if a ≤ b ∧ a ≤ c then (a, 0) else if b ≤ c then (b, 1) else (c, 2)

/-- The composition of R150 before the fast attenuation, with the term that sets it (Table 07-4). -/
def Dev.composition (d : Dev) (n : Nat) : Int × Nat :=
  let l := d.gLoop n
  let t := d.tPort n
  let b := d.backoffs
  let v := l.1 + t - b
  let cap := d.sfld (pCh n) R.CH_STAB_STAT_CAP
  if cap < v then (cap, 3)
  else (max v (-32768), if t = 0 ∧ b = 0 then l.2 else if b < -t then 4 else 5)

/-- The fast attenuation in force (R155). -/
def Dev.aFast (d : Dev) (n : Nat) : Int := if d.flag (pCh n) R.CH_GL_CTL_FAST_EN then (d.gainSt n).aFast else 0

/-- Do the incoming and outgoing groups of channel `n` let its words through (R223)? -/
def Dev.relayPath (d : Dev) (n : Nat) : Bool :=
  d.grpEff (d.outGroup n) == 4 && (!d.flag (pCh n) R.CH_DEF_SRC_LOCAL || d.grpEff (d.inGroup n) == 4)

/-- Does the gain stage of channel `n` deliver other words than zeros (R150, R164, R179, R223)? -/
def Dev.relays (d : Dev) (n : Nat) : Bool :=
  d.chOn n && d.relayPath n && !d.muted n && !d.flag (pCh n) R.CH_GL_STAT_SHED

/-- G is formed for one channel sample (R150, R151): a lower value applies in full, a higher one in steps of 0.25 dB; a restart
rises below its own limit (R164, R185). -/
def Dev.formGain (d : Dev) (n : Nat) : Dev :=
  let g := d.gainSt n
  let c := d.composition n
  let a := d.aFast n
  let full := max (c.1 - a) (-32768)
  let goal := match g.ramp with
    | some r => min full r
    | none => full
  let now := if goal < g.applied then goal else min goal (g.applied + 64)
  let g : GainSt := { g with applied := now, gHi := max g.gHi now, gSum := g.gSum + now, gCnt := g.gCnt + 1 }
  let limit := if d.muted n || d.flag (pCh n) R.CH_GL_STAT_SHED then 7 else if a ≠ 0 then 6 else c.2
  let d := (d.setGain n g).setS (pCh n) R.CH_GL_GAIN_APPLIED now
  let d := (d.setFld (pCh n) R.CH_GL_STAT_LIMIT limit).setFlag (pCh n) R.CH_GL_STAT_FAST (decide (a ≠ 0))
  d.setS (pCh n) R.CH_STAB_STAT_HEAD (sat16 (d.sfld (pCh n) R.CH_STAB_STAT_CAP - now))

/-! ### Fast gain protection (R155) -/

/-- A coarse value of channel `n` meets the fast gain protection. G is taken without the fast attenuation (log entry 24). -/
def Dev.fastGain (d : Dev) (n : Nat) (v : Coarse) : Dev :=
  if !v.valid || !d.flag (pCh n) R.CH_GL_CTL_FAST_EN then d
  else
    let lim : Int := d.sfld (pCh n) R.CH_GL_LVL_PMAX + d.fld (pCh n) R.CH_GL_FAST_OVER * 64
    let x := v.power + d.inref n + (d.composition n).1 - lim
    if x ≤ 0 then d
    else
      let g := d.gainSt n
      let want := (x + 127) / 128 * 128
      let d := if g.aFast = 0 then d.bump (pCh n) R.CH_GL_CNT_FAST else d
      (d.setGain n { g with aFast := max g.aFast want, fastHit := true }).setFld (pCh n) R.CH_GL_STAT_FAST 1

/-! ### Uplink gating (R186, R187) -/

/-- Is the gain-stage output of channel `n` gated on user energy (R186)? -/
def Dev.ulgOn (d : Dev) (n : Nat) : Bool :=
  d.chOn n && d.chUp n && d.flag pProt ((R.PROT_ULG_EN_EN (n / 32)).bit (n % 32))

/-- Show whether channel `n` stands in LISTEN. -/
def Dev.showGated (d : Dev) (n : Nat) : Dev :=
  (d.setFlag pProt (R.PROT_CH_STAT_GATED n) (d.ulgOn n && !(d.gainSt n).ulRelay)).stir (pCh n)

/-- A block of words reaches the gating detector of channel `n` (R187). -/
def Dev.ulgBlock (d : Dev) (n : Nat) (ws : List SampleWord) : Dev :=
  if !d.ulgOn n then d
  else
    let good := ws.filter fun w => !w.spoil
    let p := meanDb (good.foldl (fun s w => s + (w.z.1 * w.z.1 + w.z.2 * w.z.2).toNat) 0) good.length + d.inref n
    match (d.gainSt n).nIn with
    | none => d
    | some f =>
      if !good.isEmpty && !(d.gainSt n).ulRelay && decide (f + d.fld pProt R.PROT_ULG_THR * 64 < p) then
        ((d.setGain n { d.gainSt n with ulRelay := true }).bump pProt R.PROT_CNT_C_UL_BURSTS).showGated n
      else d

/-- The hang of channel `n` expires: it returns to LISTEN (R187). -/
def Dev.ulgListen (d : Dev) (n : Nat) : Dev :=
  if d.ulgOn n && (d.gainSt n).ulRelay then (d.setGain n { d.gainSt n with ulRelay := false }).showGated n else d

/-- The gate factor moves by one channel sample, in 1/64 (R186). -/
def Dev.ulgRamp (d : Dev) (n : Nat) : Dev :=
  let g := d.gainSt n
  let step := 2 ^ (6 - d.fld pProt R.PROT_ULG_GRAMP)
  let goal := if !d.ulgOn n || g.ulRelay then 64 else 0
  d.setGain n { g with ulFactor := if g.ulFactor < goal then min goal (g.ulFactor + step) else max goal (g.ulFactor - step) }

/-! ### The gain stage (R109, R138, R150, R151) -/

/-- The chip of channel `n` at tick `t` of a frame: one per channel sample since tick 0 (R109). -/
def Dev.chipAt (d : Dev) (n t : Nat) : Nat :=
  let k := d.fld (pCh n) R.CH_DEF_RATE_K
  if d.flag (pCh n) R.CH_DEF_RESAMP then t * 2 ^ 30 / (2 ^ (6 - k) * max 1 (d.fld (pCh n) R.CH_RS_STEP_STEP))
  else t / 2 ^ (6 - k)

/-- A chip of the maximal-length sequence as a sign times an amplitude. -/
def pilotChip (amp : Int) (k : Nat) : Int :=
  let seed := if Config.pilotSeed = 0 then 1 else Config.pilotSeed.toNat
  if (prbs15 (k % 32767) seed % 2 == 0) == Config.pilotSign then -amp else amp

/-- The pilot of transmit stream `i` of channel `n` at tick `t` (R109, R110): Q lags I by 16,384 chips. -/
def Dev.pilotWord (d : Dev) (n i t : Nat) : Int × Int :=
  let amp : Int := (Config.pilotAmp (d.sfld (pCh n) R.CH_GL_LVL_PMAX - d.inref n - d.sfld (pCh n) R.CH_CANC_XG_XG -
    (40 + d.fld (pCh n) R.CH_PILOT_CTL_ATT) * 256)).toNat
  let k := d.chipAt n t + 8192 * i
  (pilotChip amp k, pilotChip amp (k + 16383))

/-- Is the pilot injected on transmit stream `j` of channel `n` now (R111)? -/
def Dev.pilotNow (d : Dev) (n j : Nat) : Bool :=
  d.pilotOn n && d.pilotWindow n d.frame.tick && d.gateOpen (d.txConv n j)

/-- The output word of the gain stage for input word `w`, with clamps: gain, pilot, gate factor (R151, R109, R186). -/
def Dev.gainWord (d : Dev) (n j : Nat) (w : SampleWord) : SampleWord × Nat :=
  if !d.relays n then (mkWord 0 0, 0)
  else if w.spoil then (spoilWord, 0)
  else
    let g := d.gainSt n
    let f := gainFactor (g.applied - d.sfld (pCh n) R.CH_CANC_XG_XG)
    let zero := decide (g.applied = -32768)
    let y := reducePair 0 16 (if zero then (0, 0) else (applyFactor f w.z.1, applyFactor f w.z.2))
    let p := if d.pilotNow n j then d.pilotWord n j d.frame.tick else (0, 0)
    let u := reducePair 0 16 (y.1.1 + p.1, y.1.2 + p.2)
    let v := reducePair 6 16 (u.1.1 * g.ulFactor, u.1.2 * g.ulFactor)
    (mkWord v.1.1 v.1.2, if y.2 + u.2 = 0 then 0 else 1)

/-- A word joins the reference history of stream `j` of channel `n` (R101). -/
def Dev.refPush (d : Dev) (n j : Nat) (w : SampleWord) : Dev :=
  if !d.hasCanc n then d
  else
    let c := d.canceller n
    d.setCanc n { c with ref := mput [] c.ref j ((w :: mat [] c.ref j).take (d.fld (pCh n) R.CH_CANC_CFG_BULK + c.eff + 1)) }

/-- A word of stream `j` of channel `n` enters the gain stage from the junction. -/
def Dev.gainStage (d : Dev) (n j : Nat) (w : SampleWord) : Dev :=
  if d.fld (pCh n) R.CH_DEF_OUT_MASK = 0 then d
  else
    let d := if j = 0 then (d.formGain n).ulgRamp n else d
    let g := d.gainSt n
    let pow (x : SampleWord) : Nat := if x.spoil then 0 else (x.z.1 * x.z.1 + x.z.2 * x.z.2).toNat
    let o := d.gainWord n j w
    let g : GainSt := { g with inSum := g.inSum + pow w, inCnt := g.inCnt + (!w.spoil).toNat,
                               outSum := g.outSum + pow o.1, outCnt := g.outCnt + (!o.1.spoil).toNat }
    ((((d.setGain n g).addSat n o.2).refPush n j o.1).txPush n j o.1).snapPush n j 2 o.1

/-! ### The level loop (R153, R154, R165 to R168) -/

/-- A saturation of engine `e`'s stage sets its sticky flag (R129). -/
def Dev.stageSat (d : Dev) (e stage : Nat) : Dev :=
  let s := stage % 64
  d.setFld (pEng e) ((if s < 32 then R.ENG_SAT_LO_STAGE else R.ENG_SAT_HI_STAGE).bit (s % 32)) 1

/-- A value limited to ±`m`, and whether it was. -/
def satTo (m v : Int) : Int × Bool := if m < v then (m, true) else if v < -m then (-m, true) else (v, false)

/-- Is the level loop of channel `n` held (R154, R223)? -/
def Dev.levelHeld (d : Dev) (n : Nat) : Bool :=
  d.flag (pCh n) R.CH_GL_STAT_HELD || d.flag (pCh n) R.CH_GL_STAT_SHED || d.flag pProt (R.PROT_CH_STAT_GATED n) ||
    d.outHold n || d.notServed n || !d.flag (pCh n) R.CH_GL_CTL_LVL_EN

/-- Is region `r` of channel `n` valid and does it contain a key, its bounds widened by `h` (R165)? -/
def Dev.inRegion (d : Dev) (n r : Nat) (h k1 k2 : Int) : Bool :=
  d.flag (pCh n) (R.CH_GL_REG_LIM_VALID r) &&
    decide (d.sfld (pCh n) (R.CH_GL_REG_PIN_PIN_LO r) - h ≤ k1 ∧ k1 ≤ d.sfld (pCh n) (R.CH_GL_REG_PIN_PIN_HI r) + h ∧
      d.sfld (pCh n) (R.CH_GL_REG_IM_IM_LO r) - h ≤ k2 ∧ k2 ≤ d.sfld (pCh n) (R.CH_GL_REG_IM_IM_HI r) + h)

/-- The region selector of channel `n` evaluates its key (R165). -/
def Dev.selectRegion (d : Dev) (n : Nat) : Dev :=
  if d.chUp n || !d.flag (pCh n) R.CH_GL_CTL_REGION_EN then
    if d.fld (pCh n) R.CH_GL_STAT_REGION = 0 then d
    else (d.setFld (pCh n) R.CH_GL_STAT_REGION 0).setGain n { d.gainSt n with coefNew := true }
  else
    let k1 := d.sfld (pCh n) R.CH_GL_PWR_PIN
    let k2 := d.sfld (pCh n) R.CH_CANC_ISO_ISO - d.sfld (pCh n) R.CH_GL_GAIN_APPLIED
    let cur := d.fld (pCh n) R.CH_GL_STAT_REGION
    if d.inRegion n cur (d.fld (pCh n) R.CH_GL_CTL_HYST * 32) k1 k2 then d.setFld (pCh n) R.CH_GL_STAT_NOREGION 0
    else match (List.range 64).find? fun r => d.inRegion n r 0 k1 k2 with
      | none => d.setFld (pCh n) R.CH_GL_STAT_NOREGION 1
      | some r =>
        let d := d.setFld (pCh n) R.CH_GL_STAT_NOREGION 0
        if r = cur then d
        else ((d.setFld (pCh n) R.CH_GL_STAT_REGION r).bump (pCh n) R.CH_GL_CNT_REGION_CHG).setGain n
          { d.gainSt n with coefNew := true }

/-- The coefficients of the active region take the place of those in force, with bumpless transfer once an update has been made
(R166). -/
def Dev.transfer (d : Dev) (n : Nat) : Dev :=
  let g := d.gainSt n
  if !g.coefNew then d
  else
    let r := d.fld (pCh n) R.CH_GL_STAT_REGION
    let kp := d.fld (pCh n) (R.CH_GL_REG_K_KP r)
    let ki := d.fld (pCh n) (R.CH_GL_REG_K_KI r)
    let imax := d.fld (pCh n) (R.CH_GL_REG_LIM_IMAX r)
    let ffw := if d.flag (pCh n) R.CH_GL_CTL_FF_EN then d.fld (pCh n) (R.CH_GL_REG_LIM_FFW r) else 0
    let integ := match g.eLast with
      | none => (satTo (q8to16 imax) g.integ).1
      | some e =>
        let ff := ratio (ffw * (q8to16 (d.sfld (pCh n) R.CH_GL_LVL_TGT) - g.pinLast)) 128
        (satTo (q8to16 imax) (g.gReq - ff - ratio (kp * e) 16384)).1
    d.setGain n { g with kp := kp, ki := ki, imax := imax, ffw := ffw, integ := integ, coefNew := false }

/-- G_req takes a value of Q16.16 dB (R152). -/
def Dev.applyReq (d : Dev) (n : Nat) (v : Int) : Dev :=
  (d.setGain n { d.gainSt n with gReq := v }).setS (pCh n) R.CH_GL_GAIN_REQ (q16to8 v)

/-- The law of R153 on input and output power, Q8.8 dBm; saturations set flags of engine `e` from stage `stage` on. -/
def Dev.levelLaw (d : Dev) (e stage n : Nat) (pin pout : Int) : Dev :=
  let g := d.gainSt n
  let tgt := q8to16 (d.sfld (pCh n) R.CH_GL_LVL_TGT)
  let p := q8to16 pin
  let mean := ratio (q8to16 g.gSum) g.gCnt
  let err := tgt - (q8to16 pout + (g.gReq - mean))
  let ff := ratio (g.ffw * (tgt - p)) 128
  let i := satTo (q8to16 g.imax) (g.integ + ratio (g.ki * err) 16384)
  let q := satTo (2 ^ 31 - 1) (ff + ratio (g.kp * err) 16384 + i.1)
  let lo := q8to16 (d.sfld (pCh n) R.CH_GL_GLIM_GMIN)
  let hi := q8to16 (d.sfld (pCh n) R.CH_GL_GLIM_GMAX)
  let out := min (min (max q.1 lo) hi) (q8to16 (d.sfld (pCh n) R.CH_GL_LVL_PMAX) - p)
  let d := if i.2 then d.stageSat e (stage + 1) else d
  let d := if q.2 then d.stageSat e (stage + 2) else d
  (d.setGain n { g with integ := i.1, eLast := some err, pinLast := p }).applyReq n out

/-- PWR is judged at a level update (Table 08-2). -/
def Dev.judgePwr (d : Dev) (n : Nat) (pout : Int) : Dev :=
  if d.muted n || !d.flag pProt R.PROT_CTL_PWR_EN then d.setGain n { d.gainSt n with pwrRun := 0 }
  else
    let lim : Int := d.sfld (pCh n) R.CH_GL_LVL_PMAX + d.fld pProt R.PROT_THR_A_PWR_OVER * 64
    let run := if lim < pout then (d.gainSt n).pwrRun + 1 else 0
    let d := d.setGain n { d.gainSt n with pwrRun := run }
    if run ≠ 0 ∧ d.fld pProt R.PROT_THR_B_PWR_N ≤ run then (d.setGain n { d.gainSt n with pwrRun := 0 }).tripChannel n 3 else d

/-- Is the present time in an uplink slot (R158)? Codes 0b10 and 0b11 may be. -/
def Dev.uplinkSlot (d : Dev) : Bool := decide (2 ≤ d.slotCode d.now)

/-- A level update of channel `n` (R153 to R155, R158, R164 to R168, R185). -/
def Dev.levelUpdate (d : Dev) (e stage n : Nat) : Dev :=
  if !d.chOn n then d
  else
    let g := d.gainSt n
    let d := if g.holdReq then d.setFld (pCh n) R.CH_GL_STAT_HELD 1 else d
    let d := if g.relReq then d.setFld (pCh n) R.CH_GL_STAT_HELD 0 else d
    let d := d.setGain n { g with holdReq := false, relReq := false, coefNew := g.coefNew || g.relReq }
    let d := d.selectRegion n
    let d := if d.flag (pCh n) R.CH_GL_STAT_HELD then d else d.transfer n
    let g := d.gainSt n
    let pin := sat16 (meanDb g.inSum g.inCnt + d.inref n)
    let pout := sat16 (meanDb g.outSum g.outCnt + d.inref n + d.sfld (pCh n) R.CH_CANC_XG_XG)
    let d := if d.levelHeld n || g.inCnt == 0 || g.gCnt == 0 then d else d.levelLaw e stage n pin pout
    let d := if g.inCnt = 0 then d else d.setS (pCh n) R.CH_GL_PWR_PIN pin
    let d := if g.outCnt = 0 then d else d.setS (pCh n) R.CH_GL_PWR_POUT pout
    let g := d.gainSt n
    let least := match g.winMin with
      | some m => min m pin
      | none => pin
    let full := (d.composition n).1
    let d := d.setGain n { g with
      aFast := if g.fastHit then g.aFast else max 0 (g.aFast - d.fld (pCh n) R.CH_GL_FAST_DECAY * 32), fastHit := false,
      ramp := match g.ramp with
        | some r => if full ≤ min r full + 256 then none else some (min r full + 256)
        | none => none,
      winMin := if d.chUp n && d.uplinkSlot && g.inCnt != 0 then some least else g.winMin,
      inSum := 0, inCnt := 0, outSum := 0, outCnt := 0, gSum := 0, gCnt := 0 }
    if g.outCnt = 0 then d else d.judgePwr n pout

/-! ### Stability margin and noise rise (R156 to R158) -/

/-- The stability-margin loop of channel `n` (R156). -/
def Dev.stabUpdate (d : Dev) (n : Nat) : Dev :=
  if !d.chOn n then d
  else
    let g := d.gainSt n
    let t := q8to16 (d.sfld (pCh n) R.CH_STAB_STAT_CAP - d.fld (pCh n) R.CH_GL_STAB_BACK)
    d.setGain n { g with lStab := if t < g.lStab then t else min t (g.lStab + d.fld (pCh n) R.CH_GL_STAB_RISE * 1024) }

/-- The noise floor the noise-rise loop and NRISE work on: the sum of R191 where the channel takes haul inputs. -/
def Dev.floorOf (d : Dev) (n : Nat) : Option Int :=
  if d.fld (pCh n) R.CH_DEF_SRC_HAUL = 0 then (d.gainSt n).nIn
  else
    let s := d.sfld pProt (R.PROT_CH_NR_NSUM n)
    if dbNone s then none else some s

/-- N_max of channel `n`, Q16.16 dBm (R157). -/
def Dev.nMax (d : Dev) (n : Nat) : Int :=
  q8to16 (d.sfld (pCh n) R.CH_GL_NR_BS_NBS) + Config.noiseRise (d.fld (pCh n) R.CH_GL_NR_BUD_BUDGET)

/-- Show L_nr. -/
def Dev.showLnr (d : Dev) (n : Nat) : Dev := d.setS (pCh n) R.CH_GL_NR_LNR (d.lNr n)

/-- The noise-rise loop of channel `n` (R157). -/
def Dev.nrUpdate (d : Dev) (n : Nat) : Dev :=
  if d.chOn n && d.chUp n && d.flag (pCh n) R.CH_GL_CTL_NR_EN then
    match d.floorOf n with
    | none => d
    | some f =>
      (d.setGain n { d.gainSt n with
        lNr := d.nMax n + q8to16 (d.sfld (pCh n) R.CH_GL_NR_BUD_PL) - q8to16 f }).showLnr n
  else d

/-- The noise floor estimate of a frame (R158). -/
def Dev.floorTake (d : Dev) (n : Nat) : Dev :=
  match (d.gainSt n).winMin with
  | none => d
  | some m => (d.setGain n { d.gainSt n with nIn := some m, winMin := none }).setS (pCh n) R.CH_GL_NR_NIN m

/-- NRISE is judged at a frame boundary (Table 08-2, R192): `stuck` says that no branch can be attenuated further. -/
def Dev.judgeNrise (d : Dev) (n : Nat) (stuck : Bool) : Dev :=
  if !(d.chOn n && d.chUp n && d.flag (pCh n) R.CH_GL_CTL_NR_EN && d.flag pProt R.PROT_CTL_NR_EN) || d.muted n || !stuck then d
  else match d.floorOf n with
    | none => d
    | some f =>
      let lhs := q8to16 (f + d.sfld (pCh n) R.CH_GL_GAIN_APPLIED - d.sfld (pCh n) R.CH_GL_NR_BUD_PL)
      let lim := d.nMax n + q8to16 (d.fld pProt R.PROT_THR_A_NR_OVER * 64)
      let run := if lim < lhs then (d.gainSt n).nriseRun + 1 else 0
      let d := d.setGain n { d.gainSt n with nriseRun := run }
      if run ≠ 0 ∧ d.fld pProt R.PROT_THR_B_NR_FRAMES ≤ run then
        (d.setGain n { d.gainSt n with nriseRun := 0 }).tripChannel n 5
      else d

/-- STAB is judged on a valid estimate (Table 08-2). -/
def Dev.judgeStab (d : Dev) (n : Nat) : Dev :=
  let g := d.gainSt n
  let room := d.sfld (pCh n) R.CH_CANC_ISO_ISO + d.fld (pCh n) R.CH_CANC_DEPTH_DEPTH - g.gHi
  if !d.muted n && decide (room < d.fld pProt R.PROT_THR_A_STAB_MIN * 64) then d.tripChannel n 2 else d

/-- The frame's highest gain starts anew. -/
def Dev.freshHi (d : Dev) (n : Nat) : Dev := d.setGain n { d.gainSt n with gHi := (d.gainSt n).applied }

/-- OOBE is judged at a window's end on estimate `est`, Q8.8 dB (R176). -/
def Dev.judgeOobe (d : Dev) (n : Nat) (est : Int) : Dev :=
  let low := d.sfld (pCh n) R.CH_GL_LVL_PMAX - 30 * 256
  if !d.chOn n || d.fld (pCh n) R.CH_DEF_OUT_MASK == 0 || d.muted n || decide (d.sfld (pCh n) R.CH_GL_PWR_POUT < low) then d
  else
    let F := if d.chUp n then R.PROT_OOBE_WORST_UL else R.PROT_OOBE_WORST_DL
    let d := d.setS pProt F (min (d.sfld pProt F) est)
    if !d.flag pProt R.PROT_CTL_OOBE_EN then d
    else
      let run := if est < d.fld pProt R.PROT_THR_A_OOBE_MASK * 256 then (d.gainSt n).oobeRun + 1 else 0
      let d := d.setGain n { d.gainSt n with oobeRun := run }
      if run ≠ 0 ∧ d.fld pProt R.PROT_THR_B_OOBE_WIN ≤ run then
        (d.setGain n { d.gainSt n with oobeRun := 0 }).tripChannel n 6
      else d

/-! ### Port power (R159) -/

/-- The port-power loop of DAC `k` (0 to 7) measures its port and applies its trim; PWR_PORT is judged (R159, Table 08-2). -/
def Dev.portPower (d : Dev) (k : Nat) : Dev :=
  let c := 8 + k
  let pg := pDac k
  let s := mat (0, 0) d.portSum c
  let v := dbOf s.1 (s.2 * 2 ^ 31)
  let p := if dbNone v then v else sat16 (v + d.sfld pg R.DAC_PP_REF_OREF)
  let d := { d with portSum := mput (0, 0) d.portSum c (0, 0) }.setS pg R.DAC_PP_STAT_PWR p
  let d := d.recMean (16 + k) p
  let pmax := d.sfld pg R.DAC_PP_LIM_PMAX
  let tmin := d.sfld pg R.DAC_PP_LIM_TRIM_MIN
  let old := d.sfld pg R.DAC_PP_STAT_TRIM
  let e := pmax - p
  let t := if e < -256 then old + e else old + ratio (d.fld pg R.DAC_PP_REF_KI * e) 64
  let t := min 0 (max t tmin)
  let past := old == tmin && decide (pmax + d.fld pProt R.PROT_THR_A_PWR_OVER * 64 < p)
  let d := if t = tmin ∧ e < 0 then d.bump pg R.DAC_PP_CNT_CLAMPED else d
  let d := d.setS pg R.DAC_PP_STAT_TRIM t
  if past && d.flag pProt R.PROT_CTL_PWR_EN then
    (d.channels.filter fun n => d.usesTx n c).foldl (fun d n => d.tripChannel n 4) d
  else d

/-! ### The site energy budget (R160 to R162) -/

/-- The latest conversion of the input a binding names, if it is valid (R162). -/
def Dev.ebReading (d : Dev) (sel : Nat) : Option Nat :=
  let i := 16 * (sel / 16 % 2) + sel % 16
  let code := d.fld pMon (R.MON_LAST_CODE i)
  if d.flag pMon (R.MON_LAST_VALID i) && code != 0 && code != 4095 && !d.monFault &&
      decide (d.frameCount ≤ mat 0 d.mon.lastFrame i + 2) then some code else none

/-- What APPLY delivers to the site targets takes effect: backoff in Q16.16 dB, shed level (Table 07-1). -/
def Dev.applySite (d : Dev) (backoff : Int) (shed : Nat) : Dev :=
  ({ d with energy := { d.energy with siteBackoff := q16to8 backoff, siteShed := shed } }).shedAll

/-- Band of a battery voltage of `num` / 2560 in 10 mV, the thresholds raised by `h` (R160). -/
def Dev.ebBand (d : Dev) (num h : Nat) : Nat :=
  ((List.range 4).filter fun t => decide ((d.fld pDev (R.DEV_EB_VTH_VTH t) + h) * 2560 ≤ num)).length

/-- The band moves after its dwell (R160). -/
def Dev.ebBands (d : Dev) (num : Nat) : Dev :=
  let b := d.fld pDev R.DEV_EB_STAT_BAND
  let dwell := d.fld pDev R.DEV_EB_CTL_DWELL
  let up := d.ebBand num (d.fld pDev R.DEV_EB_CTL_HYST)
  let dn := d.ebBand num 0
  let u := if b < up then d.energy.upRun + 1 else 0
  let l := if dn < b then d.energy.downRun + 1 else 0
  if u ≠ 0 ∧ dwell ≤ u then { d with energy := { d.energy with upRun := 0, downRun := 0 } }.setFld pDev R.DEV_EB_STAT_BAND up
  else if l ≠ 0 ∧ dwell ≤ l then { d with energy := { d.energy with upRun := 0, downRun := 0 } }.setFld pDev R.DEV_EB_STAT_BAND dn
  else { d with energy := { d.energy with upRun := u, downRun := l } }

/-- The law of R161 on the excess `e` of discharge power over the allowance `a`, both in µW × 65,536. -/
def Dev.ebLaw (d : Dev) (e a : Int) : Dev :=
  let s := d.energy
  let bmax : Int := d.fld pDev R.DEV_EB_CTL_BMAX * 16384
  let b := min bmax (max 0 (s.backoff + ratio (d.fld pDev R.DEV_EB_CTL_KI * 256 * e) (65536 * 1000000)))
  let dwell := d.fld pDev R.DEV_EB_CTL2_SHED_DWELL
  let back := d.fld pDev R.DEV_EB_CTL2_RESTORE_DWELL * 100
  let s1 : EnergySt :=
    if b = bmax ∧ 0 < e then
      if dwell ≤ s.above + 1 ∧ s.shed < 3 then { s with below := 0, above := 0, shed := s.shed + 1 }
      else { s with below := 0, above := s.above + 1 }
    else if b = 0 ∧ e * 10 < -a then
      if back ≤ s.below + 1 ∧ 0 < s.shed then { s with above := 0, below := 0, shed := s.shed - 1 }
      else { s with above := 0, below := s.below + 1 }
    else { s with above := 0, below := 0 }
  let shed := max s1.shed (d.fld pDev (R.DEV_EB_ALLOW_SHED_MIN (d.fld pDev R.DEV_EB_STAT_BAND)))
  let d := { d with energy := { s1 with backoff := b, shed := shed } }
  let d := if s.shed < shed then (d.bump pDev R.DEV_EB_CNT_SHED_STEPS).recCount 841 1 else d
  let d := (d.setFld pDev R.DEV_EB_STAT_SHED shed).setFld pDev R.DEV_EB_STAT_BACKOFF (ratio b 16384).toNat
  d.applySite b shed

/-- Does the generator run (R160)? -/
def Dev.ebGen (d : Dev) : Bool :=
  let g := d.fld pDev R.DEV_EB_SRC_GEN
  decide (g < 48) && (d.gpioLevel g != d.flag pDev R.DEV_EB_SRC_GEN_POL)

/-- The energy-budget loop runs once per frame (R160 to R162). -/
def Dev.energyUpdate (d : Dev) : Dev :=
  if !d.flag pDev R.DEV_EB_SRC_EN then d
  else
    let v := d.ebReading (d.fld pDev R.DEV_EB_SRC_VBAT)
    let i := d.ebReading (d.fld pDev R.DEV_EB_SRC_IBAT)
    let gen := d.ebGen
    let d := if gen && !d.flag pDev R.DEV_EB_STAT_GEN then d.recCount 842 1 else d
    let d := d.setFlag pDev R.DEV_EB_STAT_GEN gen
    let d := if gen then { d with energy := { d.energy with upRun := 0, downRun := 0 } }.setFld pDev R.DEV_EB_STAT_BAND 4 else d
    match v, i with
    | some vc, some ic =>
      let good := if d.energy.bad then d.energy.goodRun + 1 else 0
      let well := !d.energy.bad || decide (d.fld pDev R.DEV_EB_CTL_DWELL ≤ good)
      let num := vc * d.fld pDev R.DEV_EB_SCALE_VSCALE
      let p : Int := num * (((ic : Int) - d.fld pDev R.DEV_EB_IOFS_IOFS) * d.sfld pDev R.DEV_EB_SCALE_ISCALE)
      let d := d.setFld pDev R.DEV_EB_MEAS_VBAT (min 0xFFFF (ratio num 2560).toNat)
      let d := d.setS pDev R.DEV_EB_MEAS_PNET (satS 16 (ratio p (65536 * 100000)))
      let d := (d.recMean 9 (d.fld pDev R.DEV_EB_MEAS_VBAT)).recMean 10 (d.sfld pDev R.DEV_EB_MEAS_PNET)
      if well then
        let d := if d.energy.bad then (d.setFld pDev R.DEV_EB_STAT_SENSE_BAD 0).levelOff 6 pDev else d
        let d := { d with energy := { d.energy with bad := false, safe := false, goodRun := 0 } }
        let d := if gen then d else d.ebBands num
        let a : Int := d.fld pDev (R.DEV_EB_ALLOW_PALLOW (d.fld pDev R.DEV_EB_STAT_BAND)) * 100000 * 65536
        d.ebLaw (p - a) a
      else
        let d := { d with energy := { d.energy with goodRun := good } }
        if d.energy.safe then d.ebLaw 0 0 else d
    | _, _ =>
      let d := (d.bump pDev R.DEV_EB_CNT_SENSE_BAD).setFld pDev R.DEV_EB_STAT_SENSE_BAD 1
      let d := if d.energy.bad then d else d.levelOn 6 pDev
      let d := { d with energy := { d.energy with bad := true, goodRun := 0 } }
      if d.energy.safe then d.ebLaw 0 0 else d

/-- SENSE_HOLD has passed without a valid pair: the band becomes SAFE_BAND and the law runs on with e = 0 (R162). -/
def Dev.senseExpire (d : Dev) : Dev :=
  if d.energy.bad then
    { d with energy := { d.energy with safe := true, upRun := 0, downRun := 0 } }.setFld pDev R.DEV_EB_STAT_BAND
      (d.fld pDev R.DEV_EB_CTL2_SAFE_BAND)
  else d

/-! ### Host commands and APPLY (R139, R152, R168) -/

/-- A write of CH_GL_UL: both bits in one access are ignored and counted; HOLD while held and RELEASE while not change nothing
(R168). -/
def Dev.glUl (d : Dev) (n : Nat) (hold rel : Bool) : Dev :=
  let held := d.flag (pCh n) R.CH_GL_STAT_HELD
  let g := d.gainSt n
  if hold && rel then d.badAcc (pCh n + R.CH_GL_UL_HOLD.off)
  else if hold && !held then d.setGain n { g with holdReq := true }
  else if rel && held then d.setGain n { g with relReq := true }
  else d

/-- A value reaches its control target (Table 07-1); any other target is discarded and counted. -/
def Dev.applyTo (d : Dev) (chan ctl : Nat) (v : Int) : Dev :=
  if chan < 192 ∧ ctl = 0 then d.applyReq chan v
  else if chan < 192 ∧ ctl = 1 then d.setGain chan { d.gainSt chan with lStab := v }
  else if chan < 192 ∧ ctl = 2 then (d.setGain chan { d.gainSt chan with lNr := v }).showLnr chan
  else if 0xC0 ≤ chan ∧ chan ≤ 0xC7 ∧ ctl = 0 then d.setS (pDac (chan - 0xC0)) R.DAC_PP_STAT_TRIM (q16to8 v)
  else if chan = 0xFF ∧ ctl = 0 then d.applySite v d.energy.siteShed
  else if chan = 0xFF ∧ ctl = 1 then ({ d with energy := { d.energy with siteShed := (roundConv v 16).toNat % 4 } }).shedAll
  else d.badAcc (pEng 0)

end Sys2Proof.Machine
end

