-- ==== Sys2Proof/Machine/EngBundle.lean ====
section
/-! DEFINITION. One bundle of a loop engine (R124 to R141, R147): its fields, its predicate, and what each slot does. Every
slot reads registers as they stood before the issue. -/

namespace Sys2Proof.Machine

/-! ### Bits -/

/-- One byte into a running CRC-32C. -/
def crc32cByte (crc byte : Nat) : Nat :=
  (List.range 8).foldl (fun c _ => if c % 2 = 1 then (c / 2) ^^^ 0x82F63B78 else c / 2) (crc ^^^ byte)

/-- CRC-32C of a list of bytes. -/
def crc32c (bs : List Nat) : Nat := bs.foldl crc32cByte 0xFFFFFFFF ^^^ 0xFFFFFFFF

/-! ### Numbers (R128, R129) -/

/-- `v` times 2^-n: rounded convergently when bits drop (R52). -/
def shiftRound (v n : Int) : Int := if n ≤ 0 then v * (2 ^ (-n).toNat : Nat) else roundConv v n.toNat

/-- A mantissa at another exponent. -/
def alignTo (v a b : Int) : Int := if a = b ∨ v = 0 then v else Config.align v a b

/-- A sum in a 48-bit accumulator. -/
def acc48 (v : Int) : Int := if -(2 ^ 47) ≤ v ∧ v < 2 ^ 47 then v else Config.accOver v

/-- Lane `l` of a vector register. -/
def VecReg.lane (v : VecReg) (l : Nat) : Int × Int := v.lanes.getD l (0, 0)

/-- The largest magnitude in a block. -/
def blockMax (ls : List (Int × Int)) : Nat := ls.foldl (fun m z => max m (max z.1.natAbs z.2.natAbs)) 0

/-- The bits NORM drops from a block so that its largest magnitude lies in [2^14, 2^15) once rounded (R128). -/
def normShift (ls : List (Int × Int)) : Int :=
  let m := blockMax ls
  let n : Int := (Nat.log2 m : Nat) - 14
  if 2 ^ 15 ≤ shiftRound m n then n + 1 else n

/-- NORM of an accumulator block (R128): 16-bit mantissas with their exponent, and whether they clamped. -/
def normBlock (a : VecReg) : VecReg × Bool :=
  let e := a.exp + normShift a.lanes
  let e' := if blockMax a.lanes = 0 then -32 else max (-32) (min 31 e)
  let z := a.lanes.map fun z =>
    (satTo 32767 (shiftRound z.1 (e' - a.exp)), satTo 32767 (shiftRound z.2 (e' - a.exp)))
  ({ exp := e', lanes := z.map fun p => (p.1.1, p.2.1) }, z.any fun p => p.1.2 || p.2.2)

/-! ### Predicates (Table 06-3) -/

/-- Does predicate `p` hold? -/
def EngSt.pred (s : EngSt) (m : Image) (p : Nat) : Bool :=
  if p = 0 then true
  else if p ≤ 0x10 then Image.pmod m (p - 1) s.idx
  else if p = 0x20 then s.mark
  else if p = 0x21 then !s.mark
  else if 0x40 ≤ p ∧ p < 0x60 then s.spoil.testBit (p - 0x40)
  else if 0x60 ≤ p ∧ p < 0x80 then !s.spoil.testBit (p - 0x60)
  else false

/-- Set or clear spoil flag `f`. -/
def EngSt.setSpoil (s : EngSt) (f : Nat) (b : Bool) : EngSt :=
  { s with spoil := if s.spoil.testBit f == b then s.spoil else if b then s.spoil + 2 ^ f else s.spoil - 2 ^ f }

/-! ### Registers -/

/-- Vector register `i`. -/
def EngSt.vr (s : EngSt) (i : Nat) : VecReg := mat .init s.v i
/-- Write vector register `i`. -/
def EngSt.setV (s : EngSt) (i : Nat) (v : VecReg) : EngSt := { s with v := mput .init s.v i v }
/-- Accumulator `i`. -/
def EngSt.acc (s : EngSt) (i : Nat) : VecReg := mat .init s.ac i
/-- Write accumulator `i`. -/
def EngSt.setAcc (s : EngSt) (i : Nat) (v : VecReg) : EngSt := { s with ac := mput .init s.ac i v }
/-- Scalar register `i`: mantissa and exponent. -/
def EngSt.sr (s : EngSt) (i : Nat) : Int × Int := mat (0, 0) s.s (i % 64)
/-- Write scalar register `i`. -/
def EngSt.setS (s : EngSt) (i : Nat) (v : Int × Int) : EngSt := { s with s := mput (0, 0) s.s (i % 64) v }

/-! ### VEC (Table 06-5) -/

/-- What a slot did besides register writes: whether its stage saturates, the clamps it counts. -/
structure SlotOut where
  st : EngSt
  sat : Bool
  clamps : Nat

/-- Does lane `l` take part: its tap lies below N_eff of the canceller the slot names, if it names one (R131)? -/
def laneOn (cap : Option Nat) (tg l : Nat) : Bool :=
  match cap with
  | none => true
  | some n => decide (16 * tg + l % 16 < n)

/-- The accumulator after lane products are added (CMAC, CMACJ). -/
def cmac (on : Nat → Bool) (conj : Bool) (a va vb : VecReg) : VecReg :=
  let ep := va.exp + vb.exp
  let e := if blockMax a.lanes = 0 then ep else a.exp
  { exp := e,
    lanes := (List.range 128).map fun l =>
      let z := a.lane l
      if on l then
        let x := va.lane l
        let y := vb.lane l
        let yi := if conj then -y.2 else y.2
        (acc48 (z.1 + alignTo (x.1 * y.1 - x.2 * yi) ep e), acc48 (z.2 + alignTo (x.1 * yi + x.2 * y.1) ep e))
      else z }

/-- LSUM: the sums of 16 lanes each, normalised; the other lanes of the register keep their values. -/
def lsum (a v : VecReg) : VecReg × Bool :=
  let sums := (List.range 8).map fun g => (List.range 16).foldl (fun (s : Int × Int) i =>
    let z := a.lane (16 * g + i)
    (s.1 + z.1, s.2 + z.2)) (0, 0)
  let n := normBlock { exp := a.exp, lanes := sums }
  ({ exp := n.1.exp,
     lanes := (List.range 128).map fun l =>
       if l < 8 then n.1.lane l else (alignTo (v.lane l).1 v.exp n.1.exp, alignTo (v.lane l).2 v.exp n.1.exp) }, n.2)

/-- UPD: an accumulator, rounded to the register's exponent, is added to it. -/
def updBlock (on : Nat → Bool) (a v : VecReg) : VecReg :=
  { exp := v.exp,
    lanes := (List.range 128).map fun l =>
      let z := v.lane l
      if on l then
        ((satTo 32767 (z.1 + shiftRound (a.lane l).1 (v.exp - a.exp))).1,
         (satTo 32767 (z.2 + shiftRound (a.lane l).2 (v.exp - a.exp))).1)
      else z }

/-- OUT: a block as 16-bit sample words, with the words clamped (R129). -/
def outBlock (v : VecReg) : VecReg × Nat :=
  let z := v.lanes.map fun z => (satTo 32767 (shiftRound z.1 (-v.exp)), satTo 32767 (shiftRound z.2 (-v.exp)))
  ({ exp := 0, lanes := z.map fun p => (p.1.1, p.2.1) }, (z.filter fun p => p.1.2 || p.2.2).length)

/-- The VEC slot of bundle `b`, registers read from `r`. -/
def vecSlot (cap : Option Nat) (b : Nat) (r s : EngSt) : SlotOut :=
  let acc := bitsOf b 225 223
  let a := r.acc acc
  let va := r.vr (bitsOf b 222 218)
  let vb := r.vr (bitsOf b 217 213)
  let vd := bitsOf b 212 208
  let on := laneOn cap (bitsOf b 201 194)
  match bitsOf b 231 226 with
  | 1 => { st := s.setAcc acc (cmac on false a va vb), sat := false, clamps := 0 }
  | 2 => { st := s.setAcc acc (cmac on true a va vb), sat := false, clamps := 0 }
  | 3 => { st := s.setAcc acc .init, sat := false, clamps := 0 }
  | 4 => { st := s.setV vd (lsum a (r.vr vd)).1, sat := (lsum a (r.vr vd)).2, clamps := 0 }
  | 5 => { st := s.setV vd (normBlock a).1, sat := (normBlock a).2, clamps := 0 }
  | 6 => { st := s.setV vd (updBlock on a (r.vr vd)), sat := false, clamps := 0 }
  | 7 => { st := s.setV vd (outBlock (r.vr vd)).1, sat := false, clamps := (outBlock (r.vr vd)).2 }
  | _ => { st := s, sat := false, clamps := 0 }

/-! ### SCA (Table 06-5) -/

/-- Is scalar `a` at most scalar `b`? -/
def scaLe (a b : Int × Int) : Bool :=
  decide (a.1 * (2 ^ (a.2 + 64).toNat : Nat) ≤ b.1 * (2 ^ (b.2 + 64).toNat : Nat))

/-- A scalar result: the mantissa saturates (R129). -/
def scaOut (v e : Int) : (Int × Int) × Bool :=
  let m := satTo (2 ^ 31 - 1) v
  ((m.1, satS 6 e), m.2)

/-- A sum of scalars of one exponent, or with a zero; else the spec states no alignment. -/
def scaAdd (op : Nat) (a b x y z : Int × Int) : (Int × Int) × Bool :=
  if a.2 = b.2 ∨ b.1 = 0 then scaOut (a.1 + b.1) a.2
  else if a.1 = 0 then scaOut b.1 b.2
  else
    let v := Config.scalar op x y z
    scaOut v.1 v.2

/-- The product of two scalars, its exponent the sum of theirs. -/
def scaMul (x y : Int × Int) : (Int × Int) × Bool :=
  if -32 ≤ x.2 + y.2 ∧ x.2 + y.2 ≤ 31 then scaOut (x.1 * y.1) (x.2 + y.2)
  else
    let v := Config.scalar 3 x y (0, 0)
    scaOut v.1 v.2

/-- The result of a scalar operation on SA, SB, SD, and whether it saturates. -/
def scaOp (op : Nat) (x y z : Int × Int) : (Int × Int) × Bool :=
  match op with
  | 1 => scaAdd 1 x y x y z
  | 2 => scaAdd 2 x (-y.1, y.2) x y z
  | 3 => scaMul x y
  | _ => scaAdd 4 (x.1 * y.1, x.2 + y.2) z x y z

/-- The SCA slot of bundle `b`, registers read from `r`. -/
def scaSlot (b : Nat) (r s : EngSt) : SlotOut :=
  let sd := bitsOf b 162 157
  let x := r.sr (bitsOf b 156 151)
  let sb := bitsOf b 150 145
  let y := r.sr sb
  let op := bitsOf b 167 163
  if 1 ≤ op ∧ op ≤ 4 then
    let v := scaOp op x y (r.sr sd)
    { st := s.setS sd v.1, sat := v.2, clamps := 0 }
  else if op = 5 then
    let lo := if scaLe y x then x else y
    let hi := r.sr (sb + 1)
    { st := s.setS sd (if scaLe hi lo then hi else lo), sat := false, clamps := 0 }
  else if op = 6 then
    let v := if y.2 = 0 ∧ 0 ≤ y.1 then (roundConv x.1 (min y.1.toNat 40), x.2) else Config.scalar 6 x y (r.sr sd)
    { st := s.setS sd (scaOut v.1 v.2).1, sat := false, clamps := 0 }
  else if op = 7 then
    { st := s.setS sd (if r.spoil.testBit (bitsOf b 143 139) then y else x), sat := false, clamps := 0 }
  else { st := s, sat := false, clamps := 0 }

/-! ### LDM and LSU (R132) -/

/-- The words of the active bank's constant region. -/
def constWords (m : Image) : Nat := min 65536 (Image.constBytes m) / 4

/-- LDM word `w`: lines 0 to 1,023 hold the constant region of the active bank. -/
def ldmRead (m : Image) (ldm : SMap Word) (w : Nat) : Word :=
  if w < constWords m then mat 0 m (Image.constAt m / 4 + w) else mat 0 ldm w

/-- Write LDM word `w` of an engine whose active bank is `act`. -/
def EngSt.ldmWrite (s : EngSt) (act : Bool) (w : Nat) (v : Word) : EngSt :=
  let m := s.bank act
  if w < constWords m then
    let m := mput 0 m (Image.constAt m / 4 + w) v
    if act then { s with bank1 := m } else { s with bank0 := m }
  else { s with ldm := mput 0 s.ldm w v }

/-- A lane as a memory word: I in the low half, Q in the high half. -/
def laneWord (z : Int × Int) : Word := BitVec.ofNat 32 (twos 16 z.1 + twos 16 z.2 * 2 ^ 16)

/-- A memory word as a lane. -/
def wordLane (w : Word) : Int × Int := (signed 16 (w.toNat % 2 ^ 16), signed 16 (w.toNat / 2 ^ 16))

/-- The LSU slot of bundle `b`: vectors are 8 lines; a scalar is 8 bytes, mantissa then exponent; LDV keeps the register's
exponent (log entry 25). -/
def lsuSlot (act : Bool) (b : Nat) (r s : EngSt) : EngSt :=
  let m := r.bank act
  let line := (Image.base m (bitsOf b 119 115) r.variant + bitsOf b 114 102) % 8192
  let reg := bitsOf b 124 120
  let at' (i : Nat) : Nat := (line * 16 + i) % 131072
  match bitsOf b 127 125 with
  | 1 => s.setV reg { exp := (r.vr reg).exp, lanes := (List.range 128).map fun l => wordLane (ldmRead m r.ldm (at' l)) }
  | 2 => (List.range 128).foldl (fun s l => s.ldmWrite act (at' l) (laneWord ((r.vr reg).lane l))) s
  | 3 => s.setS reg (signed 32 (ldmRead m r.ldm (at' 0)).toNat, signed 6 (ldmRead m r.ldm (at' 1)).toNat)
  | 4 => (s.ldmWrite act (at' 0) (BitVec.ofNat 32 (twos 32 (r.sr reg).1))).ldmWrite act (at' 1)
           (BitVec.ofNat 32 (twos 6 (r.sr reg).2))
  | _ => s

/-! ### Streams (R135 to R138) -/

/-- Sample words in a block of channel `n` (R135). -/
def Dev.blockLen (d : Dev) (n : Nat) : Nat := 2 ^ (d.fld (pCh n) R.CH_DEF_RATE_K - 2)

/-- Stream `j` of channel `n`. -/
def Dev.strm (d : Dev) (n j : Nat) : StreamSt := mat .init d.streams (streamKey n j)

/-- Change stream `j` of channel `n`. -/
def Dev.setStrm (d : Dev) (n j : Nat) (s : StreamSt) : Dev := { d with streams := mput .init d.streams (streamKey n j) s }

/-- The stream descriptors of an image in use: a ring of at least two lines. -/
def Image.streamList (m : Image) : List StreamDesc :=
  ((List.range 32).map (Image.stream m)).filter fun s => 2 ≤ s.depth

/-- The word at bench line `line`, place `i`, of bench `b`. -/
def Dev.benchWord (d : Dev) (b line i : Nat) : Word := mat 0 (mat [] d.bench b) (line * 16 + i)

/-- Write words to bench line `line` of bench `b`. -/
def Dev.benchWrite (d : Dev) (b line : Nat) (ws : List Word) : Dev :=
  let m := (ws.zip (List.range ws.length)).foldl (fun m wi => mput 0 m (line * 16 + wi.2) wi.1) (mat [] d.bench b)
  { d with bench := mput [] d.bench b m }

/-- A sample word as bench memory holds it. -/
def SampleWord.mem (w : SampleWord) : Word := w.q ++ w.i

/-- Does engine `e` leave channel `n` out of its period (R146)? -/
def Dev.leftOut (d : Dev) (e n : Nat) : Bool :=
  Image.share (d.active e) &&
    ((Image.chans (d.active e)).filter fun c => c.chan == n).all fun c => c.var != 2 && c.var != (d.engine e).variant

/-- RDS: the next block of stream `i` of engine `e` goes to a vector register, with spoil flag `sf` (R136, R137). -/
def Dev.readBlock (d : Dev) (e i reg sf : Nat) : Dev :=
  let sd := Image.stream (d.active e) i
  let n := sd.chan
  let st := d.strm n sd.j
  let s := d.engine e
  if d.leftOut e n then d.setEng e ((s.setV reg .init).setSpoil sf false)
  else if st.unread then
    let bad := (st.last.filter fun w => !w.spoil && !w.good).length
    let d := d.setStrm n sd.j { st with unread := false, readNum := some st.lastNum }
    let d := if bad = 0 then d else (d.addSpoil n bad).raiseFault 113 (pCh n) false
    let s := (s.setV reg { exp := 0, lanes := st.last.map fun w => (w.i.toInt, w.q.toInt) }).setSpoil sf
      (bad != 0 || st.last.any (·.spoil))
    (d.setEng e { s with stamps := mput 0 s.stamps sf (d.frame.clk - st.lastClk) }).perf (1152 + 4 * (e / 8)) 1
  else
    let d := d.setEng e ((s.setV reg .init).setSpoil sf true)
    if d.flag (pCh n) R.CH_SV_STAT_ABSENT then d.bump (pEng e) R.ENG_CNT_A_ABSENT
    else ((d.bump (pEng e) R.ENG_CNT_A_SPOIL_IN).addSpoil n (d.blockLen n)).perf (768 + 4 * e + 2) 1

/-- WRS: a vector register becomes the output block that matches the block read last (R138). -/
def Dev.writeBlock (d : Dev) (e i : Nat) (v : VecReg) : Dev :=
  let sd := Image.stream (d.active e) i
  let st := d.strm sd.chan sd.j
  match st.readNum with
  | none => d
  | some k =>
    let ws := (List.range (d.blockLen sd.chan)).map fun l => mkWord (v.lane l).1 (v.lane l).2
    ((d.setStrm sd.chan sd.j { st with out := (st.out.filter fun o => o.1 != k) ++ [(k, ws)] }).benchWrite (e / 8)
      (sd.ring + k % max 1 sd.depth) (ws.map SampleWord.mem)).perf (1152 + 4 * (e / 8)) 1

/-! ### Traps and mutes (R141) -/

/-- The channels whose canceller engine `e` hosts. -/
def Dev.hosted (d : Dev) (e : Nat) : List Nat :=
  ((Image.chans (d.active e)).filter fun c => c.nc != 0).map (·.chan)

/-- Engine `e` mutes its output streams and freezes its cancellers. -/
def Dev.engMute (d : Dev) (e : Nat) : Dev :=
  (d.hosted e).foldl Dev.showFrozen (d.setEng e { d.engine e with muted := true })

/-- Engine `e` halts. -/
def Dev.engHalt (d : Dev) (e : Nat) : Dev := ((d.setFld (pEng e) R.ENG_STAT_STATE 3).engMute e).stir (pEng e)

/-- The safe tail of engine `e` fails: it halts at once (R141). -/
def Dev.tailFail (d : Dev) (e : Nat) : Dev :=
  if d.engState e = 2 then
    ((d.setFld (pEng e) R.ENG_STAT_TRAP_CAUSE 6).engHalt e).raiseFault (23 + 8 * (e / 8)) (pEng e) false
  else d

/-- An armed swap of engine `e` is refused (R142, R144). -/
def Dev.swapRefuse (d : Dev) (e : Nat) : Dev :=
  (((d.setEng e { d.engine e with swapArmed := false }).setFld (pEng e) R.ENG_STAT_SWAP_ARMED 0).bump (pEng e)
    R.ENG_CNT_B_SWAP_REFUSED).raiseEvt (pEng e) 1

/-- Engine `e` traps: its next issue is its safe tail (R141). A trap during the tail is merged; an idle or halted engine issues
nothing. -/
def Dev.trap (d : Dev) (e cause : Nat) : Dev :=
  if d.engState e = 1 then
    let s := d.engine e
    let d := d.setEng e { s with pc := Image.tail (d.active e), tailIssues := 0, rep := none, loops := [] }
    let d := (d.setFld (pEng e) R.ENG_STAT_STATE 2).setFld (pEng e) R.ENG_STAT_TRAP_CAUSE cause
    let d := ((d.bump (pEng e) R.ENG_CNT_C_TRAP).raiseEvt (pEng e) 2).stir (pEng e)
    if s.swapArmed then d.swapRefuse e else d
  else d

/-- A fatal schedule fault of engine `e` (R125, R140), injected or not. -/
def Dev.schedule (d : Dev) (e cause : Nat) (inj : Bool) : Dev :=
  (d.trap e cause).raiseFault (22 + 8 * (e / 8)) (pEng e) inj

/-- A fatal schedule fault of engine `e` that was not injected. -/
def Dev.scheduleFault (d : Dev) (e cause : Nat) : Dev := d.schedule e cause false

/-! ### XB and AUX -/

/-- Is bench line `line` in the bank that engine `e` reaches in cycle `c` (R125)? -/
def reaches (e c line : Nat) : Bool := (e % 8 + c) % 16 == line % 16

/-- A bench line access in a cycle that does not reach it (R125). -/
def Dev.xbarViolation (d : Dev) (e : Nat) : Dev := (d.bump (pBench (e / 8)) R.BENCH_CNT_XBAR_VIOL).scheduleFault e 3

/-- The application tick of an APPLY issued in cycle `k` (R139). -/
def applyTick (k : Nat) : Nat := (2 * (k + 8) + 4) / 5

/-- The XB slot of bundle `b`, registers read from `r`. -/
def Dev.xbSlot (d : Dev) (e b : Nat) (r : EngSt) : Dev :=
  let reg := bitsOf b 75 71
  let ofs := bitsOf b 65 51
  let line := (Image.base (d.active e) (bitsOf b 70 66) r.variant + ofs) % 32768
  let s := d.engine e
  match bitsOf b 79 76 with
  | 1 => d.readBlock e ofs reg (bitsOf b 50 46)
  | 2 => d.writeBlock e ofs (r.vr reg)
  | 3 =>
    if reaches e r.issues line then
      (d.setEng e (s.setV reg { exp := (r.vr reg).exp,
                                lanes := (List.range 128).map fun l =>
                                  if l < 16 then wordLane (d.benchWord (e / 8) line l) else (r.vr reg).lane l })).perf (1152 + 4 * (e / 8)) 1
    else d.xbarViolation e
  | 4 =>
    if reaches e r.issues line then
      (d.benchWrite (e / 8) line ((List.range 16).map fun l => laneWord ((r.vr reg).lane l))).perf (1152 + 4 * (e / 8)) 1
    else d.xbarViolation e
  | 5 =>
    if d.engState e = 3 then d
    else
      let tgt := bitsOf b 45 32
      let v := r.sr reg
      { d.setEng e { s with lastApply := (d.fld (pEng e) R.ENG_PSTART_TICK + applyTick r.issues) % frameTicks } with
        applies := d.applies ++ [{ eng := e, chan := tgt / 64, ctl := tgt % 64, mant := v.1, exp := v.2 }] }
  | 6 => d.engMute e
  | _ => d

/-- A trace record of engine `e` is written (R147). -/
def Dev.traceWrite (d : Dev) (e : Nat) (rec : BitVec 128) : Dev :=
  let s := d.engine e
  let w := d.fld (pEng e) R.ENG_TRACE_CTL_WRPTR
  let d := d.setEng e { s with trace := mput 0 s.trace w rec, held := min 512 (s.held + 1) }
  let d := d.setFld (pEng e) R.ENG_TRACE_CTL_WRPTR ((w + 1) % 512)
  let d := if s.held = 512 then d.bump (pEng e) R.ENG_CNT_C_TRACE_LOST else d
  let d := if s.held = 255 then d.raiseEvt (pEng e) 3 else d
  { d with traceFeed := d.traceFeed ++ [(e, rec)] }

/-- The trace record of Table 06-9. -/
def traceRec (tid frame tick period kind : Nat) (exp : Int) (sat spoil variant : Bool) (stamp : Nat) (mant : Int) : BitVec 128 :=
  BitVec.ofNat 128 (tid * 2 ^ 120 + frame % 1024 * 2 ^ 110 + tick * 2 ^ 87 + period % 4096 * 2 ^ 75 + twos 6 exp * 2 ^ 69 +
    sat.toNat * 2 ^ 68 + spoil.toNat * 2 ^ 67 + variant.toNat * 2 ^ 66 + kind * 2 ^ 64 + stamp % 2 ^ 32 * 2 ^ 32 + twos 32 mant)

/-- The AUX slot of bundle `b`, registers read from `r` (R147): a stamp names its spoil flag in SREG, a value record shows the
flag of the bundle's SF (log entry 25). -/
def Dev.auxSlot (d : Dev) (e b : Nat) (r : EngSt) : Dev :=
  let op := bitsOf b 31 28
  let tid := bitsOf b 27 20
  let sreg := bitsOf b 19 14
  if 1 ≤ op ∧ op ≤ 3 ∧ d.flag (pEng e) (R.ENG_TRACE_CTL_EN.bit (tid / 32)) then
    let stage := bitsOf b 144 139
    let sat := d.flag (pEng e) ((if stage < 32 then R.ENG_SAT_LO_STAGE else R.ENG_SAT_HI_STAGE).bit (stage % 32))
    let flag := r.spoil.testBit (if op = 2 then sreg % 32 else bitsOf b 50 46)
    let v : Int × Int := if op = 1 then r.sr sreg else (0, 0)
    let stamp := if op = 2 then mat 0 r.stamps (sreg % 32) else if op = 3 then r.lastApply else 0
    d.traceWrite e (traceRec tid d.frame.frame d.frame.tick r.periods (op - 1) v.2 sat flag (r.variant == 1) stamp v.1)
  else d

/-! ### The issue (R130, R131, R140) -/

/-- N_eff of the canceller a VEC slot names, if its descriptor has one (R131). -/
def Dev.laneCap (d : Dev) (e b : Nat) : Option Nat :=
  let c := Image.chan (d.active e) (bitsOf b 207 202)
  if c.nc = 0 then none else some (d.canceller c.chan).eff

/-- The slots of bundle `b` of engine `e` take effect. -/
def Dev.issueSlots (d : Dev) (e b : Nat) : Dev :=
  let r := d.engine e
  let v := vecSlot (d.laneCap e b) b r r
  let c := scaSlot b r v.st
  let stage := bitsOf b 144 139
  let d := d.setEng e (lsuSlot (d.actBank e) b r c.st)
  let d := if v.sat || c.sat then d.stageSat e stage else d
  let d := if v.clamps = 0 then d else d.addSat (Image.chan (d.active e) (bitsOf b 207 202)).chan v.clamps
  (d.xbSlot e b r).auxSlot e b r

/-- The next issue the CTL slot decides (Table 06-2): program counter, repetitions and loops. -/
def nextIssue (op imm pc : Nat) (rep : Option Nat) (loops : List LoopLevel) : Nat × Option Nat × List LoopLevel :=
  match op with
  | 1 =>
    match rep with
    | none => if imm = 0 then (pc + 1, none, loops) else (pc, some (imm - 1), loops)
    | some 0 => (pc + 1, none, loops)
    | some (k + 1) => (pc, some k, loops)
  | 2 =>
    match loops with
    | l :: _ => if l.start = pc then (pc + 1, none, loops) else (pc + 1, none, { start := pc, left := imm } :: loops)
    | [] => (pc + 1, none, [{ start := pc, left := imm }])
  | 3 =>
    match loops with
    | l :: rest => if l.left = 0 then (pc + 1, none, rest) else (l.start, none, { l with left := l.left - 1 } :: rest)
    | [] => (pc + 1, none, [])
  | 4 => (0, none, [])
  | _ => (pc + 1, none, loops)

/-- The period of engine `e` ends: its signature and issue count are checked (R140); an armed injection inverts the signature (R364). -/
def Dev.periodEnd (d : Dev) (e : Nat) : Dev :=
  let s := d.engine e
  let m := d.active e
  let sig := s.crc ^^^ 0xFFFFFFFF
  let d := (d.setEng e { s with issues := 0, crc := 0xFFFFFFFF }).setFld (pEng e) R.ENG_SIG_LAST_SIG sig
  if d.injArmed (pEng e) 2 then (d.injDone (pEng e)).schedule e 1 true
  else if sig ≠ Image.sig m then d.scheduleFault e 1
  else if s.issues ≠ Image.cycles m then d.scheduleFault e 2
  else d

/-- Engine `e` issues a bundle (R130). -/
def Dev.issue (d : Dev) (e : Nat) : Dev :=
  let st := d.engState e
  let s := d.engine e
  if st = 1 ∨ (st = 2 ∧ s.tailIssues < 1024) then
    let m := d.active e
    let pc := s.pc
    let b := Image.bundle m pc
    let true' := s.pred m (bitsOf b 239 232)
    let d := { d with benchCyc := mput 0 d.benchCyc (e / 8) (s.issues % 16) }
    let d := if true' then (d.issueSlots e b).perf (768 + 4 * e) 1 else d
    let s := d.engine e
    let op := bitsOf b 255 252
    if d.engState e ≠ st then d
    else if op = 5 then d.engHalt e
    else
      let nx := nextIssue op (bitsOf b 251 240) pc s.rep s.loops
      let d := d.setEng e { s with pc := nx.1, rep := nx.2.1, loops := nx.2.2, issues := s.issues + 1,
                                   crc := crc32cByte (crc32cByte s.crc (pc % 256)) (pc / 256 % 256),
                                   tailIssues := if st = 2 then s.tailIssues + 1 else 0 }
      if op = 4 ∧ st = 1 then d.periodEnd e else d
  else d

/-- 1,024 tail issues without HALT halt the engine (R141). -/
def Dev.tailLimit (d : Dev) (e : Nat) : Dev := if 1024 ≤ (d.engine e).tailIssues then d.tailFail e else d

/-- The oldest APPLY reaches its target: a Q16.16 value (R139, R152). -/
def Dev.applyNext (d : Dev) : Dev :=
  match d.applies with
  | [] => d
  | a :: rest =>
    (({ d with applies := rest }).applyTo a.chan a.ctl (satTo (2 ^ 31 - 1) (shiftRound a.mant (-a.exp))).1).perf (768 + 4 * a.eng + 3) 1

end Sys2Proof.Machine
end

