-- ==== Sys2Proof/Machine/EngOps.lean ====
section
/-! DEFINITION. Loop engines beyond the bundle (R126, R127, R134 to R138, R142 to R146): verification, starts and swaps,
periods, stream blocks, and the words the gain stage takes. -/

namespace Sys2Proof.Machine

/-! ### Verification (R134, Table 06-8) -/

/-- Is a predicate encoding defined (Table 06-3)? -/
def predDefined (p : Nat) : Bool := decide (p ≤ 0x10) || p == 0x20 || p == 0x21 || decide (0x40 ≤ p ∧ p < 0x80)

/-- Are every field and reserved bit of a bundle defined (Tables 06-2 to 06-5)? -/
def bundleDefined (b : Nat) : Bool :=
  decide (bitsOf b 255 252 ≤ 5) && predDefined (bitsOf b 239 232) && decide (bitsOf b 231 226 ≤ 7) && bitsOf b 193 168 == 0 &&
    decide (bitsOf b 167 163 ≤ 7) && bitsOf b 138 128 == 0 && decide (bitsOf b 127 125 ≤ 4) && bitsOf b 101 80 == 0 &&
    decide (bitsOf b 79 76 ≤ 6) && decide (bitsOf b 31 28 ≤ 3) && bitsOf b 13 0 == 0

/-- Where the static walk stands: the next bundle, repetitions, loops, issues so far, the signature, and whether a bench line
access missed its bank. -/
structure Walk where
  pc : Nat
  rep : Option Nat
  loops : List LoopLevel
  count : Nat
  crc : Nat
  miss : Bool

/-- Does bundle `b` of engine `e` name a bench line it does not reach in cycle `c`, in either variant (R125)? -/
def lineMiss (m : Image) (e c b : Nat) : Bool :=
  let op := bitsOf b 79 76
  (op == 3 || op == 4) && [0, 1].any fun v => !reaches e c ((Image.base m (bitsOf b 70 66) v + bitsOf b 65 51) % 32768)

/-- The static walk from bundle 0 to END: none when loops do not match or nest too deep, when it leaves the bundles, meets HALT,
or issues more than `fuel` bundles. -/
def walkBody (m : Image) (e : Nat) : Nat → Walk → Option Walk
  | 0, _ => none
  | fuel + 1, w =>
    if Image.bundles m ≤ w.pc then none
    else
      let b := Image.bundle m w.pc
      let op := bitsOf b 255 252
      let w' : Walk := { w with count := w.count + 1, crc := crc32cByte (crc32cByte w.crc (w.pc % 256)) (w.pc / 256),
                                miss := w.miss || lineMiss m e w.count b }
      if op = 5 ∨ (op = 3 ∧ w.loops = []) then none
      else if op = 4 then (if w.loops = [] then some w' else none)
      else
        let nx := nextIssue op (bitsOf b 251 240) w.pc w.rep w.loops
        if 4 < nx.2.2.length then none
        else walkBody m e fuel { w' with pc := nx.1, rep := nx.2.1, loops := nx.2.2 }

/-- Does the tail reach HALT within `fuel` issues? -/
def walkTail (m : Image) : Nat → Nat → Option Nat → List LoopLevel → Bool
  | 0, _, _, _ => false
  | fuel + 1, pc, rep, loops =>
    if Image.bundles m ≤ pc then false
    else
      let b := Image.bundle m pc
      if bitsOf b 255 252 = 5 then true
      else
        let nx := nextIssue (bitsOf b 255 252) (bitsOf b 251 240) pc rep loops
        walkTail m fuel nx.1 nx.2.1 nx.2.2

/-- Do two line ranges meet? -/
def rangesMeet (a b : ChanDesc) : Bool := decide (a.ofs < b.ofs + b.lines ∧ b.ofs < a.ofs + a.lines)

/-- Do any two descriptors share state lines? -/
def statesMeet : List ChanDesc → Bool
  | [] => false
  | c :: r => r.any (rangesMeet c) || statesMeet r

/-- Are the descriptors consistent (code 10)? -/
def Dev.descsOk (d : Dev) (m : Image) : Bool :=
  ((Image.chans m).all fun c =>
    decide (c.chan < 192) && decide (c.nc ≤ nCap 0 (d.fld (pCh c.chan) R.CH_DEF_RATE_K)) && decide (c.ofs + c.lines ≤ 7168)) &&
  !statesMeet (Image.chans m) &&
  ((Image.loopList m).all fun l =>
    (decide (l.chan < 192) || l.chan == 0xFF) &&
      decide ((l.latExact : Int) = ((l.apply : Int) - l.inSlot) % Image.period m)) &&
  (Image.streamList m).all fun s => decide (s.chan < 192)

/-- The first check of Table 06-8 that the shadow image of engine `e` fails; 0 when it passes them all. -/
def Dev.verifyCode (d : Dev) (e : Nat) : Nat :=
  let m := d.shadowImg e
  let p := Image.period m
  let nb := Image.bundles m
  let total := Image.total m
  if Image.num m 0 4 ≠ 0x52594630 ∨ Image.num m 4 2 ≠ 1 then 1
  else if nb = 0 ∨ 4096 < nb ∨ nb ≤ Image.tail m ∨ Image.constBytes m % 64 ≠ 0 ∨ 65536 < Image.constBytes m ∨
      393216 < Image.stateBytes m ∨ 262144 < total ∨ total < Image.constAt m + Image.constBytes m + 4 then 2
  else if crc32c ((List.range (total - 4)).map (Image.byte m)) ≠ Image.num m (total - 4) 4 then 3
  else if Image.hash m ≠ d.pair (pEng e) R.ENG_HASH_EXP_LO_HASH R.ENG_HASH_EXP_HI_HASH then 4
  else if p = 0 ∨ p % 64 ≠ 0 ∨ frameTicks % p ≠ 0 ∨ 2 * Image.cycles m ≠ 5 * p ∨
      (Image.share m = true ∧ 4096 * p < frameTicks) then 5
  else if ((List.range nb).any fun i => !bundleDefined (Image.bundle m i)) ||
      (List.range 16).any fun k => decide (12 < Image.num m (0x40 + 2 * k) 2 % 16) then 6
  else
    match walkBody m e (Image.cycles m) { pc := 0, rep := none, loops := [], count := 0, crc := 0xFFFFFFFF, miss := false } with
    | none => 7
    | some w =>
      if w.count ≠ Image.cycles m ∨ walkTail m 1024 (Image.tail m) none [] = false then 7
      else if w.crc ^^^ 0xFFFFFFFF ≠ Image.sig m then 8
      else if w.miss then 9
      else if d.descsOk m then 0 else 10

/-- VERIFY is written (R134, R144). -/
def Dev.verify (d : Dev) (e : Nat) : Dev :=
  if (d.engine e).swapArmed then d.setFld (pEng e) R.ENG_STAT_LAST_REFUSE 2
  else d.setEng e { d.engine e with verifying := true }

/-- Verification of engine `e` ends (R134); an armed injection fails its CRC (R364). -/
def Dev.verifyEnd (d : Dev) (e : Nat) : Dev :=
  if (d.engine e).verifying then
    let c := d.verifyCode e
    let inj := d.injArmed (pEng e) 3
    let d := if inj then d.injDone (pEng e) else d
    let c := if inj && (c == 0 || decide (3 < c)) then 3 else c
    let d := (d.setEng e { d.engine e with verifying := false }).setFlag (pEng e) R.ENG_STAT_SHADOW_VALID (c == 0)
    (if c = 0 then d else d.setFld (pEng e) R.ENG_STAT_LAST_REFUSE c).raiseEvt (pEng e) 0
  else d

/-- INVALIDATE is written. -/
def Dev.invalidate (d : Dev) (e : Nat) : Dev := d.setFld (pEng e) R.ENG_STAT_SHADOW_VALID 0

/-- A 32-bit word at byte address `a` of an engine's image port (R134): the shadow bank takes it and SHADOW_VALID clears; refused
while a swap is armed. -/
def Dev.imagePort (d : Dev) (e a : Nat) (w : Word) : Dev :=
  let s := d.engine e
  if s.swapArmed || decide (262144 ≤ a) then d
  else
    let m := mput 0 (d.shadowImg e) (a / 4) w
    (d.setEng e (if d.actBank e then { s with bank0 := m } else { s with bank1 := m })).invalidate e

/-! ### Starts and swaps (R142 to R145) -/

/-- RESTART is written to an idle engine with an image (R142). -/
def Dev.engRestart (d : Dev) (e : Nat) : Dev :=
  if d.engState e = 0 ∧ Image.some (d.active e) = true then d.setEng e { d.engine e with startReq := true } else d

/-- Engine `e` runs its active image from bundle 0. -/
def Dev.engRun (d : Dev) (e : Nat) : Dev :=
  let s := d.engine e
  let d := d.setEng e { s with pc := 0, rep := none, loops := [], issues := 0, crc := 0xFFFFFFFF, tailIssues := 0,
                               startReq := false, muted := false }
  let m := d.active e
  let d := (d.setFld (pEng e) R.ENG_STAT_STATE 1).setFld (pEng e) R.ENG_PERIOD_TICKS (Image.period m)
  let d := (d.setFld (pEng e) R.ENG_ACT_HASH_LO_HASH (Image.hash m)).setFld (pEng e) R.ENG_ACT_HASH_HI_HASH (Image.hash m / 2 ^ 32)
  ((d.hosted e).foldl Dev.showFrozen d).stir (pEng e)

/-- An idle engine with a start requested starts its image (R142). -/
def Dev.engStart (d : Dev) (e : Nat) : Dev :=
  if d.engState e = 0 ∧ (d.engine e).startReq = true then d.engRun e else d

/-- A swap of engine `e` is armed, or refused without a valid shadow (R143, R144). -/
def Dev.swapArm (d : Dev) (e : Nat) : Dev :=
  if d.flag (pEng e) R.ENG_STAT_SHADOW_VALID then
    (d.setEng e { d.engine e with swapArmed := true }).setFld (pEng e) R.ENG_STAT_SWAP_ARMED 1
  else d.swapRefuse e

/-- A swap of the engines in a bench's BENCH_SWAP_MASK: all or none (R143, R144). -/
def Dev.benchSwap (d : Dev) (b : Nat) : Dev :=
  let es := ((List.range 8).filter fun i => (d.fld (pBench b) R.BENCH_SWAP_MASK_MASK).testBit i).map (8 * b + ·)
  if es.all fun e => d.flag (pEng e) R.ENG_STAT_SHADOW_VALID then es.foldl Dev.swapArm d
  else d.bump (pBench b) R.BENCH_CNT_SWAP_REFUSED

/-- The descriptors of `m` whose state lines are kept at a take from `old` (R145). -/
def keptDescs (old m : Image) : List ChanDesc :=
  (Image.chans m).filter fun c => (Image.chans old).any fun o =>
    o.chan == c.chan && o.nc == c.nc && o.bulk == c.bulk && o.ofs == c.ofs && o.lines == c.lines

/-- LDM after a take: the kept state lines; every other state and working line reads as zero (R132, R145). -/
def ldmKept (kept : List ChanDesc) (ldm : SMap Word) : SMap Word :=
  ldm.filter fun p =>
    let l := p.1 / 16
    decide (l < 1024) || (decide (l < 7168) && kept.any fun c => decide (c.ofs ≤ l ∧ l < c.ofs + c.lines))

/-- CH_CANC_CFG takes N_c and BULK of a descriptor. -/
def Dev.takeCanc (d : Dev) (c : ChanDesc) : Dev :=
  (d.setFld (pCh c.chan) R.CH_CANC_CFG_NTAPS c.nc).setFld (pCh c.chan) R.CH_CANC_CFG_BULK c.bulk

/-- CH_GL_LAT takes the latencies of a level-loop descriptor (R170). -/
def Dev.takeLat (d : Dev) (l : LoopDesc) : Dev :=
  if l.kind = 2 ∧ l.chan < 192 then
    (d.setFld (pCh l.chan) R.CH_GL_LAT_EXACT l.latExact).setFld (pCh l.chan) R.CH_GL_LAT_WORST l.latWorst
  else d

/-- An armed swap of engine `e` is taken: at the end of a period, or while it is idle (R143, R145). -/
def Dev.swapTake (d : Dev) (e : Nat) : Dev :=
  let s := d.engine e
  let st := d.engState e
  if !s.swapArmed || decide (2 ≤ st) || (st == 1 && s.issues != 0) then d
  else if !d.flag (pEng e) R.ENG_STAT_SHADOW_VALID then d.swapRefuse e
  else
    let old := d.active e
    let new := d.shadowImg e
    let kept := keptDescs old new
    let d := d.setEng e { s with ldm := ldmKept kept s.ldm, swapArmed := false }
    let d := d.setFlag (pEng e) R.ENG_STAT_ACTIVE_BANK (!d.actBank e)
    let d := (d.setFld (pEng e) R.ENG_STAT_SWAP_ARMED 0).setFlag (pEng e) R.ENG_STAT_SHADOW_VALID (Image.some old)
    let d := ((d.bump (pEng e) R.ENG_CNT_B_SWAP).raiseEvt (pEng e) 1).engRun e
    let d := ((Image.chans new).filter fun c => c.nc != 0).foldl Dev.takeCanc d
    let gone := (Image.chans old).filter fun c => c.nc != 0 && !d.engines.any fun x => d.hostsCanc x c.chan
    let d := gone.foldl (fun d c => d.takeCanc { c with nc := 0, bulk := 0 }) d
    let zeroed := ((Image.chans new ++ gone).filter fun c => c.nc != 0 && !kept.contains c).map (·.chan)
    let d := zeroed.eraseDups.foldl (fun d n => if d.hasCanc n then d.tapClear n else d) d
    (Image.loopList new).foldl Dev.takeLat d

/-! ### Periods (R127, R146) -/

/-- The share variant of the period of index `idx` (R146). -/
def Dev.shareVariant (d : Dev) (e idx : Nat) : Nat :=
  let m := d.active e
  if !Image.share m then 0
  else if d.flag (pEng e) R.ENG_SHARE_SRC then
    let t : Int := (d.now : Int) + d.sfld (pEng e) R.ENG_SHARE_LEAD
    match d.slotCode (t % counterTicks).toNat with
    | 1 => 0
    | 2 => 1
    | _ => Image.shareBit m idx
  else Image.shareBit m idx

/-- Is `e` the lowest running engine that hosts the canceller of channel `n`? -/
def Dev.leads (d : Dev) (e n : Nat) : Bool :=
  (d.engines.find? fun x => d.engState x == 1 && d.hostsCanc x n) == some e

/-- The work of a frame on the channels whose canceller engine `e` hosts (R107, R112): an estimate, and STAB on it. -/
def Dev.frameWork (d : Dev) (e : Nat) : Dev :=
  ((d.hosted e).filter (d.leads e)).foldl (fun d n =>
    let r := d.cancEstimate n
    (if r.2 then r.1.judgeStab n else r.1).freshHi n) d

/-- The loops of engine `e` that run in the period of index `idx`. -/
def Dev.loopWork (d : Dev) (e idx : Nat) (mark : Bool) : Dev :=
  let m := d.active e
  ((Image.loopList m).filter fun l => l.pmod == 0 || Image.pmod m (l.pmod - 1) idx).foldl (fun d l =>
    match l.kind with
    | 2 => if l.chan < 192 then d.levelUpdate e l.stage l.chan else d
    | 3 => if l.chan < 192 then d.stabUpdate l.chan else d
    | 4 => if l.chan < 192 then d.nrUpdate l.chan else d
    | 6 => if mark then d.energyUpdate else d
    | _ => d) d

/-- A period of engine `e` starts (R127, R146): the counter is latched, the index, FRAME_MARK and variant are formed, N_eff takes
effect, and the period's loops run. -/
def Dev.periodStart (d : Dev) (e : Nat) : Dev :=
  if d.engState e ≠ 1 then d
  else
    let m := d.active e
    let p := max 1 (Image.period m)
    let idx := d.frame.tick / p
    let s := d.engine e
    let v := d.shareVariant e idx
    let d := d.setEng e { s with idx := idx, mark := s.boundary, boundary := false, variant := v, periods := s.periods + 1 }
    let d := (d.setFld (pEng e) R.ENG_PSTART_TICK d.frame.tick).setFld (pEng e) R.ENG_PSTART_FRAME_LO d.frame.frame
    let d := (d.setFld (pEng e) R.ENG_PIDX_FRAME_HI (d.frame.frame / 512)).setFld (pEng e) R.ENG_PIDX_IDX idx
    let d := (d.setFld (pEng e) R.ENG_STAT_VARIANT v).setFlag (pEng e) R.ENG_STAT_FRAME_MARK s.boundary
    let d := d.perf (768 + 4 * e + 1) 1
    let d := (d.hosted e).foldl (fun d n => (d.setCanc n { d.canceller n with eff := d.nEff n }).showNeff n) d
    let d := if s.boundary then d.frameWork e else d
    d.loopWork e idx s.boundary

/-- A counter frame boundary is noted for FRAME_MARK (R127). -/
def Dev.engBoundary (d : Dev) : Dev :=
  { d with eng := d.eng.foldl (fun m p => mput .init m p.1 { p.2 with boundary := true }) d.eng }

/-! ### Stream blocks and misaligned converters (R135 to R137) -/

/-- The engines whose active image describes stream `j` of channel `n` as an input, with its descriptor. -/
def Dev.streamReaders (d : Dev) (n j : Nat) : List (Nat × StreamDesc) :=
  d.engines.flatMap fun e =>
    ((Image.streamList (d.active e)).filter fun s => !s.out && s.chan == n && s.j == j).map fun s => (e, s)

/-- The engines whose active image describes stream `j` of channel `n` as an output. -/
def Dev.streamWriters (d : Dev) (n j : Nat) : List Nat :=
  d.engines.filter fun e => (Image.streamList (d.active e)).any fun s => s.out && s.chan == n && s.j == j

/-- A block of stream `j` of channel `n` completes in its ring; an older one that no RDS returned is dropped, unless the period
leaves the channel out (R136, R137, R146). -/
def Dev.blockComplete (d : Dev) (n j : Nat) : Dev :=
  let l := d.blockLen n
  let st := d.strm n j
  if st.cur.length < l then d
  else
    let rs := d.streamReaders n j
    let d :=
      match rs with
      | r :: _ =>
        if st.unread && !d.leftOut r.1 n then
          (d.bump (pEng r.1) R.ENG_CNT_A_DROP).addSpoil n (st.last.filter fun (w : SampleWord) => !w.spoil).length
        else d
      | [] => d
    let ws := st.cur.take l
    let d := rs.foldl (fun d r =>
      (d.benchWrite (r.1 / 8) (r.2.ring + st.num % max 1 r.2.depth) (ws.map SampleWord.mem)).perf (1152 + 4 * (r.1 / 8) + 1) 1) d
    d.setStrm n j { st with cur := st.cur.drop l, num := st.num + 1, last := ws, lastNum := st.num, lastClk := d.frame.clk,
                            unread := true }

/-- The phase of converter `c` on the 64-tick grid of its sync reference. -/
def Dev.convPhase (d : Dev) (c : Nat) : Nat := (d.convSt c).count / d.convRate c % 64

/-- BENCH_MISALIGN of bench `b`: converters its streams come from whose reference differs from the anchor's (R137). -/
def Dev.showMisalign (d : Dev) (b : Nat) : Dev :=
  let a := d.fld (pBench b) R.BENCH_ANCHOR_CONV
  let es := d.engines.filter fun e => e / 8 == b
  let cs := es.flatMap fun e => ((Image.streamList (d.active e)).filter fun s => !s.out && decide (s.chan < 192)).map fun s =>
    d.rxConv s.chan s.j
  let bad := cs.eraseDups.filter fun c => (d.convSt c).ref && (d.convSt a).ref && d.convPhase c != d.convPhase a
  d.setFld (pBench b) R.BENCH_MISALIGN_CONV (bad.foldl (fun m c => m + 2 ^ c) 0)

/-! ### The words the gain stage takes (R138, R141, R146) -/

/-- Output word `m` of stream `j` of channel `n`: zero from a muted engine or in a period that leaves the channel out; spoil and
counted when no WRS has written it. -/
def Dev.outWord (d : Dev) (n j m : Nat) : SampleWord × Dev :=
  if d.engMutes n || d.notServed n then (mkWord 0 0, d)
  else
    let l := d.blockLen n
    match (d.strm n j).out.find? fun o => o.1 == m / l with
    | some o =>
      match o.2[m % l]? with
      | some w => (w, d)
      | none => (spoilWord, d.addSpoil n 1)
    | none => (spoilWord, d.addSpoil n 1)

/-- Stream `j` of channel `n` moves on by one word; output blocks behind it are let go. -/
def Dev.takeNext (d : Dev) (n j : Nat) : Dev :=
  let st := d.strm n j
  let m := st.taken + 1
  d.setStrm n j { st with taken := m, waiting := st.waiting - 1,
                          out := st.out.filter fun o => decide (m / d.blockLen n ≤ o.1) }

end Sys2Proof.Machine
end

