-- ==== Sys2Proof/Machine/ConvOps.lean ====
section
/-! DEFINITION. Synthesisers (R195 to R201), slice rotation and temperature sets of the ADCs (R202 to R213), and calibration,
load and level runs (R209, R214 to R217). -/

namespace Sys2Proof.Machine

/-! ### Synthesisers -/

/-- Synthesiser `s`: 0 CS-A, 1 CS-B. -/
def Dev.synSt (d : Dev) (s : Nat) : SynSt := mat .init d.syn s

/-- Change synthesiser `s`. -/
def Dev.setSyn (d : Dev) (s : Nat) (x : SynSt) : Dev := { d with syn := mput .init d.syn s x }

/-- Does ADC `a` rotate its spare (R203)? -/
def Dev.bgRuns (d : Dev) (a : Nat) : Bool :=
  d.flag (pAdc a) R.ADC_CTL_BG_EN && d.flag (pSyn 0) R.SYN_STAT_LOCK && !d.flag (pAdc a) R.ADC_STAT_NO_SPARE && (d.convSt a).runs

/-- Show whether the rotation of every ADC runs. -/
def Dev.showBg (d : Dev) : Dev := (List.range 8).foldl (fun d a => d.setFlag (pAdc a) R.ADC_STAT_BG_RUN (d.bgRuns a)) d

/-- Calibration of synthesiser `s` begins (Table 09-3). -/
def Dev.synBegin (d : Dev) (s cause : Nat) : Dev :=
  let d := d.setSyn s { d.synSt s with cause := cause, relockWait := false, retryWait := false }
  ((d.setFld (pSyn s) R.SYN_STAT_LOCK 0).setFld (pSyn s) R.SYN_STAT_CAL_BUSY 1).showBg

/-- Is a path group that synthesiser `s` serves in RELAY (R195)? -/
def Dev.synRelays (d : Dev) (s : Nat) : Bool :=
  if s = 0 then (List.range 4).any fun g => d.grpEff g == 4 else d.grpEff 1 == 4 || d.grpEff 3 == 4

/-- SYN_CTL.RECAL is written (R200). -/
def Dev.synRecal (d : Dev) (s : Nat) : Dev :=
  if d.flag (pSyn s) R.SYN_STAT_CAL_BUSY then d
  else if d.synRelays s then d.bump (pSyn s) R.SYN_CNT_REFUSED
  else d.synBegin s 1

/-- Show what a calibration of synthesiser `s` applied last and how long it took. -/
def Dev.synShow (d : Dev) (s band cp us : Nat) : Dev :=
  ((d.setFld (pSyn s) R.SYN_STAT_BAND band).setFld (pSyn s) R.SYN_STAT_CP cp).setFld (pSyn s) R.SYN_LOCK_T_US us

/-- The converters of synthesiser `s` (R194). -/
def synConvs (s : Nat) : List Nat := (List.range 8).map (8 * s + ·)

/-- Lock is declared (R199). After a plan change each converter returns as from power-down (R195). -/
def Dev.synLock (d : Dev) (s band cp us : Nat) : Dev :=
  if !d.flag (pSyn s) R.SYN_STAT_CAL_BUSY then d
  else
    let c := (d.synSt s).cause
    let d := d.setSyn s { d.synSt s with cause := 0 }
    let d := (d.synShow s band cp us).setFld (pSyn s) R.SYN_STAT_CAL_BUSY 0
    let d := ((d.setFld (pSyn s) R.SYN_STAT_LOCK 1).setFld (pSyn s) R.SYN_STAT_FAILED 0).levelOff 122 (pSyn s)
    let d := d.raiseEvt (pSyn s) 0
    let d := if c = 2 then ((synConvs s).filter fun c => (d.convSt c).runs).foldl Dev.convReturn d else d
    d.showBg

/-- A calibration or load run ends (R214): DONE, or FAILED. -/
def Dev.calEnd (d : Dev) (ok : Bool) : Dev :=
  let d := { d with cal := { d.cal with kind := 0, step := 0, abort := false, failed := 0, found := [] } }
  (d.setFld pCal R.CAL_STAT_STATE (if ok then 4 else 5)).raiseEvt pCal (if ok then 0 else 1)

/-- A calibration of synthesiser `s` fails (R199, R201, R214). -/
def Dev.synFail (d : Dev) (s band cp us : Nat) : Dev :=
  if !d.flag (pSyn s) R.SYN_STAT_CAL_BUSY then d
  else
    let c := (d.synSt s).cause
    let d := d.setSyn s { d.synSt s with cause := 0, retryWait := c == 3 }
    let d := (d.synShow s band cp us).setFld (pSyn s) R.SYN_STAT_CAL_BUSY 0
    let d := (d.setFld (pSyn s) R.SYN_STAT_FAILED 1).raiseEvt (pSyn s) 2
    let d := (d.levelOff 122 (pSyn s)).levelOn 122 (pSyn s)
    if c = 4 ∧ d.cal.kind ≠ 0 then (d.setFld pCal (R.CAL_STAT_FAIL.bit s) 1).calEnd false else d

/-- Synthesiser `s` unlocks unasked (R201): CLK_A mutes both directions, CLK_B turns the device RF off (R175). -/
def Dev.synUnlock (d : Dev) (s : Nat) : Dev :=
  if !d.flag (pSyn s) R.SYN_STAT_LOCK then d
  else
    let d := d.setSyn s { d.synSt s with relockWait := true }
    let d := ((d.setFld (pSyn s) R.SYN_STAT_LOCK 0).bump (pSyn s) R.SYN_CNT_UNLOCK).raiseEvt (pSyn s) 1
    (if s = 0 then d.bothDirs 8 true else d.deviceOff 9).showBg

/-- Lock returns by itself within the wait (R201). -/
def Dev.synSelf (d : Dev) (s : Nat) : Dev :=
  if (d.synSt s).relockWait then
    let d := d.setSyn s { d.synSt s with relockWait := false }
    ((d.setFld (pSyn s) R.SYN_STAT_LOCK 1).raiseEvt (pSyn s) 0).showBg
  else d

/-- The relock wait ends without lock: a full calibration runs (R201). -/
def Dev.synWaitEnd (d : Dev) (s : Nat) : Dev := if (d.synSt s).relockWait then d.synBegin s 3 else d

/-- A failed relock calibration is repeated (R201). -/
def Dev.synRetry (d : Dev) (s : Nat) : Dev := if (d.synSt s).retryWait then d.synBegin s 3 else d

/-- CLK_A or CLK_B ends, 1 ms after relock (R183). -/
def Dev.clkEnd (d : Dev) (s : Nat) : Dev :=
  if !d.flag (pSyn s) R.SYN_STAT_LOCK then d
  else if s = 0 then d.bothDirs 8 false
  else if d.prot.devCauses.contains 9 then d.deviceOn 9 else d

/-! ### Trims and sets (R205, R210 to R213) -/

/-- The calibration state of ADC `a`. -/
def Dev.adcCal (d : Dev) (a : Nat) : AdcCal := mat .init d.adc a

/-- Change the calibration state of ADC `a`. -/
def Dev.setAdcCal (d : Dev) (a : Nat) (x : AdcCal) : Dev := { d with adc := mput .init d.adc a x }

/-- A trim of a slice: 0 offset [9:0], 1 gain [19:10], 2 skew [31:20] (Table 09-5). -/
def trimFld (F : Fld) (t : Nat) : Fld :=
  if t = 0 then { F with lo := 0, w := 10 } else if t = 1 then { F with lo := 10, w := 10 } else { F with lo := 20, w := 12 }

/-- A trim of a DAC: 0 gain [11:0], 1 offset [23:12] (Table 09-11). -/
def dacTrimFld (F : Fld) (t : Nat) : Fld := { F with lo := 12 * t, w := 12 }

/-- Move `v` by at most one toward `goal`. -/
def toward (v goal : Int) : Int := if v < goal then v + 1 else if goal < v then v - 1 else v

/-- The sets that bracket temperature `t` (Q8.8 °C) and the upper set's weight w (R211). -/
def bracket (t : Int) : Nat × Nat × Nat :=
  let p (s : Nat) : Int := 256 * calPoint s
  if t < p 0 then (0, 0, 0)
  else if p 7 ≤ t then (7, 7, 0)
  else
    let s := ((List.range 7).filter fun s => decide (p s ≤ t)).length - 1
    (s, s + 1, ((t - p s) * 256 / (p (s + 1) - p s)).toNat)

/-- The interpolation of two set values (R211). -/
def interpolate (w : Nat) (lo hi : Int) : Int := roundConv (lo * (256 - w) + hi * w) 8

/-- The interpolated trim `t` of slice `k` of ADC `a`. -/
def Dev.interpAdc (d : Dev) (a k t : Nat) : Int :=
  let b := bracket (d.sfld pCal R.CAL_TEMP_T)
  let v (s : Nat) : Int := d.sfld pCal (trimFld (R.CALW_ADC_TRIM s (17 * a + k)) t)
  interpolate b.2.2 (v b.1) (v b.2.1)

/-- The interpolated trim `t` of DAC `k`. -/
def Dev.interpDac (d : Dev) (k t : Nat) : Int :=
  let b := bracket (d.sfld pCal R.CAL_TEMP_T)
  let v (s : Nat) : Int := d.sfld pCal (dacTrimFld (R.CALW_DAC_TRIM s k) t)
  interpolate b.2.2 (v b.1) (v b.2.1)

/-- Is converter `c` named by a run that calibrates it now? Its trims are the run's own. -/
def Dev.inRun (d : Dev) (c : Nat) : Bool := d.cal.kind != 0 && d.cal.mask.testBit c

/-- At a die reading of `t` (none: not valid) every applied trim moves by at most one toward its interpolated value (R211);
those of the ADCs hold while CS-A is unlocked (R201), all while a set word cannot be read (source 124). -/
def Dev.trimStep (d : Dev) (t : Option Int) : Dev :=
  let d := match t with
    | some t => d.setS pCal R.CAL_TEMP_T t
    | none => d
  if d.fault.standing.contains (124, pCal) then d
  else
    let d :=
      if !d.flag (pSyn 0) R.SYN_STAT_LOCK then d
      else ((List.range 8).filter fun a => !d.inRun a).foldl (fun d a =>
        (List.range 51).foldl (fun d i =>
          let F := trimFld (R.ADC_TRIM_TRIM (i / 3)) (i % 3)
          d.setS (pAdc a) F (toward (d.sfld (pAdc a) F) (d.interpAdc a (i / 3) (i % 3)))) d) d
    ((List.range 8).filter fun k => !d.inRun (8 + k)).foldl (fun d k =>
      let g := R.DAC_TRIM_GAIN
      let o := R.DAC_TRIM_OFFSET
      (d.setS (pDac k) g (toward (d.sfld (pDac k) g) (d.interpDac k 0))).setS (pDac k) o
        (toward (d.sfld (pDac k) o) (d.interpDac k 1))) d

/-- A set takes part of a residual; 256 folds with a weight of 128 or more make it LEARNED (R212, R213). -/
def Dev.foldInto (d : Dev) (s a k t w : Nat) (r : Int) : Dev :=
  let F := trimFld (R.CALW_ADC_TRIM s (17 * a + k)) t
  d.setS pCal F (satS F.w (d.sfld pCal F + roundConv (r * w) 8))

/-- A set counts a fold. -/
def Dev.countFold (d : Dev) (s w : Nat) : Dev :=
  if w = 0 then d
  else
    let d := d.bump pCal (R.CALW_FOLDS_FOLDS s)
    let n := mat 0 d.cal.learnCnt s + (if 128 ≤ w then 1 else 0)
    let d := { d with cal := { d.cal with learnCnt := mput 0 d.cal.learnCnt s (min n 256) } }
    if 256 ≤ n then d.setFld pCal (R.CALW_HDR_LEARNED s) 1 else d

/-- The residuals of slice `k` of ADC `a` against found trims fold into the bracketing sets, unless they are frozen; what the
fold does not reproduce stays (R212). -/
def Dev.foldSlice (d : Dev) (a k : Nat) (found : List Int) : Dev :=
  let b := bracket (d.sfld pCal R.CAL_TEMP_T)
  let frozen := d.flag pCal R.CAL_CTL_FREEZE_SETS
  let rs := (List.range 3).map fun t => found.getD t 0 - d.interpAdc a k t
  let d :=
    if frozen then d
    else
      let d := (List.range 3).foldl (fun d t =>
        let r := rs.getD t 0
        let d := d.foldInto b.1 a k t (256 - b.2.2) r
        if b.1 = b.2.1 then d else d.foldInto b.2.1 a k t b.2.2 r) d
      (d.countFold b.1 (256 - b.2.2)).countFold b.2.1 (if b.1 = b.2.1 then 0 else b.2.2)
  (List.range 3).foldl (fun d t =>
    let c := d.adcCal a
    d.setAdcCal a { c with resid := mput 0 c.resid (3 * k + t) (found.getD t 0 - d.interpAdc a k t) }) d

/-! ### Rotation (R202 to R206) -/

/-- The slice in position `p` of ADC `a`. -/
def Dev.sliceAt (d : Dev) (a p : Nat) : Nat := d.fld (pAdc a) { R.ADC_MAP_SLICE (p / 6) with lo := 5 * (p % 6), w := 5 }

/-- Put slice `k` in position `p` of ADC `a`. -/
def Dev.setSlice (d : Dev) (a p k : Nat) : Dev := d.setFld (pAdc a) { R.ADC_MAP_SLICE (p / 6) with lo := 5 * (p % 6), w := 5 } k

/-- The applied trims of slice `k` of ADC `a` are written. -/
def Dev.setTrims (d : Dev) (a k : Nat) (vs : List Int) : Dev :=
  (List.range 3).foldl (fun d t =>
    let F := trimFld (R.ADC_TRIM_TRIM k) t
    d.setS (pAdc a) F (satS F.w (vs.getD t 0))) d

/-- Does a needed trim lie at or beyond an end of its range (R206)? -/
def railed (vs : List Int) : Bool :=
  (List.range 3).any fun t =>
    let m : Int := if t = 2 then 2048 else 512
    decide (vs.getD t 0 ≤ -m) || decide (m - 1 ≤ vs.getD t 0)

/-- SPEC_OK of ADC `a` (R206). -/
def Dev.specOk (d : Dev) (a : Nat) (ok : Bool) : Dev :=
  let d := if !ok && d.flag (pAdc a) R.ADC_STAT_SPEC_OK then d.raiseEvt (pAdc a) 1 else d
  d.setFlag (pAdc a) R.ADC_STAT_SPEC_OK ok

/-- Slice `k` of ADC `a` is retired (R206). -/
def Dev.retire (d : Dev) (a k : Nat) : Dev :=
  let c := d.adcCal a
  let first := !d.flag (pAdc a) R.ADC_STAT_NO_SPARE
  let spare := d.fld (pAdc a) R.ADC_STAT_SPARE
  let d := d.setAdcCal a { c with retired := c.retired ++ [k], stepping := false,
                                  replace := if first && spare != k then some k else c.replace }
  let d := if first && spare == k then d.setFld (pAdc a) R.ADC_STAT_SPARE 31 else d
  let d := ((d.setFld (pAdc a) R.ADC_STAT_NO_SPARE 1).bump (pAdc a) R.ADC_CNT2_RETIRED).raiseEvt (pAdc a) 0
  (d.raiseFault 121 (pAdc a) false).showBg

/-- A rotation step of ADC `a` begins (R203). -/
def Dev.rotate (d : Dev) (a : Nat) : Dev :=
  if d.bgRuns a then d.setAdcCal a { d.adcCal a with stepping := true } else d

/-- The spare of ADC `a` takes the position of a railed slice, for good (R206). -/
def Dev.replaceSlice (d : Dev) (a k : Nat) : Dev :=
  let d := d.setAdcCal a { d.adcCal a with replace := none }
  match (List.range 16).find? fun p => d.sliceAt a p == k with
  | some p =>
    ((d.setSlice a p (d.fld (pAdc a) R.ADC_STAT_SPARE)).setFld (pAdc a) R.ADC_STAT_SPARE 31).bump (pAdc a) R.ADC_CNT_HANDOVER
  | none => d

/-- A rotation step of ADC `a` ends (Table 09-4): the spare takes position ROT, or the step is counted in NOHAND; a spare that
needs a railed trim is retired. A handover that waits for a railed slice is made instead. -/
def Dev.handover (d : Dev) (a : Nat) (m : SpareMeas) : Dev :=
  let c := d.adcCal a
  match c.replace with
  | some k => (d.replaceSlice a k).specOk a m.specOk
  | none =>
    if !(d.bgRuns a && c.stepping) then d
    else
      let k := d.fld (pAdc a) R.ADC_STAT_SPARE
      let d := d.setAdcCal a { c with stepping := false }
      let need := [m.offset, if m.quiet then d.interpAdc a k 1 else m.gain, if m.quiet then d.interpAdc a k 2 else m.skew]
      let d := if m.quiet then d.bump (pAdc a) R.ADC_CNT2_QUIET else d
      if railed need then (d.retire a k).specOk a m.specOk
      else
        let d := d.setTrims a k need
        if 1 < m.rOffset ∨ 2 < m.rGain ∨ 4 < m.rSkew then d.bump (pAdc a) R.ADC_CNT_NOHAND
        else
          let p := d.fld (pAdc a) R.ADC_STAT_ROT
          let old := d.sliceAt a p
          let d := ((d.setSlice a p k).setFld (pAdc a) R.ADC_STAT_SPARE old).bump (pAdc a) R.ADC_CNT_HANDOVER
          (d.setFld (pAdc a) R.ADC_STAT_ROT ((p + 1) % 16)).foldSlice a k need

/-! ### Calibration runs (R209, R214 to R217) -/

/-- The converters CAL_MASK names: ADC0 to ADC7, then DAC0 to DAC7. -/
def Dev.calMask (d : Dev) : Nat := d.fld pCal R.CAL_MASK_ADC + d.fld pCal R.CAL_MASK_DAC * 2 ^ 8

/-- The bytes CAL_SIG is formed over: the set window, then the identity (R215). -/
def Dev.calSigBytes (d : Dev) : List Nat :=
  ((List.range 5120).map fun i => (d.reg (pCal + 0x1000 + i / 4 * 4)).toNat / 256 ^ (i % 4) % 256) ++
    (List.range 8).map fun i => Config.uid.toNat / 256 ^ i % 256

/-- The first condition of Table 09-9 that refuses a request (1 START, 2 LOAD, 3 LEVEL); 0 for none. -/
def Dev.calRefuse (d : Dev) (kind : Nat) : Nat :=
  let m := d.calMask
  let st := d.fld pCal R.CAL_STAT_STATE
  let notCal (c : Nat) : Bool := d.grpEff (convGroup c) != 6
  if d.fld pDev R.DEV_PWR_EFF < 2 ∨ ((List.range 16).any fun c =>
      m.testBit c && (notCal c || (decide (8 ≤ c) && notCal (c - 8)))) then 1
  else if 1 ≤ st ∧ st ≤ 3 then 2
  else if kind = 2 ∧ crc32c d.calSigBytes ≠ d.fld pCal R.CAL_SIG_EXP_SIG then 3
  else if kind = 2 ∧ ((List.range 8).any fun s =>
      !d.flag pCal (R.CALW_HDR_VALID s) || d.sfld pCal (R.CALW_HDR_TPOINT s) != 256 * calPoint s) then 4
  else if kind = 2 ∧ d.flag pCal R.CAL_CTL_FREEZE_SETS = false then 5
  else if (List.range 2).any fun s =>
      d.flag (pSyn s) R.SYN_STAT_CAL_BUSY && ((d.synSt s).cause == 1 || (d.synSt s).cause == 2) then 6
  else 0

/-- A run begins, or its request is refused with a code (R209, R214, R216). -/
def Dev.calBegin (d : Dev) (kind : Nat) : Dev :=
  match d.calRefuse kind with
  | 0 =>
    let d := { d with cal := { d.cal with kind := kind, step := 1, mask := d.calMask, abort := false, failed := 0, found := [] } }
    let d := d.setFld pCal R.CAL_STAT_STATE kind
    let d := if kind = 3 then d else (d.setFld pCal R.CAL_STAT_FAIL 0).setFld pCal R.CAL_STAT_FALLBACK 0
    if kind = 1 then (d.synBegin 0 4).synBegin 1 4 else d
  | c => d.setFld pCal R.CAL_STAT_REFUSE c

/-- ABORT is written: a START or LOAD run stops at its next stopping point, unless its set fill has begun (R214). -/
def Dev.calAbortReq (d : Dev) : Dev :=
  if (d.cal.kind = 1 ∧ d.cal.step ≠ 5) ∨ (d.cal.kind = 2 ∧ d.cal.step ≠ 9) then { d with cal := { d.cal with abort := true } } else d

/-- The results of level checks are shown (R209). -/
def Dev.levelTake (d : Dev) (mask : Nat) (ms : List LevelMeas) : Dev :=
  (ms.filter fun m => mask.testBit m.adc.val).foldl (fun d m =>
    let pg := pAdc m.adc.val
    let hi : Int := if d.flag pg R.ADC_CTL_INBAND then satS 16 m.errHi else -32768
    ((d.setS pg R.ADC_LEVEL_ERR (satS 16 m.err)).setS pg R.ADC_LEVEL_ERR_HI hi).raiseEvt pg 2) d

/-- A level check asked for by CAL_CTL.LEVEL ends (R209). -/
def Dev.levelDone (d : Dev) (ms : List LevelMeas) : Dev :=
  if d.cal.kind = 3 then
    let d := d.levelTake d.cal.mask ms
    { d with cal := { d.cal with kind := 0, step := 0 } }.setFld pCal R.CAL_STAT_STATE 4
  else d

/-- Measured slices of a calibration take their trims, and railed ones retire (R206, R214). -/
def Dev.takeSlices (d : Dev) (mask : Nat) (ms : List SliceMeas) : Dev :=
  (ms.filter fun m => mask.testBit m.adc.val).foldl (fun d m =>
    let a := m.adc.val
    let k := m.slice.val
    let need := [m.offset, m.gain, m.skew]
    let d := { d with cal := { d.cal with found := mput (0, 0, 0) d.cal.found (17 * a + k) (m.offset, m.gain, m.skew) } }
    let d := d.setTrims a k need
    if railed need && !(d.adcCal a).retired.contains k then d.retire a k else d) d

/-- Measured DACs of a calibration take their trims (R208). -/
def Dev.takeDacs (d : Dev) (mask : Nat) (ms : List DacMeas) : Dev :=
  (ms.filter fun m => mask.testBit (8 + m.dac.val)).foldl (fun d m =>
    let k := m.dac.val
    let d := { d with cal := { d.cal with found := mput (0, 0, 0) d.cal.found (136 + k) (m.gain, m.offset, 0) } }
    (d.setS (pDac k) R.DAC_TRIM_GAIN (satS 12 m.gain)).setS (pDac k) R.DAC_TRIM_OFFSET (satS 12 m.offset)) d

/-- Every set takes the measured values of the converters of a mask, by the temperature model (R213). -/
def Dev.fillSets (d : Dev) (mask : Nat) (tm : Int) : Dev :=
  let d := (List.range 8).foldl (fun d s =>
    let dt := 256 * calPoint s - tm
    let d := d.cal.found.foldl (fun d e =>
      if e.1 < 136 then
        if mask.testBit (e.1 / 17) then
          (List.range 3).foldl (fun d t =>
            let F := trimFld (R.CALW_ADC_TRIM s e.1) t
            d.setS pCal F (satS F.w ([e.2.1, e.2.2.1, e.2.2.2].getD t 0 + Config.tempModel t dt))) d
        else d
      else if mask.testBit (8 + (e.1 - 136)) then
        (List.range 2).foldl (fun d t =>
          let F := dacTrimFld (R.CALW_DAC_TRIM s (e.1 - 136)) t
          d.setS pCal F (satS 12 ([e.2.1, e.2.2.1].getD t 0 + Config.tempModel (3 + t) dt))) d
      else d) d
    (d.setFld pCal (R.CALW_HDR_VALID s) 1).setFld pCal (R.CALW_HDR_LEARNED s) 0) d
  { d with cal := { d.cal with learnCnt := [] } }

/-- After a calibration slice p stands in position p and slice 16 is the spare (R202); the ADC meets R207. -/
def Dev.adcFresh (d : Dev) (a : Nat) : Dev :=
  if d.flag (pAdc a) R.ADC_STAT_NO_SPARE then d
  else
    let d := (List.range 16).foldl (fun d p => d.setSlice a p p) d
    ((d.setFld (pAdc a) R.ADC_STAT_SPARE 16).setFld (pAdc a) R.ADC_STAT_ROT 0).specOk a true

/-- Does a slice measurement fail verification (R217)? -/
def Dev.sliceFails (d : Dev) (m : SliceMeas) : Bool :=
  let i (t : Nat) : Int := d.interpAdc m.adc.val m.slice.val t
  decide (8 < (m.offset - i 0).natAbs) || decide (8 < (m.gain - i 1).natAbs) || decide (16 < (m.skew - i 2).natAbs)

/-- Does a level check fail verification (R217): more than 0.3 dB in a check that ran? -/
def Dev.levelFails (d : Dev) (m : LevelMeas) : Bool :=
  decide (768 < 10 * m.err.natAbs) || (d.flag (pAdc m.adc.val) R.ADC_CTL_INBAND && decide (768 < 10 * m.errHi.natAbs))

/-- Does a loopback measurement fail verification (R217)? -/
def Dev.dacFails (d : Dev) (m : DacMeas) : Bool :=
  decide (16 < (m.gain - d.sfld (pDac m.dac.val) R.DAC_TRIM_GAIN).natAbs) ||
    decide (16 < (m.offset - d.sfld (pDac m.dac.val) R.DAC_TRIM_OFFSET).natAbs)

/-- A mask of the converters for which something failed. -/
def addFails (m : Nat) (cs : List Nat) : Nat := cs.foldl (fun m c => if m.testBit c then m else m + 2 ^ c) m

/-- Move a run to a step. -/
def Dev.calStep (d : Dev) (s : Nat) : Dev := { d with cal := { d.cal with step := s } }

/-- The step of a calibration of the converters of `mask` after step `s` (2 slices, 3 levels, 4 DACs, 5 fill): steps without a
converter are skipped (R214). -/
def nextCal (mask s : Nat) : Nat :=
  if s < 2 ∧ mask % 256 ≠ 0 then 2 else if s = 2 then 3 else if s < 4 ∧ 256 ≤ mask then 4 else 5

/-- One step of a calibration of the converters of `mask` ends with what it measured (Table 09-7). -/
def Dev.calWork (d : Dev) (mask s : Nat) (m : CalMeas) : Dev :=
  match s with
  | 2 => d.takeSlices mask m.slices
  | 3 => d.levelTake mask m.levels
  | 4 => d.takeDacs mask m.dacs
  | _ => ((List.range 8).filter fun a => mask.testBit a).foldl Dev.adcFresh (d.fillSets mask m.tMean)

/-- Both synthesisers have declared lock. -/
def Dev.bothLocked (d : Dev) : Bool :=
  (List.range 2).all fun s => d.flag (pSyn s) R.SYN_STAT_LOCK && !d.flag (pSyn s) R.SYN_STAT_CAL_BUSY

/-- A step of a START run ends (Table 09-7). -/
def Dev.startStep (d : Dev) (m : CalMeas) : Dev :=
  let s := d.cal.step
  let mask := d.cal.mask
  if s = 1 then (if d.bothLocked then d.calStep (nextCal mask 1) else d)
  else if m.sliceOnly then d.calWork mask s m
  else
    let d := d.calWork mask s m
    if s = 5 then d.calEnd true else d.calStep (nextCal mask s)

/-- A step of a LOAD run ends (Table 09-8); converters that fail verification are calibrated in steps 6 to 9 (R217). -/
def Dev.loadStep (d : Dev) (m : CalMeas) : Dev :=
  let s := d.cal.step
  let mask := d.cal.mask
  let fail (d : Dev) (cs : List Nat) : Dev := { d with cal := { d.cal with failed := addFails d.cal.failed cs } }
  if s = 1 then ((d.calStep 2).synBegin 0 4).synBegin 1 4
  else if s = 2 then (if d.bothLocked then d.calStep 3 else d)
  else if s = 3 then
    let d := fail d ((m.slices.filter fun x => mask.testBit x.adc.val && d.sliceFails x).map (·.adc.val))
    if m.sliceOnly then d else d.calStep 4
  else if s = 4 then
    (fail (d.levelTake mask m.levels) ((m.levels.filter fun x => mask.testBit x.adc.val && d.levelFails x).map
      (·.adc.val))).calStep 5
  else if s = 5 then
    let d := fail d ((m.dacs.filter fun x => mask.testBit (8 + x.dac.val) && d.dacFails x).map (8 + ·.dac.val))
    let good := (List.range 8).filter fun a => mask.testBit a && !d.cal.failed.testBit a
    let d := good.foldl (fun d a => d.specOk a (!d.flag (pAdc a) R.ADC_STAT_NO_SPARE)) d
    if m.sliceOnly then d
    else if d.cal.failed = 0 then d.calEnd true
    else ((d.setFld pCal R.CAL_STAT_FALLBACK d.cal.failed).raiseEvt pCal 2).calStep (nextCal d.cal.failed 1 + 4)
  else
    let f := d.cal.failed
    let d := d.calWork f (s - 4) m
    if m.sliceOnly then d else if s = 9 then d.calEnd true else d.calStep (nextCal f (s - 4) + 4)

/-- A step of a run, or a stopping point within it, ends; an abort asked for takes effect there (R214). -/
def Dev.calStepDone (d : Dev) (m : CalMeas) : Dev :=
  if d.cal.kind = 0 ∨ d.cal.kind = 3 then d
  else if d.cal.abort then d.calEnd false
  else if d.cal.kind = 1 then d.startStep m else d.loadStep m

/-! ### Saving and reloading (R215, R216) -/

/-- FREEZE_SETS is written: while it is 1 no fold is made; the signature is formed anew (R212, R215). -/
def Dev.freezeSets (d : Dev) (on : Bool) : Dev :=
  (d.setFlag pCal R.CAL_CTL_FREEZE_SETS on).setFld pCal R.CAL_STAT_SIG_VALID 0

/-- CAL_SIG becomes current for the frozen window (R215). -/
def Dev.calSig (d : Dev) : Dev :=
  if d.flag pCal R.CAL_CTL_FREEZE_SETS then
    (d.setFld pCal R.CAL_SIG_SIG (crc32c d.calSigBytes)).setFld pCal R.CAL_STAT_SIG_VALID 1
  else d

/-- May the set window be written (R216)? -/
def Dev.setsOpen (d : Dev) : Bool :=
  let st := d.fld pCal R.CAL_STAT_STATE
  d.flag pCal R.CAL_CTL_FREEZE_SETS && (st == 0 || st == 4 || st == 5)

/-- A write at offset `off` of the set window (R216). -/
def Dev.setWindow (d : Dev) (off : Nat) (w : Word) : Dev :=
  let a := pCal + 0x1000 + off / 4 * 4
  match (pageDefAt a).bind fun p => rowAt p (offOf p a) with
  | none => if d.setsOpen then d else d.badAcc a
  | some r =>
    if d.setsOpen then
      let m := BitVec.ofNat 32 r.writable
      (((d.setReg a ((d.reg a &&& ~~~ m) ||| (w &&& m))).setFld pCal R.CAL_STAT_SIG_VALID 0)).levelOff 124 pCal
    else d.badAcc a

end Sys2Proof.Machine
end

