-- ==== Sys2Proof/Machine/HaulFrame.lean ====
section
/-! DEFINITION. The haul frame (R286 to R292, Tables 13-1 and 13-4): byte fields, segments, slot orders and stream schedules. -/

namespace Sys2Proof.Machine

/-! ### Bytes -/

/-- `v` in `n` bytes, little-endian. -/
def le : Nat → Nat → List Nat
  | 0, _ => []
  | n + 1, v => v % 256 :: le n (v / 256)

/-- A little-endian number of `n` bytes at place `a` of a list. -/
def bytesNum (f : List Nat) (a : Nat) : Nat → Nat
  | 0 => 0
  | n + 1 => f.getD a 0 + 256 * bytesNum f (a + 1) n

/-- A list cut or filled with zeros to `n` bytes. -/
def padTo (n : Nat) (l : List Nat) : List Nat := l.take n ++ List.replicate (n - l.length) 0

/-- Bytes in a haul frame. -/
def frameBytes : Nat := 3232

/-- Does a received frame pass its check (R308)? -/
def frameOk (f : List Nat) : Bool := f.length == frameBytes && crc32c (f.take 3228) == bytesNum f 3228 4

/-- The payload of a frame. -/
def payload (f : List Nat) : List Nat := (f.drop 64).take 3136

/-- TYPE of a frame. -/
def frameType (f : List Nat) : Nat := f.getD 0 0

/-- The position a frame says it was sent in. -/
def framePos (f : List Nat) : Nat := f.getD 6 0

/-- Is a frame of this type allowed at its position (R288)? -/
def typeAllowed (t q : Nat) : Bool :=
  if q = 0 then t == 3 else if q = 16 ∨ q = 32 ∨ q = 48 then t == 4 || t == 0 else t == 0 || t == 1 || t == 2

/-- Are poison bits set in a frame's trailer? -/
def framePoison (f : List Nat) : Nat := bytesNum f 3200 8

/-- What a frame carries besides TYPE, SRC, PERIOD and POS. -/
structure FrameParts where
  typ : Nat
  occ : Nat
  stamp : Nat
  stampCh : Nat
  stampJ : Nat
  dst : Nat
  body : List Nat
  poison : Nat
  origin : Nat

/-- A frame's bytes (Table 13-1). -/
def makeFrame (src period pos credit : Nat) (p : FrameParts) : List Nat :=
  let f := [p.typ, 0] ++ le 2 src ++ le 2 period ++ [pos, 0] ++ le 4 credit ++ le 8 p.occ ++ le 5 p.stamp ++
    [p.stampCh, p.stampJ, 0, 0, 0, 0, 0] ++ le 2 p.dst ++ List.replicate 30 0 ++ padTo 3136 p.body ++ le 8 p.poison ++
    le 2 p.origin ++ List.replicate 18 0
  f ++ le 4 (crc32c f)

/-! ### Grid time -/

/-- Units of grid time before it repeats: 1,024 frames. -/
def gridSpan : Nat := 1024 * frameTicks * tickUnits

/-- Units in 1/32 tick. -/
def stampUnits : Nat := tickUnits / 32

/-- The counter now, in grid units. -/
def Dev.gridNow (d : Dev) : Nat := d.now * tickUnits % gridSpan

/-- A grid time as a STAMP: frame, tick and 1/32 tick. -/
def toStamp (t : Nat) : Nat :=
  let v := t % gridSpan / stampUnits
  v / (frameTicks * 32) * 2 ^ 28 + v % (frameTicks * 32) / 32 * 2 ^ 5 + v % 32

/-- A STAMP as a grid time. -/
def ofStamp (s : Nat) : Nat := ((s / 2 ^ 28 % 1024 * frameTicks + s / 2 ^ 5 % 2 ^ 23) * 32 + s % 32) * stampUnits % gridSpan

/-- The signed difference of two grid times. -/
def gridDiff (a b : Nat) : Int := wrap16 ((a : Int) - b) gridSpan

/-! ### Schedules (R290, R291, R293) -/

/-- Segments per period of a stream of channel `n` (R290). -/
def Dev.segCount (d : Dev) (n : Nat) : Nat :=
  let t := max 1 (d.delayCfg n).tch
  (8192 * tickUnits + 16 * t - 1) / (16 * t)

/-- The descriptor of channel `n` as it stands. -/
def Dev.chDesc (d : Dev) (n : Nat) : Nat × Nat × Nat × Nat × Nat :=
  (n, d.fld (pCh n) R.CH_DEF_RATE_K, d.fld (pCh n) R.CH_DEF_RANK, d.fld (pCh n) R.CH_DEF_RESAMP,
   d.fld (pCh n) R.CH_RS_STEP_STEP)

/-- Does channel `n` send on port `h`? -/
def Dev.sends (d : Dev) (h n : Nat) : Bool := d.chOn n && (d.fld (pCh n) R.CH_DEF_HAUL_FWD).testBit h

/-- Does channel `n` receive on port `h`? -/
def Dev.takes (d : Dev) (h n : Nat) : Bool := d.chOn n && (d.fld (pCh n) R.CH_DEF_SRC_HAUL).testBit h

/-- The sending load of port `h` (R290). -/
def Dev.haulLoad (d : Dev) (h : Nat) : Nat :=
  ((List.range 192).filter (d.sends h)).foldl (fun s n => s + d.chRank n * d.segCount n) 0

/-- Segment slots in a period by format. -/
def slotCount (fmt : Nat) : Nat := if fmt = 0 then 2940 else 3840

/-- Segments in a frame by format. -/
def segsIn (fmt : Nat) : Nat := if fmt = 0 then 49 else 64

/-- A stream in the slot order: its key (none for EMPTY), its weight and its running count. -/
structure SlotLine where
  key : Option Nat
  weight : Nat
  c : Int

/-- The line with the largest count, the first among equals. -/
def slotBest : List SlotLine → Option SlotLine
  | [] => none
  | l :: r =>
    match slotBest r with
    | none => some l
    | some b => some (if l.c < b.c then b else l)

/-- `x` slots from where the counts stand (R291). -/
def slotRun (s : Nat) : Nat → List SlotLine → List (Option Nat)
  | 0, _ => []
  | x + 1, ls =>
    let ls := ls.map fun l => { l with c := l.c + l.weight }
    match slotBest ls with
    | none => []
    | some b => b.key :: slotRun s x (ls.map fun l => if l.key = b.key then { l with c := l.c - s } else l)

/-- The slot order of a schedule: streams by channel, then by j, then EMPTY (R291). -/
def Dev.slotOrder (d : Dev) (h : Nat) (s : Sched) : List (Option Nat) :=
  let n := slotCount (d.fld (pHaul h) R.HAUL_CTL_FMT)
  let ls := s.descs.flatMap fun e =>
    (List.range (rankOf e.2.2.1)).map fun j => ({ key := some (streamKey e.1 j), weight := d.segCount e.1, c := 0 } : SlotLine)
  let used := ls.foldl (fun t l => t + l.weight) 0
  slotRun n n (ls ++ [{ key := none, weight := n - used, c := 0 }])

/-- The segment slots of sample position `q` of a slot order. -/
def slotsAt (fmt q : Nat) (slots : List (Option Nat)) : List (Option Nat) :=
  let p := q - 1 - (if 16 < q then 1 else 0) - (if 32 < q then 1 else 0) - (if 48 < q then 1 else 0)
  (slots.drop (p * segsIn fmt)).take (segsIn fmt)

/-! ### Segments (R289) -/

/-- The exponent of a SAMPLEC segment: the least in 0..4 under which every word fits. -/
def segExp (ws : List SampleWord) : Nat :=
  let fits (e : Nat) : Bool := ws.all fun w => w.spoil || ((roundConv w.i.toInt e).natAbs ≤ 2047 && (roundConv w.q.toInt e).natAbs ≤ 2047)
  ((List.range 4).find? fits).getD 4

/-- A segment's bytes, with the words clamped. -/
def segBytes (fmt : Nat) (ws : List SampleWord) : List Nat × Nat :=
  if fmt = 0 then
    (ws.flatMap fun w => if w.spoil then [0, 0x80, 0, 0] else le 2 w.i.toNat ++ le 2 w.q.toNat, 0)
  else
    let e := segExp ws
    let m (v : BitVec 16) : Int := roundConv v.toInt e
    let b := ws.flatMap fun w =>
      if w.spoil then le 3 0x800
      else le 3 (twos 12 (satTo 2047 (m w.i)).1 + twos 12 (satTo 2047 (m w.q)).1 * 2 ^ 12)
    (e :: b, (ws.filter fun w => !w.spoil && ((satTo 2047 (m w.i)).2 || (satTo 2047 (m w.q)).2)).length)

/-- Bytes of a segment. -/
def segSize (fmt : Nat) : Nat := if fmt = 0 then 64 else 49

/-- The words of segment `i` of a sample payload. -/
def segWords (fmt i : Nat) (p : List Nat) : List SampleWord :=
  let a := i * segSize fmt
  (List.range 16).map fun k =>
    if fmt = 0 then
      let iv := bytesNum p (a + 4 * k) 2
      if iv = 0x8000 then spoilWord else mkWord (signed 16 iv) (signed 16 (bytesNum p (a + 4 * k + 2) 2))
    else
      let e := p.getD a 0 % 8
      let v := bytesNum p (a + 1 + 3 * k) 3
      if v % 2 ^ 12 = 0x800 then spoilWord
      else mkWord (signed 12 (v % 2 ^ 12) * (2 ^ e : Nat)) (signed 12 (v / 2 ^ 12) * (2 ^ e : Nat))

end Sys2Proof.Machine
end

