-- ==== Sys2Proof/Machine/HaulOps.lean ====
section
/-! DEFINITION. Haul links and the cascade (R282 to R311): link states, frames sent and received, playout and the junction, time
exchange, enumeration, the cascade-wide sync, and the noise account (R191, R192). -/

namespace Sys2Proof.Machine

/-! ### Ports and routes -/

/-- Haul port `h`: 0 UP, 1 DA, 2 DB. -/
def Dev.port (d : Dev) (h : Nat) : HaulSt := mat .init d.haul h

/-- Change haul port `h`. -/
def Dev.setPort (d : Dev) (h : Nat) (s : HaulSt) : Dev := { d with haul := mput .init d.haul h s }

/-- The link state of port `h`: 0 DOWN, 1 LOCK, 2 ALIGN, 3 UP, 4 TIMED. -/
def Dev.linkState (d : Dev) (h : Nat) : Nat := d.fld (pHaul h) R.HAUL_LINK_STATE

/-- Is the link of port `h` UP or TIMED? -/
def Dev.linkUp (d : Dev) (h : Nat) : Bool := decide (3 ≤ d.linkState h)

/-- This device's address as frames carry it: 0xFFFF when unaddressed. -/
def Dev.ownAddr (d : Dev) : Nat :=
  if d.flag (pHaul 0) R.HAUL_CASC_STAT_ADDRESSED then d.fld (pHaul 0) R.HAUL_CASC_STAT_ADDR else 0xFFFF

/-- Is `a` in the subtree of downstream port `h` (R284)? -/
def Dev.inRange (d : Dev) (h a : Nat) : Bool :=
  let lo := d.fld (pHaul h) R.HAUL_RANGE_FIRST
  decide (lo ≠ 0 ∧ lo ≤ a ∧ a ≤ d.fld (pHaul h) R.HAUL_RANGE_LAST)

/-- Where a management frame for `a` goes (R305): 3 this device, 0 to 2 a port, none nowhere. -/
def Dev.route (d : Dev) (a : Nat) : Option Nat :=
  if d.flag (pHaul 0) R.HAUL_CASC_STAT_ADDRESSED && d.fld (pHaul 0) R.HAUL_CASC_STAT_ADDR == a then some 3
  else if d.inRange 1 a then some 1
  else if d.inRange 2 a then some 2
  else if d.isMaster then (if a = 0 then some 3 else none)
  else some 0

/-- Sending credit of port `h` (R306). -/
def Dev.credit (d : Dev) (h : Nat) : Nat :=
  let s := d.port h
  2048 - (s.sentUnits + 2 ^ 32 - s.peerFreed) % 2 ^ 32

/-- Show the credit and the buffer use of port `h`. -/
def Dev.showCredit (d : Dev) (h : Nat) : Dev :=
  (d.setFld (pHaul h) R.HAUL_CREDIT_AVAIL (d.credit h)).setFld (pHaul h) R.HAUL_CREDIT_USED (d.port h).usedUnits

/-- The 49 units of a frame leave the receive buffer of port `h` (R306). -/
def Dev.freeUnits (d : Dev) (h : Nat) : Dev :=
  if 3 ≤ h then d
  else
    let s := d.port h
    (d.setPort h { s with freedUnits := (s.freedUnits + 49) % 2 ^ 32, usedUnits := s.usedUnits - 49 }).showCredit h

/-! ### Absent streams (R294) -/

/-- Is the haul input of channel `n` by port `h` absent? -/
def Dev.haulAbsent (d : Dev) (h n : Nat) : Bool :=
  !d.linkUp h ||
    match (d.port h).rxSched with
    | none => true
    | some s => !s.descs.contains (d.chDesc n)

/-- Show ABSENT on a channel without a local source (R294). -/
def Dev.showAbsent (d : Dev) (n : Nat) : Dev :=
  if d.chOn n && !d.flag (pCh n) R.CH_DEF_SRC_LOCAL then
    let live := (List.range 3).any fun h => d.takes h n && !d.haulAbsent h n
    d.setFld (pCh n) R.CH_SV_STAT_ABSENT (if live then 0 else 2 ^ d.chRank n - 1)
  else d

/-- Show ABSENT on every channel that takes words from port `h`. -/
def Dev.showAbsents (d : Dev) (h : Nat) : Dev := ((List.range 192).filter (d.takes h)).foldl Dev.showAbsent d

/-! ### Enumeration (R284, R285) -/

/-- Set the ENUM field that port `h` sends. -/
def Dev.enumSend (d : Dev) (h : Nat) (f : Nat × Nat × Nat × Nat) : Dev :=
  { d with casc := { d.casc with enumOut := mput (0, 0, 0, 0) d.casc.enumOut h f } }

/-- The subtree range of port `h` after an enumeration of it from `first` to `last`: with KEEP it grows (log entry 26). -/
def Dev.enumRange (d : Dev) (h first last : Nat) : Dev :=
  let lo := d.fld (pHaul h) R.HAUL_RANGE_FIRST
  if d.casc.enumKeep ∧ lo ≠ 0 then d.setFld (pHaul h) R.HAUL_RANGE_LAST (max last (d.fld (pHaul h) R.HAUL_RANGE_LAST))
  else (d.setFld (pHaul h) R.HAUL_RANGE_FIRST first).setFld (pHaul h) R.HAUL_RANGE_LAST last

/-- The enumeration of this device's own ports ends: a child answers `done` to its parent; the master waits for ENUM_DONE. -/
def Dev.enumFinish (d : Dev) : Dev :=
  let d := { d with casc := { d.casc with enumPort := 0 } }
  if d.isMaster then d
  else
    let d := d.enumSend 0 (2, d.fld (pHaul 0) R.HAUL_CASC_STAT_ADDR, d.casc.enumLast, d.fld (pHaul 0) R.HAUL_CASC_STAT_HOPS)
    { d with casc := { d.casc with enumBusy := false } }.setFld (pHaul 0) R.HAUL_CASC_STAT_ENUM_BUSY 0

/-- The enumeration goes on from port `h` (R284): the next port with a link up is assigned, or refused and counted. -/
def Dev.enumFrom (d : Dev) : List Nat → Dev
  | [] => d.enumFinish
  | h :: rest =>
    if !d.linkUp h then Dev.enumFrom d rest
    else
      let hop := d.fld (pHaul 0) R.HAUL_CASC_STAT_HOPS
      if 64 ≤ hop ∨ 0xFFFF ≤ d.casc.enumLast then
        Dev.enumFrom ((d.bump (pHaul 0) R.HAUL_CASC_COUNT_REFUSED).enumSend h (3, 0, 0, 0)) rest
      else
        let keep := d.casc.enumKeep && d.flag (pHaul h) R.HAUL_PEER_ADDRESSED
        let a := if keep then d.fld (pHaul h) R.HAUL_PEER_ADDR else d.casc.enumLast + 1
        let last := if keep then d.casc.enumLast else a
        { d with casc := { d.casc with enumPort := h, enumLast := last } }.enumSend h (1, a, last, hop + 1)

/-- Port `h` answers that its subtree is done with `last` the highest address in use (R284). -/
def Dev.enumReply (d : Dev) (h a last : Nat) : Dev :=
  if d.casc.enumBusy && d.casc.enumPort == h then
    let d := ({ d with casc := { d.casc with enumLast := max last d.casc.enumLast } }.enumRange h a last).enumSend h (0, 0, 0, 0)
    d.enumFrom (if h = 1 then [2] else [])
  else d

/-- The peer of port `h` fails or refuses during an enumeration: its subtree stays unaddressed (R285). -/
def Dev.enumSkip (d : Dev) (h : Nat) : Dev :=
  if d.casc.enumBusy && d.casc.enumPort == h then
    let first := (d.casc.enumOut.find? fun e => e.1 == h).map (·.2.2.1)
    let back := if !d.casc.enumKeep && first == some d.casc.enumLast then d.casc.enumLast - 1 else d.casc.enumLast
    ({ d with casc := { d.casc with enumLast := back } }.enumSend h (0, 0, 0, 0)).enumFrom (if h = 1 then [2] else [])
  else d

/-- An assignment reaches this device: it takes the address and enumerates its own ports (R284). -/
def Dev.enumAssign (d : Dev) (a last hop : Nat) : Dev :=
  if d.casc.enumSeen = some (a, last, hop) then d
  else
    let was := d.ownAddr
    let d := { d with casc := { d.casc with enumSeen := some (a, last, hop), enumBusy := true, enumLast := last,
                                            enumKeep := was == a } }
    let d := (d.setFld (pHaul 0) R.HAUL_CASC_STAT_ADDR a).setFld (pHaul 0) R.HAUL_CASC_STAT_ADDRESSED 1
    let d := (d.setFld (pHaul 0) R.HAUL_CASC_STAT_HOPS hop).setFld (pHaul 0) R.HAUL_CASC_STAT_ENUM_BUSY 1
    let d := if was = a then d else (d.enumRange 1 0 0).enumRange 2 0 0
    d.enumFrom [1, 2]

/-- ENUM is set (R284, R285). -/
def Dev.enumStart (d : Dev) (keep : Bool) : Dev :=
  if !d.isMaster || d.casc.enumBusy then d.badAcc (pHaul 0 + 0x100)
  else
    let high := max (d.fld (pHaul 1) R.HAUL_RANGE_LAST) (d.fld (pHaul 2) R.HAUL_RANGE_LAST)
    let d := { d with casc := { d.casc with enumBusy := true, enumKeep := keep, enumLast := if keep then high else 0 } }
    let d := (d.setFld (pHaul 0) R.HAUL_CASC_STAT_ADDR 0).setFld (pHaul 0) R.HAUL_CASC_STAT_ADDRESSED 1
    let d := (d.setFld (pHaul 0) R.HAUL_CASC_STAT_HOPS 0).setFld (pHaul 0) R.HAUL_CASC_STAT_ENUM_BUSY 1
    let d := if keep then d else (d.enumRange 1 0 0).enumRange 2 0 0
    d.enumFrom [1, 2]

/-- Enumeration completes on the master (R284). -/
def Dev.enumEnd (d : Dev) : Dev :=
  if d.casc.enumBusy && d.casc.enumPort == 0 then
    let d := { d with casc := { d.casc with enumBusy := false } }.setFld (pHaul 0) R.HAUL_CASC_STAT_ENUM_BUSY 0
    (d.setFld (pHaul 0) R.HAUL_CASC_COUNT_DEVICES (d.casc.enumLast + 1)).raiseEvt (pHaul 0) 4
  else d

/-! ### Link states (R311) -/

/-- May port `h` look for its peer: enabled, with the haul PLL locked? -/
def Dev.portOn (d : Dev) (h : Nat) : Bool := d.flag (pHaul h) R.HAUL_CTL_EN && d.flag pDev R.DEV_CLK_STAT_HAUL_LOCK

/-- Put the link of port `h` in a state with a cause. -/
def Dev.setLink (d : Dev) (h st cause : Nat) : Dev :=
  ((d.setFld (pHaul h) R.HAUL_LINK_STATE st).setFld (pHaul h) R.HAUL_LINK_CAUSE cause).stir (pHaul h)

/-- Block lock is reached on four lanes. -/
def Dev.blockLock (d : Dev) (h : Nat) : Dev := if d.portOn h && d.linkState h == 0 then d.setLink h 1 0 else d

/-- Alignment blocks are seen on all lanes: a crossed lane holds the link down with CAUSE 4 (R286). -/
def Dev.linkAligned (d : Dev) (h : Nat) (ok : Bool) : Dev :=
  if d.linkState h = 1 then (if ok then d.setLink h 2 0 else d.setLink h 1 4) else d

/-- The link of port `h` leaves UP or TIMED, or its bring-up starts anew (R311). -/
def Dev.linkFail (d : Dev) (h cause : Nat) : Dev :=
  let up := d.linkUp h
  let s := d.port h
  let d := (d.setLink h 0 cause).setFlag (pHaul h) R.HAUL_LINK_PEER_MASTER false
  let d := d.levelOff (153 + 8 * h) (pHaul h)
  let lost := s.out
  let d := lost.foldl (fun d f => d.freeUnits f.port) d
  let s := d.port h
  let d := d.setPort h { s with out := [], play := [], next := [], grid := [], rxSched := none, rxNew := none, rxSlots := [],
                                thetas := [], missing := 0 }
  let d := { d with wires := { d.wires with lost := d.wires.lost ++ lost } }
  let d := if h = 0 then { d with outbox := [] } else d
  let d := { d with casc := { d.casc with reports := mclear d.casc.reports (256 * h) (256 * h + 256) } }
  let d := (d.enumSkip h).showAbsents h
  if up then
    let d := ((d.bump (pHaul h) R.HAUL_CNT_C_LINK_DOWN).raiseEvt (pHaul h) 1).recCount (846 + h) 1
    if h = 0 then d.setQual 3 false else d
  else d

/-- The exchange of CTRL frames brings the link UP: roles are checked and credits restart (R282, R283, R306). -/
def Dev.linkMeet (d : Dev) (h role : Nat) : Dev :=
  if d.linkState h ≠ 2 then d
  else
    let peerDown := role % 2 == 1
    let master := role / 2 % 2 == 1 || (h == 0 && d.isMaster)
    if peerDown = decide (h ≠ 0) ∨ (h = 0 ∧ d.isMaster = true) then
      let d := (d.setLink h 2 5).setFlag (pHaul h) R.HAUL_LINK_PEER_MASTER master
      if master then d.levelOn (153 + 8 * h) (pHaul h) else d
    else
      let s := d.port h
      let d := d.setPort h { s with sentUnits := 0, freedUnits := 0, peerFreed := 0, usedUnits := 0, missing := 0, thetas := [] }
      let d := ((d.setLink h 3 0).setFlag (pHaul h) R.HAUL_LINK_PEER_MASTER master).raiseEvt (pHaul h) 0
      (d.levelOff (153 + 8 * h) (pHaul h)).showCredit h

/-! ### Schedules (R293, R294) -/

/-- Port `h` announces the streams it sends now, for a take 4 periods ahead (log entry 27). -/
def Dev.announce (d : Dev) (h : Nat) : Dev :=
  let s := d.port h
  let descs := ((List.range 192).filter (d.sends h)).map d.chDesc
  let cur := (s.txNew.orElse fun _ => s.txSched).map (·.descs)
  let d := d.setFld (pHaul h) R.HAUL_LOAD_TX (d.haulLoad h)
  if cur = some descs ∨ (cur = none ∧ descs = []) then d
  else
    let v := match s.txNew.orElse fun _ => s.txSched with
      | some x => (x.version + 1) % 256
      | none => 1
    d.setPort h { s with txNew := some { take := (s.period + 4) % 2 ^ 16, version := v, descs := descs } }

/-- At the take both ends change to the new slot order (R293, R294). -/
def Dev.schedTake (d : Dev) (h : Nat) : Dev :=
  let s := d.port h
  if !d.linkUp h || (s.txNew.isNone && s.rxNew.isNone) then d
  else
    let d := match s.txNew with
      | none => d
      | some x =>
        let keep : List Nat := x.descs.flatMap fun (e : Nat × Nat × Nat × Nat × Nat) => (List.range (rankOf e.2.2.1)).map fun j => streamKey e.1 j
        d.setPort h { s with txSched := some x, txNew := none, txSlots := d.slotOrder h x,
                             segs := s.segs.filter fun p => keep.contains p.1, grow := s.grow.filter fun p => keep.contains p.1 }
    let d := match s.rxNew with
      | none => d
      | some x =>
        let t := d.port h
        let d := d.setPort h { t with rxSched := some x, rxNew := none, rxSlots := d.slotOrder h x }
        let bad := (List.range 192).filter fun n => d.takes h n && (x.descs.any fun e => e.1 == n) && d.haulAbsent h n
        let d := d.bumpBy (pHaul h) R.HAUL_CNT_D_MISMATCH bad.length
        if bad.isEmpty then d else d.raiseEvt (pHaul h) 5
    (d.raiseEvt (pHaul h) 3).showAbsents h

/-! ### Sending (R287 to R291) -/

/-- A haul period begins (R287); one without a good CTRL frame before it counts toward the loss of time lock (R302). -/
def Dev.periodBegin (d : Dev) (h : Nat) : Dev :=
  if !d.portOn h then d
  else
    let s := d.port h
    let d := d.setPort h { s with period := (s.period + 1) % 2 ^ 16, pos := 0, missing := s.missing + 1 }
    if 8 ≤ s.missing ∧ d.linkState h = 4 then
      ((d.setLink h 3 0).setPort h { d.port h with thetas := [] }).setQual 3 false
    else d

/-- A junction word of stream `j` of channel `n` with its grid time joins the segment that grows for port `h`; a fifth complete
segment displaces the oldest (R291). -/
def Dev.haulGrow (d : Dev) (h n j time : Nat) (w : SampleWord) : Dev :=
  let s := d.port h
  let k := streamKey n j
  if !d.linkUp h || !(s.txSlots.contains (some k)) then d
  else
    let g := mat (0, []) s.grow k
    let g := if g.2.isEmpty then (time, [w]) else (g.1, g.2 ++ [w])
    if g.2.length < 16 then d.setPort h { s with grow := mput (0, []) s.grow k g }
    else
      let l := mat [] s.segs k ++ [g]
      let full := decide (4 < l.length)
      let d := d.setPort h { s with grow := mput (0, []) s.grow k (0, []),
                                    segs := mput [] s.segs k (if full then l.drop 1 else l) }
      if full then d.bump (pHaul h) R.HAUL_CNT_D_OVERFLOW else d

/-- What the segments of one sample frame hold. -/
structure SegFill where
  dev : Dev
  bytes : List Nat
  occ : Nat
  first : Option (Nat × Nat)

/-- The segments of a sample position: each slot's stream gives its oldest complete segment (R291). -/
def Dev.fillSegs (d : Dev) (h fmt : Nat) (slots : List (Option Nat)) : SegFill :=
  (slots.zip (List.range slots.length)).foldl (fun (a : SegFill) si =>
    let s := a.dev.port h
    match si.1 with
    | none => { a with bytes := a.bytes ++ List.replicate (segSize fmt) 0 }
    | some k =>
      match mat [] s.segs k with
      | [] => { a with bytes := a.bytes ++ List.replicate (segSize fmt) 0 }
      | g :: rest =>
        let b := segBytes fmt g.2
        { dev := (a.dev.setPort h { s with segs := mput [] s.segs k rest }).addSat (k / 4) b.2,
          bytes := a.bytes ++ b.1, occ := a.occ + 2 ^ si.2, first := a.first.orElse fun _ => some (k, g.1) })
    { dev := d, bytes := [], occ := 0, first := none }

/-- The port's next frame goes out (R288): its bytes stand as the frame sent last. An armed injection inverts its CRC (R364). -/
def Dev.emit (d : Dev) (h : Nat) (p : FrameParts) : Dev :=
  let s := d.port h
  let f := makeFrame d.ownAddr s.period s.pos s.freedUnits p
  let inj := d.injArmed (pHaul h) 0
  let d := if inj then d.injDone (pHaul h) else d
  let f := if inj then f.take (f.length - 4) ++ (f.drop (f.length - 4)).map (255 - ·) else f
  (d.setPort h { s with lastFrame := f, pos := (s.pos + 1) % 64 }).perf (1264 + 16 * h + p.typ) 1

/-- An EMPTY frame. -/
def emptyParts : FrameParts :=
  { typ := 0, occ := 0, stamp := 0, stampCh := 0, stampJ := 0, dst := 0, body := [], poison := 0, origin := 0 }

/-- The sample frame of port `h` at its position (R288, R291). -/
def Dev.sendSamples (d : Dev) (h : Nat) : Dev :=
  let s := d.port h
  let fmt := d.fld (pHaul h) R.HAUL_CTL_FMT
  let f := d.fillSegs h fmt (slotsAt fmt s.pos s.txSlots)
  match f.first with
  | none => d.emit h emptyParts
  | some kt =>
    f.dev.emit h { emptyParts with typ := 1 + fmt, occ := f.occ, stamp := toStamp kt.2, stampCh := kt.1 / 4,
                                   stampJ := kt.1 % 4, body := f.bytes }

/-- A record toward the host as 16 bytes, PHASE left to the master (Table 14-4). -/
def OutRec.bytes16 (r : OutRec) : List Nat :=
  le 2 (r.kind + r.err * 2 ^ 12) ++ le 2 r.tag ++ le 4 r.seq ++ le 8 r.data

/-- The next management payload of this device's own records: up to 195 records of one index, or one piece of an upload, after a
header of 16 bytes: what it holds, index, count, buffer address (log entry 28). -/
def ownPayload : List OutRec → Option (List Nat × List OutRec)
  | [] => none
  | r :: rest =>
    if r.kind = 0 then some ([2, r.idx] ++ le 2 r.bytes.length ++ le 2 r.tag ++ le 2 0 ++ le 8 r.data ++ r.bytes, rest)
    else
      let same := ((r :: rest).takeWhile fun x => x.kind != 0 && x.idx == r.idx).take 195
      some ([1, r.idx] ++ le 2 same.length ++ List.replicate 12 0 ++ same.flatMap OutRec.bytes16, (r :: rest).drop same.length)

/-- A MGMT position: a frame that waits goes out when there is credit, then this device's own records on HAUL_UP; else EMPTY
(R288, R306, R309). -/
def Dev.sendMgmt (d : Dev) (h : Nat) : Dev :=
  let s := d.port h
  let pay (d : Dev) : Dev :=
    let s := d.port h
    (d.setPort h { s with sentUnits := (s.sentUnits + 49) % 2 ^ 32 }).showCredit h
  if !d.linkUp h || decide (d.credit h < 49) then d.emit h emptyParts
  else match s.out with
    | f :: rest =>
      let d := pay ((d.setPort h { s with out := rest }).freeUnits f.port)
      d.emit h { emptyParts with typ := 4, dst := f.dst, body := f.body,
                                 poison := if f.poison then 2 ^ 64 - 1 else 0, origin := f.origin }
    | [] =>
      match if h = 0 && !d.isMaster then ownPayload d.outbox else none with
      | some pr => (pay { d with outbox := pr.2 }).emit h { emptyParts with typ := 4, dst := 0, body := pr.1 }
      | none => d.emit h emptyParts

/-- The NOISE field: the next 8 reports of this frame (R300). -/
def noiseField (frame : Nat) (rs : List (Nat × BranchRep)) : List Nat :=
  padTo 128 (rs.flatMap fun r =>
    [r.1, r.2.prio] ++ le 2 r.2.addr ++ le 2 (twos 16 r.2.nrep) ++ le 2 (twos 16 r.2.inref) ++ le 2 frame ++ [1, 0, 0, 0, 0, 0])

/-- The SCHED fields of port `h`: the announced schedule, else the one in force (Table 13-4). -/
def schedField (s : HaulSt) : List Nat :=
  match s.txNew.orElse fun _ => s.txSched with
  | none => List.replicate 1540 0
  | some x =>
    le 2 x.take ++ [x.descs.length % 256, x.version] ++
      padTo 1536 (x.descs.flatMap fun e => [e.1, e.2.1 + e.2.2.1 * 2 ^ 3 + e.2.2.2.1 * 2 ^ 5] ++ le 4 e.2.2.2.2 ++ [0, 0])

/-- ROOT_MODE and its condition as this device passes them on (R303): the master's own, else those received. -/
def Dev.rootMode (d : Dev) : Nat × Bool :=
  if d.isMaster then (d.fld pFrame R.FRAME_STAT_MODE, d.holdOk)
  else (d.fld (pHaul 0) R.HAUL_CASC_STAT_ROOT_MODE, d.flag (pHaul 0) R.HAUL_CASC_STAT_ROOT_HOLD_OK)

/-- The CTRL frame of port `h`, departing at this tick and 1/32 tick (R301, Table 13-4). -/
def Dev.sendCtrl (d : Dev) (h sub : Nat) : Dev :=
  let s := d.port h
  let rm := d.rootMode
  let dep := toStamp (d.gridNow + sub * stampUnits)
  let rs := if h = 0 then d.casc.reportQ.take 8 else []
  let d := if h = 0 then { d with casc := { d.casc with reportQ := d.casc.reportQ.drop 8 } } else d
  let e := mat (0, 0, 0, 0) d.casc.enumOut h
  let sync := match if h = 0 then none else d.casc.syncOut with
    | none => 0
    | some c => 1 + c.1 * 2 + c.2.1 * 2 ^ 9 + c.2.2.1 * 2 ^ 19 + c.2.2.2.1 * 2 ^ 42 + c.2.2.2.2.toNat * 2 ^ 58
  let role := (decide (h ≠ 0)).toNat + d.isMaster.toNat * 2 + (d.ownAddr != 0xFFFF || d.flag (pHaul 0) R.HAUL_CASC_STAT_ADDRESSED).toNat * 4
  let body := [role, d.fld (pHaul 0) R.HAUL_CASC_STAT_HOPS, d.fld pFrame R.FRAME_STAT_MODE + rm.1 * 8 + rm.2.toNat * 64] ++
    List.replicate 13 0 ++ le 8 dep ++ le 8 s.echoDep ++ le 8 s.echoArr ++ le 8 sync ++
    le 8 (e.1 + e.2.1 * 2 ^ 3 + e.2.2.1 * 2 ^ 19 + e.2.2.2 * 2 ^ 35) ++ List.replicate 8 0 ++
    noiseField d.frame.frame rs ++ schedField s
  d.emit h { emptyParts with typ := 3, body := body }

/-- A frame position of port `h` begins (R288). -/
def Dev.sendFrame (d : Dev) (h sub : Nat) : Dev :=
  if !d.portOn h || d.linkState h < 1 then d
  else
    let q := (d.port h).pos
    if q = 0 then d.sendCtrl h sub
    else if q = 16 ∨ q = 32 ∨ q = 48 then d.sendMgmt h
    else if d.linkUp h then d.sendSamples h else d.emit h emptyParts

/-! ### Receiving -/

/-- A frame fails its check or is not allowed where it stands (R288, R308); the sixteenth failure of a frame is a fault. -/
def Dev.haulCrcFail (d : Dev) (h : Nat) : Dev :=
  let s := d.port h
  let d := (d.setPort h { s with crcFrame := s.crcFrame + 1 }).bump (pHaul h) R.HAUL_CNT_A_CRC_FAIL
  let d := d.perf (1264 + 16 * h + 10) 1
  if s.crcFrame + 1 = 16 then d.raiseFault (152 + 8 * h) (pHaul h) false else d

/-- A received frame of type `t` that passes its check returns credit (R306) and is counted. -/
def Dev.haulGood (d : Dev) (h : Nat) (f : List Nat) : Dev :=
  let s := d.port h
  let d := if d.linkUp h then (d.setPort h { s with peerFreed := bytesNum f 8 4 }).showCredit h else d
  d.perf (1264 + 16 * h + 5 + frameType f) 1

/-- The mean of θ over the last exchanges is shown, and is the phase measurement of source HAUL (R301, R425). -/
def Dev.thetaMean (d : Dev) : Dev :=
  let l := (d.port 0).thetas
  if l.isEmpty then d
  else
    let sum := l.foldl (· + ·) 0
    let hi := l.foldl max (l.getD 0 0)
    let lo := l.foldl min (l.getD 0 0)
    let d := d.setS (pHaul 0) R.HAUL_OFS_THETA (satS 16 (ratio sum (781250 * l.length)))
    let d := d.setFld (pHaul 0) R.HAUL_OFS_SPREAD (min 0xFFFF (ratio (hi - lo) 12288).toNat)
    let d :=
      if l.length = 64 ∧ hi - lo ≤ 1000 * 12288 ∧ d.linkState 0 = 3 then
        ((d.setLink 0 4 0).raiseEvt (pHaul 0) 2).setQual 3 true
      else d
    if d.linkState 0 = 4 then d.measureFrom 3 (-(ratio sum (1562500 * l.length))) else d

/-- One exchange on HAUL_UP (R301): θ from the parent's departure and this arrival, this device's departure and the parent's
arrival, all in 1/32 tick. -/
def Dev.exchange (d : Dev) (t1 t2 t3 t4 : Nat) : Dev :=
  let a := gridDiff t2 t1 / (stampUnits : Int)
  let b := gridDiff t4 t3 / (stampUnits : Int)
  let num := (a - b) * 390625 - d.sfld (pHaul 0) R.HAUL_ASYM_ASYM * 6144
  let s := d.port 0
  let d := (d.setPort 0 { s with thetas := (num :: s.thetas).take 64 }).setFld (pHaul 0) R.HAUL_RTT_RTT (a + b).toNat
  d.thetaMean

/-- The ENUM field of a CTRL frame received on port `h` (R284, R285). -/
def Dev.enumField (d : Dev) (h v : Nat) : Dev :=
  let op := v % 8
  let a := v / 2 ^ 3 % 2 ^ 16
  let last := v / 2 ^ 19 % 2 ^ 16
  if h = 0 then
    if d.isMaster then d
    else if op = 1 then d.enumAssign a last (v / 2 ^ 35 % 128)
    else if op = 3 then
      ((d.setFld (pHaul 0) R.HAUL_CASC_STAT_ADDRESSED 0).setFld (pHaul 0) R.HAUL_CASC_STAT_ADDR 0xFFFF)
    else if op = 0 then { d with casc := { d.casc with enumSeen := none } }.enumSend 0 (0, 0, 0, 0)
    else d
  else if op = 2 then d.enumReply h a last
  else if op = 3 then d.enumSkip h else d

/-- A SYNC command of the parent (R304): passed on, and applied at its time or counted when that has passed. -/
def Dev.syncField (d : Dev) (v : Nat) : Dev :=
  let seq := v / 2 % 256
  if v % 2 = 0 ∨ d.casc.syncSeen = some seq then d
  else
    let frame := v / 2 ^ 9 % 1024
    let tick := v / 2 ^ 19 % 2 ^ 23
    let mask := v / 2 ^ 42 % 2 ^ 16
    let t := frame * frameTicks + tick
    let late := wrap16 ((t : Int) - d.now) (1024 * frameTicks) < 0
    let d := { d with casc := { d.casc with syncSeen := some seq, syncOut := some (seq, frame, tick, mask, v / 2 ^ 58 % 2 == 1),
                                            sync := if late then d.casc.sync else some (t, mask) } }
    if late then d.bump (pHaul 0) R.HAUL_CNT_C_SYNC_LATE else d

/-- The reports of the NOISE field received on a downstream port (R300). -/
def Dev.noiseIn (d : Dev) (h : Nat) (p : List Nat) : Dev :=
  (List.range 8).foldl (fun d i =>
    let a := 64 + 16 * i
    if p.getD (a + 10) 0 % 2 = 1 ∧ p.getD a 0 < 192 then
      let r : BranchRep := { prio := p.getD (a + 1) 0, addr := bytesNum p (a + 2) 2, nrep := signed 16 (bytesNum p (a + 4) 2),
                             inref := signed 16 (bytesNum p (a + 6) 2) }
      { d with casc := { d.casc with reports := mset (fun _ => (⟨0, 0, 0, 0⟩ : BranchRep)) d.casc.reports (256 * h + p.getD a 0) r } }
    else d) d

/-- The schedule a CTRL frame announces (Table 13-4). -/
def schedIn (p : List Nat) : Sched :=
  { take := bytesNum p 192 2, version := p.getD 195 0,
    descs := (List.range (min 192 (p.getD 194 0))).map fun i =>
      let a := 196 + 8 * i
      let b := p.getD (a + 1) 0
      (p.getD a 0, b % 8, b / 8 % 4, b / 32 % 2, bytesNum p (a + 2) 4) }

/-- A new schedule of the peer is noted for its take (R293). -/
def Dev.schedNote (d : Dev) (h : Nat) (p : List Nat) : Dev :=
  let s := d.port h
  let x := schedIn p
  let known := (s.rxSched.map (·.version)) == some x.version || (s.rxNew.map (·.version)) == some x.version
  if known || (x.descs.isEmpty && s.rxSched.isNone) then d
  else
    let load := x.descs.foldl (fun t e => t + rankOf e.2.2.1 * d.segCount e.1) 0
    (d.setPort h { s with rxNew := some x }).setFld (pHaul h) R.HAUL_LOAD_RX load

/-- A CTRL frame is received on port `h`, arriving at this tick and 1/32 tick (R301 to R304, R311). -/
def Dev.ctrlIn (d : Dev) (h : Nat) (f : List Nat) (sub : Nat) : Dev :=
  if !d.portOn h || d.linkState h < 2 then d
  else if !frameOk f || frameType f != 3 || framePos f != 0 then d.haulCrcFail h
  else if framePoison f ≠ 0 then (d.haulGood h f).bump (pHaul h) R.HAUL_CNT_A_POISON_IN
  else
    let p := payload f
    let role := p.getD 0 0
    let d := (d.setFld (pHaul h) R.HAUL_PEER_ADDR (bytesNum f 2 2)).setFlag (pHaul h) R.HAUL_PEER_ADDRESSED (role / 4 % 2 == 1)
    let d := (d.setFld (pHaul h) R.HAUL_PEER_HOPS (p.getD 1 0)).linkMeet h role
    let d := d.haulGood h f
    if !d.linkUp h then d
    else
      let arr := d.gridNow + sub * stampUnits
      let dep := bytesNum p 16 8
      let s := d.port h
      let d := d.setPort h { s with missing := 0, echoDep := dep, echoArr := toStamp arr }
      let d :=
        if h = 0 then
          let d := d.setFld (pHaul 0) R.HAUL_CASC_STAT_ROOT_MODE (p.getD 2 0 / 8 % 8)
          let d := (d.setFlag (pHaul 0) R.HAUL_CASC_STAT_ROOT_HOLD_OK (p.getD 2 0 / 64 % 2 == 1)).judgeLost
          let d := if bytesNum p 24 8 = 0 ∧ bytesNum p 32 8 = 0 then d
            else d.exchange (ofStamp dep) (arr % gridSpan) (ofStamp (bytesNum p 24 8)) (ofStamp (bytesNum p 32 8))
          d.syncField (bytesNum p 40 8)
        else d.noiseIn h p
      (d.enumField h (bytesNum p 48 8)).schedNote h p

/-- An EMPTY frame is received (R306). -/
def Dev.emptyIn (d : Dev) (h : Nat) (f : List Nat) : Dev :=
  if !d.linkUp h then d
  else if !frameOk f || frameType f != 0 || !typeAllowed 0 (framePos f) then d.haulCrcFail h
  else d.haulGood h f

/-- A frame of an undefined TYPE, or one not allowed at its position, is discarded and counted (R288). -/
def Dev.frameFail (d : Dev) (h : Nat) : Dev := if 2 ≤ d.linkState h then d.haulCrcFail h else d

/-- A management frame goes on to port `q`, or is discarded with its port. -/
def Dev.mgmtForward (d : Dev) (q : Nat) (m : MgmtFrame) (cut : Bool) : Dev :=
  if d.linkUp q then
    let s := d.port q
    (d.setPort q { s with out := s.out ++ [m] }).perf (1264 + 16 * q + if cut then 12 else 13) 1
  else d.freeUnits m.port

/-- A MGMT frame is received (R305 to R309): executed here, forwarded cut-through or stored, or dropped. -/
def Dev.mgmtIn (d : Dev) (h : Nat) (f : List Nat) (cut : Bool) : Dev :=
  if !d.linkUp h then d
  else if frameType f ≠ 4 ∨ typeAllowed 4 (framePos f) = false then d.haulCrcFail h
  else
    let s := d.port h
    let d := (d.setPort h { s with usedUnits := s.usedUnits + 49 }).showCredit h
    let dst := bytesNum f 32 2
    let marked := framePoison f != 0
    let m : MgmtFrame := { dst := dst, src := bytesNum f 2 2, port := h, body := payload f, poison := marked,
                           origin := bytesNum f 3208 2 }
    let way := d.route dst
    if !frameOk f then
      let d := d.haulCrcFail h
      match way with
      | some 3 => d.freeUnits h
      | some q =>
        if cut then d.mgmtForward q { m with poison := true, origin := if marked then m.origin else d.ownAddr } true
        else (d.bump (pHaul h) R.HAUL_CNT_C_MGMT_DROP).freeUnits h
      | none => (d.bump (pHaul h) R.HAUL_CNT_C_MGMT_DROP).freeUnits h
    else
      let d := d.haulGood h f
      let d := if marked then d.bump (pHaul h) R.HAUL_CNT_A_POISON_IN else d
      match way with
      | some 3 =>
        let d := d.freeUnits h
        if marked then d else { d with wires := { d.wires with mail := d.wires.mail ++ [(m.src, m.body)] } }
      | some q => d.mgmtForward q m cut
      | none => (d.bump (pHaul h) R.HAUL_CNT_C_MGMT_DROP).freeUnits h

/-! ### Sample frames and playout (R292, R296, R308) -/

/-- A received segment is placed by grid time (R292): the first occupied one by its STAMP, the others by count; poisoned words
are marked (R308). A stream no STAMP has placed yet waits for one. -/
def Dev.placeSeg (d : Dev) (h k : Nat) (stamp : Option Nat) (ws : List SampleWord) (poison : Bool) : Dev :=
  let s := d.port h
  let n := k / 4
  let t := max 1 (d.delayCfg n).tch
  let want := (s.grid.find? fun e => e.1 == k).map (·.2)
  let off := match stamp, want with
    | some a, some b => decide (toStamp a ≠ toStamp b)
    | _, _ => false
  match if off || want.isNone then stamp else want with
  | none => d
  | some a =>
    let d := if off then d.bump (pHaul h) R.HAUL_CNT_B_RESYNC else d
    let old := if off then s.play.map fun p => if streamKey p.ch p.j = k then { p with poison := true } else p else s.play
    let new := (ws.zip (List.range ws.length)).map fun wi =>
      ({ ch := n, j := k % 4, time := (a + wi.2 * t) % gridSpan, w := wi.1, poison := poison } : PlayWord)
    let age := (gridDiff d.gridNow a / (tickUnits : Int)).toNat
    let next := if off || (mat 0 s.next k == 0 && !(s.next.any fun e => e.1 == k)) then
      (s.next.filter fun e => e.1 != k) ++ [(k, a)] else s.next
    d.setPort h { s with grid := (s.grid.filter fun e => e.1 != k) ++ [(k, (a + 16 * t) % gridSpan)], play := old ++ new,
                         next := next, arriveMax := max s.arriveMax age }

/-- A sample frame is received (R292, R308). -/
def Dev.sampleIn (d : Dev) (h : Nat) (f : List Nat) : Dev :=
  let fmt := d.fld (pHaul h) R.HAUL_CTL_FMT
  if !d.linkUp h then d
  else if frameType f ≠ 1 + fmt ∨ typeAllowed (frameType f) (framePos f) = false then d.haulCrcFail h
  else
    let bad := !frameOk f
    let d := if bad then d.haulCrcFail h else d.haulGood h f
    let p := payload f
    let occ := bytesNum f 12 8
    let slots := slotsAt fmt (framePos f) (d.port h).rxSlots
    let r := (slots.zip (List.range slots.length)).foldl (fun (a : Dev × Bool) si =>
      match si.1 with
      | none => a
      | some k =>
        if !occ.testBit si.2 || !a.1.takes h (k / 4) || a.1.haulAbsent h (k / 4) then
          (a.1, a.2 && !occ.testBit si.2)
        else
          let mark := (framePoison f).testBit si.2
          let d := if mark && !bad then a.1.bump (pHaul h) R.HAUL_CNT_A_POISON_IN else a.1
          let own := a.2 && bytesNum f 25 1 == k / 4 && bytesNum f 26 1 % 4 == k % 4
          (d.placeSeg h k (if own then some (ofStamp (bytesNum f 20 5)) else none) (segWords fmt si.2 p) (bad || mark), false))
      (d, true)
    r.1

/-- The stream of port `h` whose next word is due first. -/
def HaulSt.duePlay (s : HaulSt) : Option (Nat × Nat) :=
  s.next.foldl (fun b e =>
    match b with
    | none => some e
    | some x => if gridDiff e.2 x.2 < 0 then some e else some x) none

/-- A haul word is released to the junction (R296): as spoil and counted when it is late, as spoil when it is poisoned (R308). -/
def Dev.playRelease (d : Dev) (h : Nat) : Dev :=
  let s := d.port h
  match s.duePlay with
  | none => d
  | some kt =>
    let k := kt.1
    let n := k / 4
    if d.haulAbsent h n || !d.takes h n then d.setPort h { s with next := s.next.filter fun e => e.1 != k }
    else
      let hit := s.play.find? fun p => streamKey p.ch p.j == k && p.time == kt.2
      let t := max 1 (d.delayCfg n).tch
      let rest := s.play.filter fun p => !(streamKey p.ch p.j == k && decide (gridDiff p.time kt.2 ≤ 0))
      let d := d.setPort h { s with play := rest,
                                    next := s.next.map fun e => if e.1 = k then (k, (kt.2 + t) % gridSpan) else e }
      let out := match hit with
        | none => spoilWord
        | some p => if p.poison then spoilWord else p.w
      let d := match hit with
        | none => ((d.bump (pHaul h) R.HAUL_CNT_B_LATE).addSpoil n 1).perf (1264 + 16 * h + 11) 1
        | some p => if p.poison && !p.w.spoil then d.addSpoil n 1 else d
      let st := d.strm n (k % 4)
      d.setStrm n (k % 4) { st with joined := st.joined ++ [(h, kt.2, out)] }

/-! ### The junction (R297, R299, R310) -/

/-- The junction time of channel `n` in grid units (R297). -/
def Dev.junctionTime (d : Dev) (n : Nat) : Nat :=
  let c := d.delayCfg n
  let thb := 2 ^ (6 - c.k) * tickUnits * (if c.altRx then 16 else 15) / 15
  let loc := 3834 * stampUnits + decDelay (variantOf c.profile) c.k * stampUnits * (if c.altRx then 16 else 15) / 15 +
    (lineLength c.profile c.k - 1) * thb / 2 + (if c.resamp then 8 * thb else 0)
  (List.range 3).foldl (fun t h => if d.takes h n then max t (d.fld (pHaul h) R.HAUL_PLAY_PLAY * tickUnits) else t)
    (if d.flag (pCh n) R.CH_DEF_SRC_LOCAL then loc else 0)

/-- The factor of haul branch `h` of channel `n`: GAIN − a (R299). -/
def Dev.branchFactor (d : Dev) (h n : Nat) : Nat × Int :=
  gainFactor (d.sfld (pHaul h) (R.HAUL_BR_GAIN n) - d.fld (pHaul h) (R.HAUL_BR_ATT n) * 256)

/-- The uplink sum of a local word and haul words by port (R299, R310), with whether it clamped and whether a parity check failed. -/
def Dev.uplinkSum (d : Dev) (n : Nat) (loc : Option SampleWord) (ins : List (Nat × SampleWord)) : SampleWord × Nat × Bool :=
  let ins := ins.filter fun e => !d.flag (pHaul e.1) (R.HAUL_BR_GATED n)
  let all := loc.toList ++ ins.map (·.2)
  let parts := loc.toList.map (fun w => w.z) ++ ins.map fun e =>
    (applyFactor (d.branchFactor e.1 n) e.2.z.1, applyFactor (d.branchFactor e.1 n) e.2.z.2)
  let sum := parts.foldl (fun (a : Int × Int) z => (a.1 + z.1, a.2 + z.2)) (0, 0)
  let r := reducePair 0 16 sum
  if all.any fun w => !w.good then (spoilWord, 0, true)
  else if !all.isEmpty && all.all (·.spoil) then (spoilWord, 0, false)
  else (mkWord r.1.1 r.1.2, r.2, false)

/-- The residual power of a canceller gathers (R112). -/
def Dev.residTake (d : Dev) (n : Nat) (w : SampleWord) : Dev :=
  if !d.hasCanc n || w.spoil then d
  else
    let c := d.canceller n
    d.setCanc n { c with residSum := c.residSum + (w.z.1 * w.z.1 + w.z.2 * w.z.2).toNat, residN := c.residN + 1 }

/-- The gain stage takes the next word of stream `j` of channel `n` from the junction (R138, R187, R299); the junction word also
goes to the ports of HAUL_FWD. Its parity is checked at the gain stage's input (R18, R364). -/
def Dev.stageTake (d : Dev) (n j : Nat) : Dev :=
  let st := d.strm n j
  let loc := d.flag (pCh n) R.CH_DEF_SRC_LOCAL
  if (loc && st.waiting == 0) || (!loc && st.joined.isEmpty) then d
  else
    let m := st.taken
    let lw := d.outWord n j m
    let d := if loc then lw.2 else d
    let heads := (List.range 3).filterMap fun h => if d.takes h n then st.joined.find? fun e => e.1 == h else none
    let d := d.takeNext n j
    let st := d.strm n j
    let d := d.setStrm n j { st with joined := heads.foldl (fun l e => l.erase e) st.joined }
    let d := if loc then d.residTake n lw.1 else d
    let ins := heads.map fun e => (e.1, e.2.2)
    let s := d.uplinkSum n (if loc then some lw.1 else none) ins
    let simple := if loc then lw.1 else (ins.map (·.2)).headD spoilWord
    let sum := d.chUp n && !ins.isEmpty
    let w := if sum then s.1 else simple
    let d := if sum then d.addSat n s.2.1 else d
    let d := if sum && s.2.2 then (d.addSpoil n 1).raiseFault 113 (pCh n) false else d
    let time := match heads with
      | e :: _ => e.2.1
      | [] => ((d.gridNow : Int) - d.junctionTime n) % gridSpan |>.toNat
    let d := (List.range 3).foldl (fun d h => if d.sends h n then d.haulGrow h n j time w else d) d
    let l := d.blockLen n
    let d :=
      if loc && m % l == 0 then
        match st.out.find? fun o => o.1 == m / l with
        | some o => (d.streamWriters n j).foldl (fun d e => d.perf (1152 + 4 * (e / 8) + 2) 1) (d.ulgBlock n o.2)
        | none => d.ulgBlock n []
      else if !loc then d.ulgBlock n [w] else d
    let d := d.snapPush n j 1 w
    let inj := d.injArmed (pCh n) 0
    let d := if inj then d.injDone (pCh n) else d
    let w := if inj then { w with pi := !w.pi, pq := !w.pq } else w
    if w.good then d.gainStage n j w
    else ((d.addSpoil n 1).raiseFault 113 (pCh n) inj).gainStage n j spoilWord

/-! ### The cascade-wide sync (R304) -/

/-- SYNC_GO is written: refused unless this is the master and the target lies a frame or more ahead. -/
def Dev.syncStart (d : Dev) : Dev :=
  let tick := d.fld (pHaul 0) R.HAUL_SYNC_LO_TICK
  let frame := d.fld (pHaul 0) R.HAUL_SYNC_LO_FRAME_LO + d.fld (pHaul 0) R.HAUL_SYNC_HI_FRAME_HI * 512
  let mask := d.fld (pHaul 0) R.HAUL_SYNC_HI_MASK
  let t := frame * frameTicks + tick
  let ahead := ((t : Int) - d.now) % (1024 * frameTicks : Nat)
  if !d.isMaster || decide (ahead < frameTicks) then d.badAcc (pHaul 0 + 0x100)
  else
    let seq := (d.fld (pHaul 0) R.HAUL_SYNC_HI_SEQ + 1) % 256
    let loc := d.flag (pHaul 0) R.HAUL_SYNC_HI_LOCAL
    let d := d.setFld (pHaul 0) R.HAUL_SYNC_HI_SEQ seq
    { d with casc := { d.casc with syncOut := some (seq, frame, tick, mask, loc),
                                   sync := if loc then some (t, mask) else d.casc.sync } }

/-- The haul SIEVE_SYNC is applied at its time; one whose time has passed is counted. Converters already synchronised at this very
tick keep that sync (R66). -/
def Dev.syncApply (d : Dev) : Dev :=
  match d.casc.sync with
  | none => d
  | some tm =>
    let d := { d with casc := { d.casc with sync := none } }
    if wrap16 ((tm.1 : Int) - d.now) (1024 * frameTicks) < 0 then d.bump (pHaul 0) R.HAUL_CNT_C_SYNC_LATE
    else
      let same (c : Nat) : Bool := (d.convSt c).ref && (d.convSt c).count == 0 && !d.flag (pConv c) R.SV_REF_IMPLICIT
      d.sieveSync ((List.range 16).foldl (fun m c => if tm.2.testBit c && !same c then m + 2 ^ c else m) 0)

/-! ### The noise account (R191, R192, R300) -/

/-- The report of branch `h` of channel `n`, if it is not absent. -/
def Dev.branchRep (d : Dev) (h n : Nat) : Option BranchRep :=
  if d.takes h n && d.linkUp h then (d.casc.reports.find? fun e => e.1 == 256 * h + n).map (·.2) else none

/-- A branch report referred to this device's junction (R300). -/
def Dev.referred (d : Dev) (h n : Nat) (r : BranchRep) : Int :=
  r.nrep - r.inref + d.inref n + d.sfld (pHaul h) (R.HAUL_BR_GAIN n)

/-- The noise at the junction of channel `n` (R191); none when nothing contributes. -/
def Dev.noiseSum (d : Dev) (n : Nat) : Option Int :=
  let loc := if d.flag (pCh n) R.CH_DEF_SRC_LOCAL then (d.gainSt n).nIn.toList else []
  let brs := (List.range 3).filterMap fun h =>
    if d.flag (pHaul h) (R.HAUL_BR_GATED n) then none
    else (d.branchRep h n).map fun r => d.referred h n r - d.fld (pHaul h) (R.HAUL_BR_ATT n) * 256
  match loc ++ brs with
  | [] => none
  | [x] => some x
  | l => some (sat16 (Config.dbSum l))

/-- The noise report of channel `n` for this frame is formed and queued (R191, R300). -/
def Dev.noiseReport (d : Dev) (n : Nat) : Dev :=
  if !(d.chOn n && d.chUp n) then d
  else
    let s := d.noiseSum n
    let v := s.getD (-32768)
    let fwd := d.fld (pCh n) R.CH_DEF_HAUL_FWD != 0
    let d := if d.fld (pCh n) R.CH_DEF_SRC_HAUL = 0 then d else d.setS pProt (R.PROT_CH_NR_NSUM n) v
    let d := d.setS pProt (R.PROT_CH_NR_NREP n) (if fwd then v else -32768)
    match s with
    | some x =>
      if fwd then
        let r : BranchRep := { prio := d.fld (pCh n) R.CH_DEF_PRIO, addr := d.ownAddr, nrep := x, inref := d.inref n }
        { d with casc := { d.casc with reportQ := d.casc.reportQ ++ [(n, r)] } }
      else d
    | none => d

/-- The branches of channel `n` that may gain attenuation: port and report (R192). -/
def Dev.branchUp (d : Dev) (n : Nat) : List (Nat × BranchRep) :=
  (List.range 3).filterMap fun h =>
    match d.branchRep h n with
    | some r => if r.prio != 0 && !d.flag (pHaul h) (R.HAUL_BR_GATED n) then some (h, r) else none
    | none => none

/-- The branches of channel `n` that hold attenuation. -/
def Dev.branchDown (d : Dev) (n : Nat) : List (Nat × BranchRep) :=
  (List.range 3).filterMap fun h =>
    match d.branchRep h n with
    | some r => if d.fld (pHaul h) (R.HAUL_BR_ATT n) != 0 || d.flag (pHaul h) (R.HAUL_BR_GATED n) then some (h, r) else none
    | none => none

/-- The first of a list under a strict order. -/
def bestOf {α : Type} (lt : α → α → Bool) : List α → Option α
  | [] => none
  | x :: r =>
    match bestOf lt r with
    | none => some x
    | some y => some (if lt y x then y else x)

/-- One step of branch action on channel `n` (R192). -/
def Dev.branchAction (d : Dev) (n : Nat) : Dev :=
  if !(d.chOn n && d.chUp n) || d.fld (pCh n) R.CH_DEF_SRC_HAUL == 0 || d.fld (pCh n) R.CH_DEF_OUT_MASK == 0 then d
  else
    let l := d.lNr n
    let req := d.sfld (pCh n) R.CH_GL_GAIN_REQ
    let d :=
      if l < req then
        let lt (a b : Nat × BranchRep) : Bool :=
          decide (b.2.prio < a.2.prio) || (b.2.prio == a.2.prio && (decide (d.referred b.1 n b.2 < d.referred a.1 n a.2) ||
            (d.referred b.1 n b.2 == d.referred a.1 n a.2 && decide (b.2.addr < a.2.addr))))
        match bestOf lt (d.branchUp n) with
        | none => d
        | some b =>
          let a := d.fld (pHaul b.1) (R.HAUL_BR_ATT n)
          (if d.fld pProt R.PROT_CASC_BR_ATT_MAX < a + 1 then d.setFld (pHaul b.1) (R.HAUL_BR_GATED n) 1
           else d.setFld (pHaul b.1) (R.HAUL_BR_ATT n) (a + 1)).bump pProt R.PROT_CNT_C_BR_STEPS
      else if req + 256 ≤ l then
        let lt (a b : Nat × BranchRep) : Bool :=
          decide (a.2.prio < b.2.prio) || (a.2.prio == b.2.prio && decide (a.2.addr < b.2.addr))
        match bestOf lt (d.branchDown n) with
        | none => d
        | some b =>
          (if d.flag (pHaul b.1) (R.HAUL_BR_GATED n) then
             (d.setFld (pHaul b.1) (R.HAUL_BR_GATED n) 0).setFld (pHaul b.1) (R.HAUL_BR_ATT n) (d.fld pProt R.PROT_CASC_BR_ATT_MAX)
           else d.setFld (pHaul b.1) (R.HAUL_BR_ATT n) (d.fld (pHaul b.1) (R.HAUL_BR_ATT n) - 1)).bump pProt R.PROT_CNT_C_BR_STEPS
      else d
    d.setFlag pProt (R.PROT_CH_STAT_BR_ACT n) (!(d.branchDown n).isEmpty)

/-- The noise account at a frame boundary: reports, branch action, and NRISE in frames in which no branch can be attenuated
further (R191, R192, R300). -/
def Dev.noiseBoundary (d : Dev) : Dev :=
  let ups := (List.range 192).filter fun n => d.chOn n && d.chUp n
  let d := { d with casc := { d.casc with reportQ := [] } }
  let d := ups.foldl Dev.noiseReport d
  let d := ups.foldl Dev.branchAction d
  ups.foldl (fun d n => d.judgeNrise n (d.branchUp n).isEmpty) d

/-- Haul counts of a frame end: CRC failures start anew and HAUL_ARRIVE shows the frame's largest interval (R296). -/
def Dev.haulBoundary (d : Dev) : Dev :=
  (List.range 3).foldl (fun d h =>
    let s := d.port h
    (d.setPort h { s with crcFrame := 0, arriveMax := 0 }).setFld (pHaul h) R.HAUL_ARRIVE_WORST (min s.arriveMax (2 ^ 24 - 1))) d

end Sys2Proof.Machine
end

