-- ==== Sys2Proof/Machine/RecOps.lean ====
section
/-! DEFINITION. The event recorder (17): time, histograms and extremes, the flash, flushes, power failure, restore, clearing and
failures (R367 to R386, R420, R421). -/

namespace Sys2Proof.Machine

/-! ### Time and samples (R367 to R370) -/

/-- Show operating seconds, hours, and the power-cycle count (R367). -/
def Dev.showTime (d : Dev) : Dev :=
  let s := d.seconds
  let d := (d.setFld pRec R.REC_TIME_LO_SEC s).setFld pRec R.REC_TIME_HI_SEC (s / 2 ^ 32)
  let d := (d.setFld pRec R.REC_HMS_SEC (s % 3600)).setFld pRec R.REC_HMS_HOURS (s / 3600)
  d.setFld pRec R.REC_PCC_COUNT d.rcd.pcc

/-- The bin of sample `x` under ORIGIN `o` and WIDTH `w` (R368). -/
def histBin (o : Int) (w : Nat) (x : Int) : Nat :=
  if x < o then 0 else min 31 (1 + (x - o) / (w : Int)).toNat

/-- Histogram `h` takes the sample `x`; one whose WIDTH is 0 takes none; bins saturate (R368). -/
def Dev.histSample (d : Dev) (h : Nat) (x : Int) : Dev :=
  let w := d.fld pRec (R.REC_HIST_CFG_WIDTH h)
  if w = 0 then d
  else
    let k := 32 * h + histBin (d.sfld pRec (R.REC_HIST_CFG_ORIGIN h)) w x
    let l := d.rcd.live
    { d with rcd := { d.rcd with live := { l with bins := mput 0 l.bins k (min (mat 0 l.bins k + 1) 0xFFFFFFFF) } } }

/-- The value of bound quantity `q` of channel `n` in a frame, Q8.8, where it has one (Table 17-2). -/
def Dev.boundValue (d : Dev) (n q : Nat) : Option Int :=
  let g := d.sfld (pCh n) R.CH_GL_GAIN_APPLIED
  match q with
  | 0 => some (d.sfld (pCh n) R.CH_GL_PWR_POUT)
  | 1 => some (d.sfld (pCh n) R.CH_CANC_ISO_ISO - g)
  | 2 =>
    if d.chUp n && d.flag (pCh n) R.CH_GL_CTL_NR_EN then
      (d.gainSt n).nIn.map fun f =>
        Config.dbSum [0, f + g - d.sfld (pCh n) R.CH_GL_NR_BUD_PL - d.sfld (pCh n) R.CH_GL_NR_BS_NBS]
    else none
  | _ => some g

/-- Does channel `n` relay in this frame as R369 asks? -/
def Dev.framesCount (d : Dev) (n : Nat) : Bool :=
  decide (n < 192) && d.chOn n && d.grpEff (d.outGroup n) == 4 && !d.muted n && !d.flag (pCh n) R.CH_GL_STAT_SHED

/-- The frame values of the recorder: the energy band and the bound channel quantities (R369, R370). -/
def Dev.recFrame (d : Dev) : Dev :=
  let d := d.recLast 11 (d.fld pDev R.DEV_EB_STAT_BAND)
  ((List.range 224).map (· + 32)).foldl (fun d h =>
    let n := d.fld pRec (R.REC_HIST_BIND_CH h)
    if d.flag pRec (R.REC_HIST_BIND_BIND h) && d.framesCount n then
      match d.boundValue n (d.fld pRec (R.REC_HIST_BIND_QTY h)) with
      | some v => d.recMean h v
      | none => d
    else d) d

/-- A fault of class `c` rose: it counts in the hour (Table 17-1). -/
def Dev.hourFault (d : Dev) (c : Nat) : Dev :=
  { d with rcd := { d.rcd with hourFaults := mput 0 d.rcd.hourFaults c (mat 0 d.rcd.hourFaults c + 1) } }

/-- The faults of the hour are sampled once per operating hour (R368). -/
def Dev.recHour (d : Dev) : Dev :=
  let d := [1, 2, 3].foldl (fun d c =>
    let n : Int := (mat 0 d.rcd.hourFaults c : Nat)
    (d.recExtreme (11 + c) n).histSample (11 + c) n) d
  { d with rcd := { d.rcd with hourFaults := [] } }

/-- One operating second passes (R367, R368, R376). In the AON state none does. -/
def Dev.second (d : Dev) : Dev :=
  if d.pins.porHold then d
  else
    let d := { d with rcd := { d.rcd with secs := d.rcd.secs + 1 } }
    let d := d.rcd.second.foldl (fun d e => d.histSample e.1 (ratio e.2.1 e.2.2)) d
    let d : Dev := { d with rcd := { d.rcd with second := [] } }
    let d := if d.rcd.secs % 3600 = 0 then d.recHour else d
    let d := d.showTime
    if d.rcd.lastSnap + 14400 ≤ d.rcd.secs ∧ d.fld pRec R.REC_STAT_STATE ≠ 0 then
      { d with rcd := { d.rcd with lastSnap := d.rcd.secs } }.requestFlush 0 0
    else d

/-- A write to REC_HOST_INC (R371). -/
def Dev.hostInc (d : Dev) (c : Nat) : Dev := d.recCount (992 + c % 16) 1

/-! ### The snapshot as bytes (Table 17-4) -/

/-- One 32-bit word of a 256-bit clear log entry. -/
def ClearLog.word (e : ClearLog) (i : Nat) : Nat :=
  (e.secs + e.pcc * 2 ^ 40 + e.digest * 2 ^ 72 + e.scope * 2 ^ 136 + e.adoption.toNat * 2 ^ 139) / 2 ^ (32 * i) % 2 ^ 32

/-- One 32-bit word of a 128-bit extreme record. -/
def Extreme.word (e : Extreme) (i : Nat) : Nat :=
  (twos 16 e.value + e.secs * 2 ^ 16 + e.pcc * 2 ^ 56 + e.valid.toNat * 2 ^ 88) / 2 ^ (32 * i) % 2 ^ 32

/-- The first words of a snapshot, below offset 0x100. -/
def Snapshot.headWord (s : Snapshot) (off : Nat) : Nat :=
  if off = 0 then 0x52454331
  else if off = 4 then 1
  else if off = 8 then Config.uid.toNat % 2 ^ 32
  else if off = 0xC then Config.uid.toNat / 2 ^ 32
  else if off = 0x10 then s.seq
  else if off = 0x14 then s.secs % 2 ^ 32
  else if off = 0x18 then s.secs / 2 ^ 32
  else if off = 0x1C then s.pcc
  else if off = 0x20 then s.reason % 256 + s.source % 256 * 2 ^ 8 + s.hist.log.length * 2 ^ 16
  else if off = 0x24 then s.hist.gapS % 2 ^ 32
  else if off = 0x28 then s.hist.extLost % 2 ^ 32
  else if off = 0xF8 then (if s.commit then 0 else 0xFFFFFFFF)
  else 0

/-- A half-word of the damaged-word list: the count, then the offsets (Table 17-4). -/
def History.damagedHalf (h : History) (i : Nat) : Nat := if i = 0 then h.damagedN % 2 ^ 16 else h.damaged.getD (i - 1) 0

/-- The 32-bit word of a snapshot at byte offset `off`, its CRC apart (Table 17-4). -/
def Snapshot.word (s : Snapshot) (off : Nat) : Nat :=
  if off < 0x100 then s.headWord off
  else if off < 0x140 then (s.lw.getD ((off - 0x100) / 4) 0).toNat
  else if off < 0x180 then s.hist.damagedHalf ((off - 0x140) / 2) + s.hist.damagedHalf ((off - 0x140) / 2 + 1) * 2 ^ 16
  else if off < 0x200 then 0
  else if off < 0xA00 then (mget (fun k => resetReg (pRec + k)) s.cfg (off + 0x200)).toNat
  else if off < 0x1000 then ((s.hist.log.map fun e => e.word ((off - 0xA00) / 4 % 8)).getD ((off - 0xA00) / 32) 0)
  else if off < 0x2000 then mat 0 s.hist.ctrs ((off - 0x1000) / 4)
  else if off < 0x4000 then (mat .init s.hist.ext ((off - 0x2000) / 16)).word ((off - 0x2000) / 4 % 4)
  else if off < 0xC000 then mat 0 s.hist.bins ((off - 0x4000) / 4)
  else 0

/-- The CRC-32C of a snapshot, COMMIT taken as zero (R375). -/
def Snapshot.crc (s : Snapshot) : Nat :=
  crc32c (((List.range 16383).map fun i => if i = 0x3E then 0 else s.word (4 * i)).flatMap (le 4))

/-- The 65,536 bytes of a snapshot (Table 17-4). -/
def Snapshot.bytes (s : Snapshot) : List Nat :=
  ((List.range 16383).map fun i => s.word (4 * i)).flatMap (le 4) ++ le 4 s.crc

/-- The frozen image an UPLOAD_REC copies: SEQ the newest committed, REASON 5 (R385). -/
def Dev.uploadImage (d : Dev) : Snapshot := { d.snapshotNow 5 0 with seq := d.fld pRec R.REC_SEQ_SEQ }

/-- A word of the live copy's window (R386). Its REASON and fault source belong to a flush and are free values. -/
def Dev.recWindow (d : Dev) (off : Nat) : Dev × Word :=
  let f := d.freeBits 16
  let s := { d.snapshotNow 0 0 with seq := d.fld pRec R.REC_SEQ_SEQ }
  if off = 0x20 then (f.2, BitVec.ofNat 32 (s.word off / 2 ^ 16 * 2 ^ 16 + f.1)) else (d, BitVec.ofNat 32 (s.word off))

/-! ### The flash (R373 to R377) -/

/-- The newest committed snapshot and its slot (R375, R379). -/
def FlashSt.newest (f : FlashSt) : Option (Nat × Snapshot) :=
  bestOf (fun a b => decide (b.2.seq < a.2.seq))
    (f.snaps.filterMap fun e => match e.2 with
      | some s => if s.commit then some (e.1, s) else none
      | none => none)

/-- The valid tail of the highest TSEQ and its slot (R379). -/
def FlashSt.lastTail (f : FlashSt) : Option (Nat × TailRec) :=
  bestOf (fun a b => decide (b.2.tseq < a.2.tseq))
    (f.tails.filterMap fun e => match e.2 with
      | some t => if t.commit then some (e.1, t) else none
      | none => none)

/-- Put the recorder's flash operation at `stage`. -/
def Dev.setStage (d : Dev) (stage : Nat) : Dev := { d with rcd := { d.rcd with stage := stage } }

/-- The recorder turns to what waits: a queued flush, then the erase of the next tail slot (R376, R378, R379). -/
def Dev.recNext (d : Dev) : Dev :=
  if d.fld pRec R.REC_STAT_STATE ≠ 1 then d
  else match d.rcd.queued with
    | some q => { d with rcd := { d.rcd with queued := none } }.startFlush q.1 q.2
    | none =>
      if d.flag pRec R.REC_STAT_TAIL_READY || d.rcd.erasing || !d.pins.pfailN then d
      else
        let slot := match d.flash.lastTail with
          | some t => (t.1 + 1) % 16
          | none => 0
        { d with rcd := { d.rcd with erasing := true, tailSlot := slot },
                 flash := { d.flash with tails := mput none d.flash.tails slot none } }

/-- The failure entry of the last words (Table 17-7), its layout the model's (log entry 12): address [24:0] and cause [31:28];
seconds [31:0]; power-cycle count; seconds [39:32] with PENDING at [31]. -/
def Dev.failEntry (d : Dev) (cause addr : Nat) : Dev :=
  let d := d.setFld pRec (R.REC_LW_WORDS 8) (addr % 2 ^ 25 + cause * 2 ^ 28)
  let d := (d.setFld pRec (R.REC_LW_WORDS 9) (d.seconds % 2 ^ 32)).setFld pRec (R.REC_LW_WORDS 10) d.rcd.pcc
  d.setFld pRec (R.REC_LW_WORDS 11) (d.seconds / 2 ^ 32 + 2 ^ 31)

/-- A flush fails (R383): it is a log memory failure, and the next flush uses the next slot. -/
def Dev.flushFail (d : Dev) (cause : Nat) : Dev :=
  let slot := (d.rcd.slot + 1) % (max 1 d.flash.n)
  let d := ((d.raiseFault 200 pRec false).recCount 1021 1).raiseEvt pRec 1
  let d := (d.setFld pRec R.REC_STAT_CAUSE cause).failEntry cause (0x10000 * (slot + 1))
  let d := { d with rcd := { d.rcd with stage := 0, slot := slot, shadow := none, adopt := false,
                                        clr := if d.rcd.clr = 2 then 1 else d.rcd.clr } }
  (d.setFld pRec R.REC_STAT_STATE 1).recNext

/-- A flush commits (R377, R381, R383). -/
def Dev.flushCommit (d : Dev) : Dev :=
  match d.rcd.shadow with
  | none => d.setStage 0
  | some s =>
    let slot := (d.rcd.slot + 1) % (max 1 d.flash.n)
    let kept := some { s with commit := true }
    let d : Dev := { d with flash := { d.flash with snaps := mput none d.flash.snaps slot kept } }
    let d := ((d.setFld pRec R.REC_SEQ_SEQ s.seq).raiseEvt pRec 0).recCount 1022 1
    let d := if (s.lw.drop 8).take 4 == (d.lastWords.drop 8).take 4 then d.setFlag pRec ((R.REC_LW_WORDS 11).bit 31) false else d
    let d := if d.rcd.clr = 2 then (d.setFld pRec R.REC_STAT_CLR_RESULT 2).raiseEvt pRec 3 else d
    let d := { d with rcd := { d.rcd with stage := 0, slot := slot, shadow := none, lastSnap := d.rcd.secs, adopt := false,
                                          clr := if d.rcd.clr = 2 then 0 else d.rcd.clr } }
    (d.setFld pRec R.REC_STAT_STATE 1).recNext

/-- No tail is written: source 203 and counter 1,009 (R378). -/
def Dev.tailMissed (d : Dev) : Dev := (d.raiseFault 203 pRec false).recCount 1009 1

/-- A tail ends (R378): written, or not when its comparison fails. -/
def Dev.tailDone (d : Dev) (good : Bool) : Dev :=
  let t := d.rcd.tail
  let d := { d with rcd := { d.rcd with stage := 0, tail := none } }
  let d :=
    if good then
      let kept := t.map fun (t : TailRec) => { t with commit := true }
      let d : Dev := { d with flash := { d.flash with tails := mput none d.flash.tails d.rcd.tailSlot kept } }
      d.raiseEvt pRec 2
    else d.tailMissed
  (if d.pins.pfailN then d.setFld pRec R.REC_STAT_STATE 1 else d).recNext

/-- A flash operation ends: 0 good, 1 a mismatch, 2 a wrong identity (R377, R378, R383). The erase of a tail slot comes first;
one that fails leaves no tail slot ready. -/
def Dev.flashDone (d : Dev) (r : FlashResult) : Dev :=
  let good := r == .good
  let cause := if r == .mismatch then 1 else 3
  if d.rcd.erasing then
    let d := { d with rcd := { d.rcd with erasing := false } }
    if good then (d.setFld pRec R.REC_STAT_TAIL_READY 1).recNext else d
  else match d.rcd.stage with
    | 0 => d
    | 1 =>
      if good then
        if d.rcd.adopt then
          { d with flash := { d.flash with snaps := [], tails := [] }, rcd := { d.rcd with stage := 2, tailSlot := 0 } }.setFld pRec
            R.REC_STAT_TAIL_READY 1
        else d.setStage 2
      else d.flushFail cause
    | 2 => if good then d.setStage 3 else d.flushFail cause
    | 3 => if good then d.setStage 4 else d.flushFail cause
    | 4 => if good then d.flushCommit else d.flushFail cause
    | 5 => if good then d.setStage 6 else d.tailDone false
    | _ => d.tailDone good

/-- The flash stops: a flush or tail in progress fails with a cause, an erase of a tail slot is given up (R373, R383, R404). -/
def Dev.flashStop (d : Dev) (cause : Nat) : Dev :=
  let d := { d with rcd := { d.rcd with erasing := false } }
  match d.rcd.stage with
  | 0 => d
  | 5 => d.tailDone false
  | 6 => d.tailDone false
  | _ => d.flushFail cause

/-- FAULT_GAP ends and the deferred fault flush starts (R376). -/
def Dev.gapExpire (d : Dev) : Dev :=
  match d.rcd.deferred, d.rcd.lastFault with
  | some s, some t =>
    if t + 60 * d.fld pRec R.REC_CFG_FAULT_GAP ≤ d.rcd.secs then { d with rcd := { d.rcd with deferred := none } }.requestFlush 1 s else d
  | some s, none => { d with rcd := { d.rcd with deferred := none } }.requestFlush 1 s
  | none, _ => d

/-! ### Power failure (R378) -/

/-- The snapshot's contents the tail counts from: an empty history where none is committed. -/
def Dev.baseHistory (d : Dev) : History := match d.flash.newest with
  | some s => s.2.hist
  | none => .init

/-- Extreme records changed since the newest committed snapshot, in ascending number; while a clear waits for its commit, only
those more extreme than the old history's (R378, R381; log entry 30). -/
def Dev.extChanges (d : Dev) : SMap Extreme :=
  let old := d.baseHistory.ext
  d.rcd.live.ext.filter fun e =>
    let o := mat .init old e.1
    decide (e.2 ≠ o) && (d.rcd.clr == 0 || !o.valid ||
      (if e.1 % 2 = 0 then decide (e.2.value < o.value) else decide (o.value < e.2.value)))

/-- The content of a tail at step 1 of Table 17-6. -/
def Dev.tailNow (d : Dev) : TailRec :=
  let base := d.flash.newest
  let ext := d.extChanges
  let old := d.baseHistory.ctrs
  { commit := false, tseq := match d.flash.lastTail with
      | some t => t.2.tseq + 1
      | none => 1,
    snapSeq := d.fld pRec R.REC_SEQ_SEQ, secs := d.seconds, pcc := d.rcd.pcc,
    since := d.seconds - (match base with
      | some s => s.2.secs
      | none => 0),
    lost := ext.length - 64, ext := ext.take 64,
    incs := (d.rcd.live.ctrs.map fun e => (e.1, min 0xFFFF (e.2 - mat 0 old e.1))).filter fun e => e.2 != 0,
    lw := d.lastWords }

/-- PFAIL_N stays asserted for 1 µs (R378): the tail's content is fixed and a flush in progress is abandoned. -/
def Dev.powerFail (d : Dev) : Dev :=
  let d := { d with pins := { d.pins with pfailN := false } }
  if d.flag pPin R.PIN_STRAP_TEST then d
  else
    let st := d.fld pRec R.REC_STAT_STATE
    if (st != 1 && st != 2) || !d.flag pRec R.REC_STAT_TAIL_READY then d.tailMissed
    else
      let d := d.recCount 1020 1
      let d := { d with rcd := { d.rcd with tail := some d.tailNow, stage := 5, shadow := none, adopt := false,
                                            clr := if d.rcd.clr = 2 then 1 else d.rcd.clr } }
      (d.setFld pRec R.REC_STAT_STATE 3).setFld pRec R.REC_STAT_TAIL_READY 0

/-- PFAIL_N is released; after a tail, the next tail slot is erased (R378). -/
def Dev.powerBack (d : Dev) : Dev :=
  let d := { d with pins := { d.pins with pfailN := true } }
  if d.rcd.stage = 5 ∨ d.rcd.stage = 6 then d
  else
    let d := if d.fld pRec R.REC_STAT_STATE = 3 then d.setFld pRec R.REC_STAT_STATE 1 else d
    if d.pins.held then d else d.recNext

/-! ### Restore (R379) -/

/-- Saturating sums of two sets of counts. -/
def addCounts (a b : SMap Nat) : SMap Nat := b.foldl (fun m e => mput 0 m e.1 (min (mat 0 m e.1 + e.2) 0xFFFFFFFF)) a

/-- Extreme records with those of another set taken where they are more extreme. -/
def addExtremes (a b : SMap Extreme) : SMap Extreme :=
  b.foldl (fun m e =>
    let o := mat .init m e.1
    if !e.2.valid then m
    else if !o.valid || (if e.1 % 2 = 0 then decide (e.2.value < o.value) else decide (o.value < e.2.value)) then mput .init m e.1 e.2
    else m) a

/-- What was gathered during the restore is added to the restored history (R379). -/
def History.restored (s g : History) (t : Option TailRec) : History :=
  let inc := match t with
    | some t => addCounts s.ctrs t.incs
    | none => s.ctrs
  let ext := match t with
    | some t => t.ext.foldl (fun m e => mput .init m e.1 e.2) s.ext
    | none => s.ext
  { bins := addCounts s.bins g.bins, ctrs := addCounts inc g.ctrs, ext := addExtremes ext g.ext, log := s.log,
    gapS := s.gapS + (match t with
      | some t => t.since
      | none => 0),
    extLost := s.extLost + (match t with
      | some t => t.lost
      | none => 0),
    damagedN := s.damagedN + g.damagedN, damaged := (s.damaged ++ g.damaged).take 31 }

/-- REC_HIST_CFG and REC_HIST_BIND take the values recorded in a snapshot (R372). -/
def Dev.takeHistCfg (d : Dev) (cfg : SMap Word) : Dev :=
  let d := d.clearRegs (pRec + 0x400) (pRec + 0xC00)
  cfg.foldl (fun d e => (d.setReg (pRec + e.1) e.2).setShadow (pRec + e.1) e.2) d

/-- The last words are loaded from the flash (Table 17-7, R379). The thermal latch bit follows the latch. -/
def Dev.takeLastWords (d : Dev) (lw : List Word) : Dev :=
  let d := (List.range 16).foldl (fun d i => d.setFld pRec (R.REC_LW_WORDS i) (lw.getD i 0).toNat) d
  (d.lwFlag 2 true).lwFlag 0 (d.flag pTherm R.THERM_STAT_SHUT)

/-- The newest snapshot, and the tail that belongs to it, are applied (R379). -/
def Dev.applySnapshot (d : Dev) (slot : Nat) (s : Snapshot) : Dev :=
  let t := match d.flash.lastTail with
    | some t => if t.2.snapSeq = s.seq then some t.2 else none
    | none => none
  let d := { d with rcd := { d.rcd with live := s.hist.restored d.rcd.live t, slot := slot, lastSnap := s.secs } }
  let d := ((d.takeHistCfg s.cfg).setFld pRec R.REC_SEQ_SEQ s.seq).setFlag pRec R.REC_STAT_TAIL_USED t.isSome
  if !d.pins.vaonLost then d
  else
    let base := match t with
      | some t => (t.secs, t.pcc, t.lw)
      | none => (s.secs, s.pcc, s.lw)
    let d := { d with rcd := { d.rcd with secs := base.1 + d.rcd.secs, pcc := base.2.1 + 1 } }
    (d.setFlag pRec R.REC_STAT_TIME_GAP t.isNone).takeLastWords base.2.2

/-- The restore ends (R373, R379, R382, R416): whether the flash is usable, its N, whether it holds valid snapshots of another
UID, and the milliseconds it took. -/
def Dev.restore (d : Dev) (usable : Bool) (n : Nat) (foreign : Bool) (ms : Nat) : Dev :=
  if d.flag pDev R.DEV_BOOT_REC_DONE then d
  else
    let d := (d.setFld pDev R.DEV_BOOT_REC_DONE 1).setFld pDev R.DEV_BOOT_REC_MS (min ms 0xFFFF)
    let ok := usable && d.flag pPin (R.PIN_SUPPLY_OK.bit 7)
    let d := { d with flash := { d.flash with usable := ok, n := if ok then n else 0 } }
    let d := d.setFld pRec R.REC_STAT_SLOTS (if ok then n else 0)
    let fin := fun (d : Dev) (st : Nat) => { d with pins := { d.pins with vaonLost := false } }.showTime.setFld pRec R.REC_STAT_STATE st
    if !ok then (fin d 4).setFld pRec R.REC_STAT_CAUSE 3
    else match d.flash.newest with
      | some s => (fin (d.applySnapshot s.1 s.2) 1).recNext
      | none =>
        let d := { d with rcd := { d.rcd with slot := n - 1, lastSnap := d.rcd.secs } }
        if foreign then (fin d 5).setFld pRec R.REC_STAT_CAUSE 3 else (fin d 1).recNext

/-! ### Clearing (R380 to R382, R421) -/

/-- The token the device expects now (R380). -/
def Dev.token (d : Dev) : List Nat :=
  hmacSha256 (le 32 Config.deviceKey.toNat)
    (le 8 Config.uid.toNat ++ le 4 (d.fld pRec R.REC_PCC_COUNT) ++ le 4 (d.fld pRec R.REC_NONCE_LO_NONCE) ++
      le 4 (d.fld pRec R.REC_NONCE_HI_NONCE))

/-- The digest the host wrote, word 0 holding bytes 0 to 3 (R380). -/
def Dev.tokenWritten (d : Dev) : List Nat := (List.range 8).flatMap fun t => le 4 (d.fld pRec (R.REC_TOKEN_DIGEST t))

/-- A new nonce is drawn (R380; log entry 4). -/
def Dev.newNonce (d : Dev) : Dev :=
  let f := d.freeBits 64
  (f.2.setFld pRec R.REC_NONCE_LO_NONCE f.1).setFld pRec R.REC_NONCE_HI_NONCE (f.1 / 2 ^ 32)

/-- A CLEAR or ADOPT request is refused with a CLR_RESULT (R381). -/
def Dev.clrRefuse (d : Dev) (code : Nat) : Dev := ((d.setFld pRec R.REC_STAT_CLR_RESULT code).raiseEvt pRec 4).newNonce

/-- A token that does not match: counter 1,017, and LOCKED after 8 in one power cycle (R381). -/
def Dev.tokenRefuse (d : Dev) : Dev :=
  let d := { d with rcd := { d.rcd with refusedTok := d.rcd.refusedTok + 1 } }.recCount 1017 1
  (if 8 ≤ d.rcd.refusedTok then d.setFld pRec R.REC_STAT_LOCKED 1 else d).clrRefuse 3

/-- A clear log entry of now. -/
def Dev.logEntry (d : Dev) (scope : Nat) (adoption : Bool) : ClearLog :=
  { secs := d.seconds, pcc := d.rcd.pcc, digest := bytesNum d.tokenWritten 0 8, scope := scope, adoption := adoption }

/-- An accepted request waits for its commit: the flush it forces starts, or is queued (R381, R382). -/
def Dev.clrAccept (d : Dev) (reason : Nat) : Dev :=
  let d := { d with rcd := { d.rcd with clr := 1 } }.setFld pRec R.REC_STAT_CLR_RESULT 1
  (d.requestFlush reason 0).newNonce

/-- A write of REC_CTL.CLEAR (R380, R381). -/
def Dev.recClear (d : Dev) (scope : Nat) : Dev :=
  let st := d.fld pRec R.REC_STAT_STATE
  if d.flag pRec R.REC_STAT_LOCKED then d.clrRefuse 7
  else if st ≠ 1 ∧ st ≠ 2 then d.clrRefuse 6
  else if d.tokenWritten ≠ d.token then d.tokenRefuse
  else if scope = 0 then d.clrRefuse 4
  else if 48 ≤ d.rcd.live.log.length then d.clrRefuse 5
  else
    let l := d.rcd.live
    let l := { l with bins := if scope.testBit 0 then [] else l.bins, ext := if scope.testBit 1 then [] else l.ext,
                      ctrs := if scope.testBit 2 then l.ctrs.filter fun e => Nat.ble 1016 e.1 else l.ctrs,
                      log := l.log ++ [d.logEntry scope false] }
    ({ d with rcd := { d.rcd with live := l } }.recCount 1016 1).clrAccept 3

/-- A write of REC_CTL.ADOPT (R382). -/
def Dev.recAdopt (d : Dev) (scope : Nat) : Dev :=
  if d.flag pRec R.REC_STAT_LOCKED then d.clrRefuse 7
  else if d.fld pRec R.REC_STAT_STATE ≠ 5 then d.clrRefuse 6
  else if d.tokenWritten ≠ d.token then d.tokenRefuse
  else
    let d := { d with rcd := { d.rcd with live := { d.rcd.live with log := [d.logEntry scope true] }, adopt := true, slot := d.flash.n - 1 } }
    ((d.recCount 1018 1).setFld pRec R.REC_STAT_STATE 1).clrAccept 4

/-! ### Failures and resets (R384, R386, R420) -/

/-- A word of the recorder SRAM has an uncorrectable error (R384). Which word it is the command does not say: a free value. -/
def Dev.sramDamage (d : Dev) : Dev :=
  let f := d.freeBits 32
  let off := 0x1000 + 4 * (f.1 % 11264)
  let d := f.2
  let l := d.rcd.live
  let l :=
    if off < 0x2000 then { l with ctrs := mput 0 l.ctrs ((off - 0x1000) / 4) 0xFFFFFFFF }
    else if off < 0x4000 then
      { l with ext := mput .init l.ext ((off - 0x2000) / 16) { mat .init l.ext ((off - 0x2000) / 16) with valid := false } }
    else { l with bins := mput 0 l.bins ((off - 0x4000) / 4) 0xFFFFFFFF }
  let l := { l with damagedN := l.damagedN + 1, damaged := if l.damaged.length < 31 then l.damaged ++ [off] else l.damaged }
  ({ d with rcd := { d.rcd with live := l } }).recCount 1010 1

/-- What power-on reset leaves of the recorder: what the always-on domain and the flash keep, and a tail that is being written
from the supplies that PFAIL_N holds up (R378, R379, R420). -/
def Dev.recPor (d : Dev) : Dev :=
  let lost := d.pins.vaonLost
  let writes := !lost && (d.rcd.stage == 5 || d.rcd.stage == 6)
  let r : RecSt := { RecSt.init with secs := if lost then 0 else d.rcd.secs, pcc := if lost then 0 else d.rcd.pcc,
                                     stage := if writes then d.rcd.stage else 0, tailSlot := d.rcd.tailSlot,
                                     tail := if writes then d.rcd.tail else none }
  { d with rcd := r }

/-- A chip reset interrupts a flush; the recorder keeps what it gathered, and a tail being written goes on (R420). -/
def Dev.recChip (d : Dev) : Dev :=
  if d.rcd.stage = 5 ∨ d.rcd.stage = 6 then d
  else
    let d := { d with rcd := { d.rcd with stage := 0, shadow := none, adopt := false, clr := if d.rcd.clr = 2 then 1 else d.rcd.clr } }
    if d.fld pRec R.REC_STAT_STATE = 2 then d.setFld pRec R.REC_STAT_STATE 1 else d

/-- A flash operation of a tail ends while the device is held in reset (R378): the slot gets its record, and nothing is reported. -/
def Dev.tailHeld (d : Dev) (good : Bool) : Dev :=
  if d.rcd.stage = 5 ∧ good = true then d.setStage 6
  else if d.rcd.stage = 5 ∨ d.rcd.stage = 6 then
    let kept := d.rcd.tail.map fun (t : TailRec) => { t with commit := true }
    let d : Dev := { d with rcd := { d.rcd with stage := 0, tail := none },
                            flash := if good then { d.flash with tails := mput none d.flash.tails d.rcd.tailSlot kept } else d.flash }
    if d.fld pRec R.REC_STAT_STATE = 3 ∧ d.pins.pfailN = true then d.setFld pRec R.REC_STAT_STATE 1 else d
  else d

end Sys2Proof.Machine
end

