-- ==== Sys2Proof/Machine/ObsOps.lean ====
section
/-! DEFINITION. The observation port and the boundary-scan port (R387 to R395). -/

namespace Sys2Proof.Machine

/-- Show the FIFO level and whether a sweep runs (Table 18-4). -/
def Dev.showObs (d : Dev) : Dev :=
  (d.setFld pObs R.OBS_STAT_FIFO_LVL d.obs.fifo.length).setFlag pObs R.OBS_STAT_SWEEP d.obs.sweep.isSome

/-- A record an engine wrote under R147 meets the port's FIFO (R390). -/
def Dev.obsTake (d : Dev) (e : Nat) (rec : BitVec 128) : Dev :=
  if !d.flag pObs R.OBS_CTL_TRACE_EN || !(d.fld pObs (R.OBS_ENG_SEL_ENG (e / 32))).testBit (e % 32) then d
  else if 256 ≤ d.obs.fifo.length then
    { d with obs := { d.obs with dropped := min (d.obs.dropped + 1) 0xFFFFFFFF } }.bump pObs R.OBS_DROP_TRACE
  else { d with obs := { d.obs with fifo := d.obs.fifo ++ [(e, rec)] } }.showObs

/-- The counter has passed a frame boundary, by counting or by a step: a TIME packet is due (R389). -/
def Dev.obsTime (d : Dev) : Dev :=
  if d.flag pObs R.PG_CTL_EN && d.flag pObs R.OBS_CTL_TIME_EN then { d with obs := { d.obs with timeDue := true } } else d

/-- A counter sweep starts at a frame boundary, or is skipped while one runs (R393). -/
def Dev.obsSweep (d : Dev) : Dev :=
  if !d.flag pObs R.OBS_CTL_CNT_EN || d.frame.frame % 2 ^ d.fld pObs R.OBS_CTL_CNT_PER ≠ 0 then d
  else if d.obs.sweep.isSome then d.bump pObs R.OBS_DROP_SWEEP_SKIP
  else { d with obs := { d.obs with sweep := some (d.fld pObs R.OBS_CNT_RANGE_FIRST) } }.showObs

/-- Performance counter `c`; the reserved ones read zero (R391). -/
def Dev.perfAt (d : Dev) (c : Nat) : Nat := if c < 1345 then mat 0 d.obs.ctrs c % 2 ^ 48 else 0

/-- Send a packet of a type with its source and body; the CRC covers the first 20 bytes (R388). -/
def Dev.obsSend (d : Dev) (typ source : Nat) (body : List Nat) : Dev :=
  let p := [typ, source] ++ le 2 d.obs.seq ++ padTo 16 body
  { d with obs := { d.obs with packet := p ++ le 4 (crc32c p), seq := (d.obs.seq + 1) % 2 ^ 16 } }

/-- A packet boundary: the highest-ranked packet that waits is sent (R389). -/
def Dev.obsPacket (d : Dev) : Dev :=
  if !d.flag pObs R.PG_CTL_EN then d
  else if d.obs.seq % 256 = 0 then d.obsSend 0x5A 0x5A (List.replicate 16 0x5A)
  else if d.obs.timeDue && d.flag pObs R.OBS_CTL_TIME_EN then
    { d with obs := { d.obs with timeDue := false } }.obsSend 3 0xFF
      (le 2 d.frame.frame ++ le 4 d.frame.hyper ++ [d.fld pFrame R.FRAME_STAT_MODE])
  else if d.obs.dropped ≠ 0 then
    { d with obs := { d.obs with dropped := 0 } }.obsSend 4 0xFF (le 4 d.obs.dropped)
  else match d.obs.fifo with
    | (e, r) :: rest => ({ d with obs := { d.obs with fifo := rest } }.obsSend 1 e (le 16 r.toNat)).showObs
    | [] =>
      match d.obs.sweep with
      | some c =>
        let next := if c < d.fld pObs R.OBS_CNT_RANGE_LAST then some (c + 1) else none
        let stamp := d.frame.tick + d.frame.frame % 512 * 2 ^ 23
        ({ d with obs := { d.obs with sweep := next } }.obsSend 2 0xFF (le 2 c ++ le 6 (d.perfAt c) ++ le 4 stamp)).showObs
      | none => d.obsSend 0 0xFF []

/-- FREEZE is written (R392). -/
def Dev.perfFreeze (d : Dev) (on : Bool) : Dev :=
  (d.setFlag pObs R.OBS_PC_CTL_FREEZE on).setFlag pObs R.OBS_STAT_FROZEN on

/-- CLEAR is written: every counter is zero (R392). -/
def Dev.perfClear (d : Dev) : Dev := { d with obs := { d.obs with ctrs := [] } }

/-! ### Boundary scan (R394) -/

/-- Does boundary scan exist? -/
def Dev.scanOn (d : Dev) : Bool := d.flag pPin R.PIN_STRAP_TEST

/-- IDCODE (R394). -/
def idcode : BitVec 32 :=
  BitVec.ofNat 32 ((Config.blockRev 0x01).toNat % 16 * 2 ^ 28 + 0x7192 * 2 ^ 12 + Config.jep106.toNat * 2 + 1)

/-- The levels the boundary register samples, in the model's order (log entry 31): GPIO0 to GPIO47, RESET_N, PERST_N, PFAIL_N,
BIAS_CLR_N, and ERR_N. -/
def Dev.pinLevels (d : Dev) : List Bool :=
  (List.range 48).map d.gpioLevel ++
    [d.pins.resetN, d.pins.perstN, d.pins.pfailN, d.pins.clrN, !d.flag pFault R.FAULT_STAT_ERR_N]

/-- Load a JTAG instruction; without the TEST strap the inputs are ignored (R394). -/
def Dev.scan (d : Dev) (j : JtagSt) : Dev := if d.scanOn then { d with jtag := j } else d

/-- BYPASS. -/
def Dev.scanBypass (d : Dev) : Dev := d.scan { d.jtag with ir := 0xFF, drive := false, highz := false }

/-- IDCODE. -/
def Dev.scanIdcode (d : Dev) : Dev := d.scan { d.jtag with ir := 0x01, drive := false, highz := false, shift := idcode }

/-- SAMPLE/PRELOAD: sample the pins, or load the boundary register. -/
def Dev.scanSample (d : Dev) (load : Option (List Bool)) : Dev :=
  d.scan { d.jtag with ir := 0x02, drive := false, highz := false, boundary := load.getD d.pinLevels }

/-- EXTEST: the pins are driven from the boundary register. -/
def Dev.scanExtest (d : Dev) : Dev := d.scan { d.jtag with ir := 0x03, drive := true, highz := false }

/-- CLAMP: the outputs are held from the boundary register while the bypass register is selected. -/
def Dev.scanClamp (d : Dev) : Dev := d.scan { d.jtag with ir := 0x04, drive := true, highz := false }

/-- HIGHZ: the outputs are in high impedance. -/
def Dev.scanHighz (d : Dev) : Dev := d.scan { d.jtag with ir := 0x05, drive := false, highz := true }

/-- JTAG_TRST_N resets the test access port: IDCODE is selected and the pins are released. -/
def Dev.scanReset (d : Dev) : Dev := d.scan { d.jtag with ir := 0x01, drive := false, highz := false, shift := idcode }

end Sys2Proof.Machine
end

