-- ==== Sys2Proof/Machine/XlatOps.lean ====
section
/-! DEFINITION. Host memory as the block meets it, and the translation unit (R341 to R343). -/

namespace Sys2Proof.Machine

/-! ### Host memory -/

/-- What a byte of host memory nothing has written reads as (log entry 8). -/
def unwritten : Nat → BitVec 8 := fun _ => 0

/-- The byte of host physical memory at `a`. -/
def State.hostByte (s : State) (a : Nat) : BitVec 8 := mget unwritten s.host.mem a

/-- Store one byte of host physical memory. -/
def State.hostPut (s : State) (a : Nat) (b : BitVec 8) : State :=
  { s with host := { s.host with mem := mset unwritten s.host.mem a b } }

/-- Read `n` bytes of host physical memory, little-endian. -/
def State.hostNum (s : State) (a : Nat) : Nat → Nat
  | 0 => 0
  | n + 1 => (s.hostByte a).toNat + 256 * State.hostNum s (a + 1) n

/-- Store bytes at rising host physical addresses. -/
def State.hostStore (s : State) (a : Nat) : List Nat → State
  | [] => s
  | b :: r => State.hostStore (s.hostPut a (BitVec.ofNat 8 b)) (a + 1) r

/-- The canonical form of host memory. -/
abbrev Memory.wf (m : List Host.Cell) : Bool := mwf unwritten m

/-! ### Small updates -/

/-- Change the device. -/
def State.onDev (s : State) (f : Dev → Dev) : State := { s with dev := f s.dev }

/-- Change the queue manager. -/
def State.setQm (s : State) (q : QmgrSt) : State := { s with host := { s.host with qm := q } }

/-- Change the translation unit. -/
def State.setXlat (s : State) (x : XlatSt) : State := { s with host := { s.host with xlat := x } }

/-- DMA channel `c`. -/
def State.dmaSt (s : State) (c : Nat) : DmaSt := mat .init s.host.dma c

/-- Change DMA channel `c`. -/
def State.setDma (s : State) (c : Nat) (x : DmaSt) : State := { s with host := { s.host with dma := mput .init s.host.dma c x } }

/-- Is the host port SPI (R328)? -/
def Dev.spiHost (d : Dev) : Bool := d.flag pPin R.PIN_STRAP_HOSTSEL

/-! ### Translation (R341, R342) -/

/-- How a translation ends: a host physical address, or a fault kind of Table 15-7 with the address its entry shows and whether a
table walk found it. -/
inductive XRes where
  | phys (a : Nat)
  | bad (kind addr : Nat) (walk : Bool)
  deriving DecidableEq, Repr

/-- The L1 table's host physical address. -/
def Dev.l1Base (d : Dev) : Nat := d.fld pXlat R.XLAT_L1_BASE_LO_BASE * 4096 + d.fld pXlat R.XLAT_L1_BASE_HI_BASE * 2 ^ 32

/-- Page number of an entry's ADDR field. -/
def entryPage (e : Nat) : Nat := e / 4096

/-- A leaf as the cache holds it. -/
def leafOf (e vpage span : Nat) : XlatEnt :=
  { vpage := vpage, span := span, ppage := entryPage e, w := e.testBit 1, r := e.testBit 2, ns := e.testBit 4 }

/-- Walk the tables for device address `a`: a leaf, or a fault kind with the walked entry's address. -/
def State.walk (s : State) (a : Nat) (readOk : Bool) : XlatEnt ⊕ (Nat × Nat) :=
  let at1 := s.dev.l1Base + 8 * (a / 2 ^ 21)
  let e1 := s.hostNum at1 8
  if !readOk then .inr (6, at1 % 2 ^ 48)
  else if !e1.testBit 0 then .inr (1, a)
  else if e1.testBit 3 then
    if entryPage e1 % 512 ≠ 0 then .inr (5, a) else .inl (leafOf e1 (a / 2 ^ 21 * 512) 512)
  else
    let e2 := s.hostNum (entryPage e1 * 4096 + 8 * (a / 4096 % 512)) 8
    if e2.testBit 0 then .inl (leafOf e2 (a / 4096) 1) else .inr (2, a)

/-- Hold a leaf; a full cache of 1,024 gives up an entry the spec does not name: a free value. -/
def State.cacheAdd (s : State) (e : XlatEnt) : State :=
  let c := s.host.xlat.cache
  if c.length < 1024 then s.setXlat { s.host.xlat with cache := c ++ [e] }
  else
    let f := s.dev.freeBits 10
    { s with dev := f.2 }.setXlat { s.host.xlat with cache := c.eraseIdx f.1 ++ [e] }

/-- A leaf grants the access, or faults with kind 3. -/
def XlatEnt.grant (e : XlatEnt) (a : Nat) (write : Bool) : XRes :=
  if (if write then e.w else e.r) then .phys ((e.ppage + (a / 4096 - e.vpage)) * 4096 + a % 4096) else .bad 3 a false

/-- Translate device address `a` for a write or a read (R341, R342). Bus Master Enable stands while the link is up (log entry
33). `readOk` says that the host answers the walk's reads. -/
def State.translate (s : State) (a : Nat) (write readOk : Bool) : State × XRes :=
  let d := s.dev
  if !d.flag pXlat R.XLAT_CTL_EN then (s, .bad 8 (a % 2 ^ 48) false)
  else if !d.pins.pcieUp then (s, .bad 9 (a % 2 ^ 48) false)
  else if 2 ^ (21 + d.fld pXlat R.XLAT_L1_CFG_LOG2) ≤ a then (s, .bad 4 (a % 2 ^ 48) false)
  else match s.host.xlat.cache.find? fun e => Nat.ble e.vpage (a / 4096) && Nat.blt (a / 4096) (e.vpage + e.span) with
    | some e => (s, e.grant a write)
    | none =>
      let s := s.onDev fun d => d.bump pXlat R.XLAT_CNT_A_MISS
      match s.walk a readOk with
      | .inr (k, addr) => (s, .bad k addr true)
      | .inl e =>
        match e.grant a write with
        | .phys p => (s.cacheAdd e, .phys p)
        | b => (s, b)

/-! ### Faults (R343, R348) -/

/-- Show how many entries the fault FIFO holds. -/
def State.showFifo (s : State) : State := s.onDev fun d => d.setFld pXlat R.XLAT_STAT_FIFO_CNT s.host.xlat.fifo.length

/-- A fault FIFO entry (Table 15-8). -/
def Dev.fifoEntry (d : Dev) (c kind addr beat : Nat) (write walk : Bool) : BitVec 128 :=
  BitVec.ofNat 128 (addr % 2 ^ 48 + kind * 2 ^ 48 + write.toNat * 2 ^ 52 + walk.toNat * 2 ^ 53 + c * 2 ^ 54 +
    beat % 2 ^ 26 * 2 ^ 64 + d.frame.tick * 2 ^ 96 + d.frame.frame % 512 * 2 ^ 119)

/-- Channel `c` stops with a fault: its registers, the counters, and the FIFO (R343, R348). -/
def State.xfault (s : State) (c kind addr beat : Nat) (write walk : Bool) : State :=
  let s := s.onDev fun d =>
    let d := ((d.setFld (pDma c) R.DMA_STAT_STATE 3).setFld (pDma c) R.DMA_STAT_KIND kind).bump (pDma c) R.DMA_CNT_FAULTS
    (d.raiseEvt (pDma c) 1).bump pXlat R.XLAT_CNT_A_FAULTS
  if 64 ≤ s.host.xlat.fifo.length then
    s.onDev fun d => (d.bump pXlat R.XLAT_CNT_B_FIFO_LOST).setFld pXlat R.XLAT_STAT_FIFO_OVF 1
  else
    (s.setXlat { s.host.xlat with fifo := s.host.xlat.fifo ++ [s.dev.fifoEntry c kind addr beat write walk] }).showFifo

/-- Word `w` of the head entry; reads of an empty FIFO return zero (R343). -/
def State.fifoWord (s : State) (w : Nat) : Word :=
  match s.host.xlat.fifo with
  | [] => 0
  | e :: _ => (e >>> (32 * w)).setWidth 32

/-- A read of XLAT_FIFO(3) removes the head entry (R343). -/
def State.fifoPop (s : State) : State :=
  (s.setXlat { s.host.xlat with fifo := s.host.xlat.fifo.drop 1 }).showFifo

/-- Write bytes at a device address, page by page: what a fault leaves unwritten is answered with where it begins. `fuel` bounds the
pages. -/
def State.xwrite (s : State) (c beat : Nat) : Nat → Nat → List Nat → State × Option (Nat × List Nat)
  | 0, _, _ => (s, none)
  | fuel + 1, a, bytes =>
    if bytes.isEmpty then (s, none)
    else
      let n := 4096 - a % 4096
      let t := s.translate a true true
      match t.2 with
      | .bad k addr walk => (t.1.xfault c k addr beat true walk, some (a, bytes))
      | .phys p => State.xwrite (t.1.hostStore p (bytes.take n)) c beat fuel (a + n) (bytes.drop n)

/-- Read `n` bytes of one page at a device address. -/
def State.xread (s : State) (c beat a n : Nat) : State × Option Nat :=
  let t := s.translate a false true
  match t.2 with
  | .bad k addr walk => (t.1.xfault c k addr beat false walk, none)
  | .phys p => (t.1, some (t.1.hostNum p n))

/-! ### Invalidation (R342) -/

/-- XLAT_INV_CTL.GO (R342): removes a range of 2^SIZE bytes, or everything; ignored and counted while one runs. -/
def State.xinv (s : State) (size : Nat) (all : Bool) : State :=
  let s := s.onDev fun d => (d.setFld pXlat R.XLAT_INV_CTL_SIZE size).setFlag pXlat R.XLAT_INV_CTL_ALL all
  if s.dev.flag pXlat R.XLAT_STAT_INV_BUSY then s.onDev fun d => d.badAcc (pXlat + 0x58)
  else
    let lo := s.dev.fld pXlat R.XLAT_INV_LO_ADDR + s.dev.fld pXlat R.XLAT_INV_HI_ADDR * 2 ^ 20
    let keep := fun (e : XlatEnt) => !all && (decide (e.vpage * 4096 + e.span * 4096 ≤ lo * 4096) || decide (lo * 4096 + 2 ^ size ≤ e.vpage * 4096))
    (s.setXlat { s.host.xlat with cache := s.host.xlat.cache.filter keep }).onDev fun d => d.setFld pXlat R.XLAT_STAT_INV_BUSY 1

/-- The invalidation is complete (R342). -/
def State.xinvDone (s : State) : State := s.onDev fun d => d.setFld pXlat R.XLAT_STAT_INV_BUSY 0

/-- The whole cache is flushed (R342). -/
def State.xflush (s : State) : State := s.setXlat { s.host.xlat with cache := [] }

end Sys2Proof.Machine
end

