-- ==== Sys2Proof/Machine/QmgrOps.lean ====
section
/-! DEFINITION. Management queues (14): contexts and rings in host memory, doorbells, the scheduler, the records a device produces, and
the master's writing of them (R313 to R326, R348). The queue manager's own accesses take place within the command that needs them. -/

namespace Sys2Proof.Machine

/-! ### Producing records (R320 to R323) -/

/-- This device produces a record for a device-to-host index, with the next SEQ of that index (R323). -/
def Dev.produce (d : Dev) (idx kind err tag data : Nat) : Dev :=
  let n := mat 0 d.seqOut idx
  { d with outbox := d.outbox ++ [{ idx := idx, kind := kind, err := err, tag := tag, seq := n, data := data, bytes := [] }],
           seqOut := mput 0 d.seqOut idx ((n + 1) % 2 ^ 32) }

/-- An EVENT record for page `pg`: while one waits unsent, the new rise is ORed into it (R322). -/
def Dev.sendEvent (d : Dev) (pg : Nat) : Dev :=
  let bits := d.fld pg R.PG_EVT_EVT &&& d.fld pg R.PG_EVT_EN_EN
  let mine := fun (r : OutRec) => r.kind == 0x83 && r.tag == pageNo pg
  if d.outbox.any mine then
    { d with outbox := d.outbox.map fun r => if mine r then { r with data := r.data ||| bits } else r }
  else d.produce 12 0x83 0 (pageNo pg) bits

/-- The DATA of a STATE record for page `pg` (Table 14-4). -/
def Dev.stateData (d : Dev) (pg : Nat) : Nat :=
  (d.reg (pg + R.PG_STAT_REQ.off)).toNat + (d.reg (pg + R.PG_SEQ_SEQ.off)).toNat * 2 ^ 32

/-- A STATE record for page `pg`: a waiting one is replaced by the newer value (R322). -/
def Dev.sendState (d : Dev) (pg : Nat) : Dev :=
  let mine := fun (r : OutRec) => r.kind == 0x84 && r.tag == pageNo pg
  if d.outbox.any mine then
    { d with outbox := d.outbox.map fun r => if mine r then { r with data := d.stateData pg } else r }
  else d.produce 13 0x84 0 (pageNo pg) (d.stateData pg)

/-- The completion of a record of host queue `q`, where it owes one (R320): an error code of Table 14-5 takes its place. -/
def Dev.complete (d : Dev) (q tag kind err data : Nat) (cpl : Bool) : Dev :=
  if err ≠ 0 then (if cpl then d.produce (8 + q / 2) 0x86 err tag 0 else d)
  else if cpl then d.produce (8 + q / 2) kind 0 tag data else d

/-! ### The manager and its channel -/

/-- Does the queue manager run (R313)? -/
def Dev.qmRuns (d : Dev) : Bool := d.flag pQmgr R.QMGR_CTL_EN && d.isMaster && !d.spiHost

/-- The DMA channel of client QMGR, if one is enabled (R344). -/
def Dev.qmChan (d : Dev) : Option Nat :=
  (List.range 16).find? fun n => d.flag (pDma n) R.PG_CTL_EN && d.fld (pDma n) R.DMA_CTL_CLIENT == 4

/-- Is channel `c` stopped at a fault? -/
def Dev.dmaFaulted (d : Dev) (c : Nat) : Bool := d.fld (pDma c) R.DMA_STAT_STATE == 3

/-- The channel the queue manager can use now. -/
def Dev.qmFree (d : Dev) : Option Nat := d.qmChan.filter fun c => !d.dmaFaulted c

/-- Show the outstanding entries (Table 14-7). -/
def State.showOut (s : State) : State :=
  s.onDev fun d => d.setFld pQmgr R.QMGR_STAT_OUTSTANDING (min s.host.qm.outst.length 4096)

/-- QMGR_LAST_ERR (R325). -/
def Dev.lastErr (d : Dev) (queue code : Nat) : Dev :=
  (d.setFld pQmgr R.QMGR_LAST_ERR_QUEUE queue).setFld pQmgr R.QMGR_LAST_ERR_CODE code

/-- Set the ready bit of queue `q`: the bitmap as a rising list (R316). -/
def readyAdd (q : Nat) : List Nat → List Nat
  | [] => [q]
  | a :: r => if a < q then a :: readyAdd q r else if a = q then a :: r else q :: a :: r

/-- Set the ready bit of queue `q`. -/
def State.setReady (s : State) (q : Nat) : State := s.setQm { s.host.qm with ready := readyAdd q s.host.qm.ready }

/-- Clear the ready bit of queue `q`. -/
def State.clearReady (s : State) (q : Nat) : State := s.setQm { s.host.qm with ready := s.host.qm.ready.filter (· ≠ q) }

/-! ### Contexts (Table 14-2) -/

/-- A queue context as the manager reads it. -/
structure QCtx where
  log2 : Nat
  en : Bool
  base : Nat
  tail : Nat
  head : Nat
  deriving DecidableEq, Repr

/-- The fields of 32 bytes of context. -/
def QCtx.of (n : Nat) : QCtx :=
  { log2 := n % 32, en := n.testBit 5, base := n / 2 ^ 12 % 2 ^ 36 * 4096, tail := n / 2 ^ 64 % 2 ^ 17, head := n / 2 ^ 128 % 2 ^ 17 }

/-- Is the queue enabled with LOG2 in range (R315)? -/
def QCtx.ok (c : QCtx) : Bool := c.en && decide (4 ≤ c.log2 ∧ c.log2 ≤ 16)

/-- Running indexes wrap at twice the ring. -/
def QCtx.wrap (c : QCtx) (i : Nat) : Nat := i % 2 ^ (c.log2 + 1)

/-- Entries between HEAD and TAIL of a host-to-device queue. -/
def QCtx.waiting (c : QCtx) : Nat := c.wrap (c.tail + 2 ^ (c.log2 + 1) - c.wrap c.head)

/-- Free entries of a device-to-host queue. -/
def QCtx.room (c : QCtx) : Nat := 2 ^ c.log2 - c.wrap (c.head + 2 ^ (c.log2 + 1) - c.wrap c.tail)

/-- The device address of the entry of running index `i`. -/
def QCtx.entry (c : QCtx) (i : Nat) : Nat := c.base + 16 * (i % 2 ^ c.log2)

/-- The context of queue `q`, device address. -/
def Dev.ctxAt (d : Dev) (q : Nat) : Nat := d.pair pQmgr R.QMGR_CTX_BASE_LO_BASE R.QMGR_CTX_BASE_HI_BASE + 32 * q

/-- Channel `c` faulted on an access of the queue manager. -/
def State.setJob (s : State) (j : QJob) : State := s.setQm { s.host.qm with job := some j }

/-- Read the context of queue `q`. -/
def State.readCtx (s : State) (c q : Nat) : State × Option QCtx :=
  let t := s.xread c 0 (s.dev.ctxAt q) 32
  (t.1, t.2.map QCtx.of)

/-! ### Outstanding records (R321, R325) -/

/-- Remove the first outstanding record that `p` names. -/
def dropFirst (p : Outst → Bool) : List Outst → List Outst
  | [] => []
  | x :: r => if p x then r else x :: dropFirst p r

/-! ### Writing records to rings (R320, R321) -/

/-- A record as its ring entry, with PHASE (Table 14-4). -/
def OutRec.entry (r : OutRec) (phase : Bool) : List Nat :=
  le 2 (r.kind + phase.toNat * 2 ^ 8 + r.err * 2 ^ 12) ++ le 2 r.tag ++ le 4 r.seq ++ le 8 r.data

/-- How the write of a record went. -/
inductive PutEnd where
  | done
  | full
  | stopped
  deriving DecidableEq, Repr

/-- Write one record to the ring of its queue, then HEAD and SEQ_LAST (R314, R320). -/
def State.ringPut (s : State) (c a : Nat) (r : OutRec) : State × PutEnd :=
  let q := 16 * a + r.idx
  let x := s.readCtx c q
  match x.2 with
  | none => (x.1.setJob (.put a r), .stopped)
  | some k =>
    if !k.ok || k.room == 0 then (x.1, .full)
    else
      let phase := !(k.wrap k.head).testBit k.log2
      let w := x.1.xwrite c 0 2 (k.entry k.head) (r.entry phase)
      match w.2 with
      | some _ => (w.1.setJob (.put a r), .stopped)
      | none =>
        let h := k.wrap (k.head + 1)
        let v := w.1.xwrite c 0 2 (w.1.dev.ctxAt q + 16) (le 4 h ++ le 4 r.seq)
        match v.2 with
        | some _ => (v.1.setJob (.put a r), .stopped)
        | none =>
          let s := v.1.onDev fun d => d.perf (1312 + c) 1
          (if r.kind = 0x86 then s.onDev fun d => (d.raiseEvt pQmgr 0).lastErr q r.err else s, .done)

/-- Write one piece of an upload to its buffer; what a fault leaves is kept for the retry. -/
def State.piecePut (s : State) (c a : Nat) (r : OutRec) : State × PutEnd :=
  let w := s.xwrite c 0 3 r.data r.bytes
  match w.2 with
  | some rest => (w.1.setJob (.put a { r with data := rest.1, bytes := rest.2 }), .stopped)
  | none => (w.1.onDev fun d => d.perf (1312 + c) 1, .done)

/-- An EVENT or STATE record is dropped and counted (R321). -/
def State.dropRec (s : State) (a : Nat) (r : OutRec) : State :=
  let q := 16 * a + r.idx
  let s := s.setQm { s.host.qm with drops := mput 0 s.host.qm.drops q (mat 0 s.host.qm.drops q + 1) }
  s.onDev fun d => (d.bump pQmgr R.QMGR_CNT_C_DROP_EVT).raiseEvt pQmgr 1

/-- A GAP record for the drops of queue `q`; its TAG and SEQ are given no value: free values (R321). -/
def State.gapRec (s : State) (idx drops : Nat) : State × OutRec :=
  let f := s.dev.freeBits 48
  ({ s with dev := f.2 },
   { idx := idx, kind := 0x87, err := 0, tag := f.1 % 2 ^ 16, seq := f.1 / 2 ^ 16, data := min drops 0xFFFFFFFF, bytes := [] })

/-- Write a record that came from address `a`, the GAP owed before it first (R321). -/
def State.putRec (s : State) (c a : Nat) (r : OutRec) : State × PutEnd :=
  if r.kind = 0 then s.piecePut c a r
  else
    let q := 16 * a + r.idx
    let n := mat 0 s.host.qm.drops q
    if n = 0 then s.ringPut c a r
    else
      let x := s.readCtx c q
      match x.2 with
      | none => (x.1.setJob (.put a r), .stopped)
      | some k =>
        if !k.ok || decide (k.room < 2) then (x.1, .full)
        else
          let g := x.1.gapRec r.idx n
          let p := g.1.ringPut c a g.2
          match p.2 with
          | .done => (p.1.setQm { p.1.host.qm with drops := mput 0 p.1.host.qm.drops q 0 }).ringPut c a r
          | e => (p.1.setQm { p.1.host.qm with job := if e = .stopped then some (.put a r) else p.1.host.qm.job }, e)

/-- Does the record wait rather than drop (R321)? -/
def OutRec.waits (r : OutRec) : Bool := r.idx != 12 && r.idx != 13

/-- A record meets its ring: written, held, or dropped. Records of a queue that already holds some wait behind them. -/
def State.offer (s : State) (a : Nat) (r : OutRec) : State :=
  let behind := s.host.qm.held.any fun h => h.1 == a && h.2.idx == r.idx
  let hold (s : State) : State := s.setQm { s.host.qm with held := s.host.qm.held ++ [(a, r)] }
  match s.dev.qmFree with
  | none => if r.waits then (hold s).setReady (16 * a + r.idx) else s.dropRec a r
  | some c =>
    if behind then (hold s).setReady (16 * a + r.idx)
    else
      let p := s.putRec c a r
      match p.2 with
      | .done => p.1
      | .full => if r.waits then hold p.1 else p.1.dropRec a r
      | .stopped => p.1

/-- The index the completion of outstanding queue code `q` goes to (Table 14-1): 16 and up is an UPLOAD_TRACE, 32 and up an
UPLOAD_REC. -/
def cplIndex (q : Nat) : Nat := if q < 16 then 8 + q / 2 else if q < 32 then 14 else 15

/-- An ERROR record the master makes in place of the completion of a record to address `a` (R325); its SEQ is no device's count, and
the spec gives it no value: a free value. -/
def State.masterError (s : State) (a q tag code : Nat) : State :=
  let f := s.dev.freeBits 32
  { s with dev := f.2.lastErr (16 * a + q % 16) code }.offer a
    { idx := cplIndex q, kind := 0x86, err := code, tag := tag, seq := f.1, data := 0, bytes := [] }

/-- Records of queue `q` that wait are written while the ring takes them; `fuel` bounds the batch (R316). -/
def State.writeHeld (s : State) (c a idx : Nat) : Nat → State
  | 0 => s
  | fuel + 1 =>
    match s.host.qm.held.find? fun h => h.1 == a && h.2.idx == idx with
    | none => s.clearReady (16 * a + idx)
    | some h =>
      let p := s.putRec c a h.2
      let rest := s.host.qm.held.eraseIdx (s.host.qm.held.findIdx fun h => h.1 == a && h.2.idx == idx)
      match p.2 with
      | .done => State.writeHeld (p.1.setQm { p.1.host.qm with held := rest }) c a idx fuel
      | .full => p.1.clearReady (16 * a + idx)
      | .stopped => p.1.setQm { p.1.host.qm with held := rest }

/-! ### Doorbells (R315) -/

/-- A doorbell for queue `q` whose context is at hand. -/
def State.ringBell (s : State) (q : Nat) (k : QCtx) : State :=
  if !k.ok then s.onDev fun d => (d.bump pQmgr R.QMGR_CNT_A_DB_IGN).lastErr q 0
  else if q % 16 < 8 then (if k.waiting = 0 then s else s.setReady q)
  else if s.host.qm.held.any fun h => 16 * h.1 + h.2.idx == q then s.setReady q
  else s

/-- A write to QMGR_DOORBELL. With no channel to read the context, the queue stays ready for a later turn (R315, R344). -/
def State.doorbell (s : State) (q : Nat) : State :=
  if !s.dev.qmRuns || decide (16 * s.dev.fld pQmgr R.QMGR_CTX_LIMIT_DEVICES ≤ q) then
    s.onDev fun d => (d.bump pQmgr R.QMGR_CNT_A_DB_IGN).lastErr q 0
  else match s.dev.qmFree with
    | none => s.setReady q
    | some c =>
      let x := s.readCtx c q
      match x.2 with
      | none => x.1.setJob (.context q)
      | some k => x.1.ringBell q k

/-! ### Descriptors (R316, R317) -/

/-- Is the descriptor's operation defined, with its reserved bits zero (Table 14-3)? -/
def descOk (w : BitVec 128) : Bool :=
  let n := w.toNat
  decide (1 ≤ n % 256 ∧ n % 256 ≤ 8) && n / 2 ^ 9 % 2 ^ 7 == 0 && n / 2 ^ 58 % 2 ^ 6 == 0

/-- Does the record owe a completion (Table 14-3)? One that is not well formed is answered with BADOP. -/
def descOwes (w : BitVec 128) : Bool :=
  let op := w.toNat % 256
  !descOk w || w.toNat.testBit 8 || op == 3 || op == 4 || op == 6 || op == 7

/-- The TAG of a descriptor. -/
def descTag (w : BitVec 128) : Nat := w.toNat / 2 ^ 16 % 2 ^ 16

/-- The queue code an outstanding record of host queue `q` is kept under (`cplIndex`). -/
def descQ (q : Nat) (w : BitVec 128) : Nat :=
  if descOk w && w.toNat % 256 == 6 then 16 + q else if descOk w && w.toNat % 256 == 7 then 32 + q else q

/-- The payload that carries host-to-device records (log entry 28). -/
def hostPayload (q : Nat) (ws : List (BitVec 128)) : List Nat :=
  [0, q] ++ le 2 ws.length ++ List.replicate 12 0 ++ ws.flatMap fun w => le 16 w.toNat

/-- Send one record of host queue `q` to address `a` (R317, R325). -/
def State.sendDesc (s : State) (a q : Nat) (w : BitVec 128) : State :=
  let owe (s : State) : State :=
    if descOwes w then (s.setQm { s.host.qm with outst := s.host.qm.outst ++ [{ addr := a, q := descQ q w, tag := descTag w, lost := false }] }).showOut else s
  match s.dev.route a with
  | none => (s.masterError a (descQ q w) (descTag w) 3).onDev fun d => d.bump pQmgr R.QMGR_CNT_C_UNREACH
  | some 3 => owe (s.setQm { s.host.qm with exec := s.host.qm.exec ++ [{ q := q, desc := w }] })
  | some h =>
    let m : MgmtFrame := { dst := a, src := 0, port := 3, body := hostPayload q [w], poison := false, origin := 0 }
    owe (s.onDev fun d => d.setPort h { d.port h with out := (d.port h).out ++ [m] })

/-- Serve a host-to-device queue: fetch the next descriptor, send it, and move HEAD (R314, R316). -/
def State.serveHost (s : State) (c a i : Nat) : State :=
  let q := 16 * a + i
  let x := s.readCtx c q
  match x.2 with
  | none => x.1.setJob (.fetch q)
  | some k =>
    if !k.ok || k.waiting == 0 then x.1.clearReady q
    else
      let f := x.1.xread c 0 (k.entry k.head) 16
      match f.2 with
      | none => f.1.setJob (.fetch q)
      | some w =>
        let v := f.1.xwrite c 0 2 (f.1.dev.ctxAt q + 16) (le 4 (k.wrap (k.head + 1)))
        match v.2 with
        | some _ => v.1.setJob (.fetch q)
        | none =>
          let s := v.1.onDev fun d => d.perf (1312 + c) 1
          let s := if k.waiting = 1 then s.clearReady q else s
          s.sendDesc a i (BitVec.ofNat 128 w)

/-- Is host queue `i` of address `a` held by its upload (R326)? -/
def State.upHolds (s : State) (a i : Nat) : Bool :=
  s.host.qm.outst.any fun o => o.addr == a && Nat.ble 16 o.q && o.q % 16 == i

/-- The index the scheduler serves at address `a`: the lowest ready one that no upload holds. -/
def State.pickIndex (s : State) (a : Nat) : Option Nat :=
  (List.range 16).find? fun i => s.host.qm.ready.contains (16 * a + i) && !(Nat.blt i 8 && s.upHolds a i)

/-- May address `a` be served now with index `i` (R316, R321)? -/
def State.canServe (s : State) (a i : Nat) : Bool :=
  s.dev.qmFree.isSome &&
    (Nat.ble 8 i ||
      (decide (s.host.qm.outst.length < 4096 ∧ s.host.qm.held.length < 4096) &&
        match s.dev.route a with
        | some 3 => true
        | some h => decide (49 ≤ s.dev.credit h)
        | none => true))

/-- The addresses with a ready queue, from the pointer on, wrapping (R316). -/
def State.turnOrder (s : State) : List Nat :=
  let as := (s.host.qm.ready.map (· / 16)).eraseDups
  as.filter (fun a => Nat.ble s.host.qm.ptr a) ++ as.filter fun a => Nat.blt a s.host.qm.ptr

/-- One turn of the scheduler over a list of addresses: those it cannot serve are passed over and counted (R316). -/
def State.turn (s : State) : List Nat → State
  | [] => s
  | a :: rest =>
    match s.pickIndex a with
    | none => State.turn s rest
    | some i =>
      match (if s.canServe a i then s.dev.qmFree else none) with
      | none => State.turn (s.onDev fun d => d.bump pQmgr R.QMGR_CNT_D_PORT_WAIT) rest
      | some c =>
        let s := s.setQm { s.host.qm with ptr := (a + 1) % 2 ^ 16 }
        if i < 8 then s.serveHost c a i else s.writeHeld c a i s.host.qm.held.length

/-- SCHEDULER_TURN (R316). -/
def State.schedTurn (s : State) : State := if s.dev.qmRuns then s.turn s.turnOrder else s

/-! ### Records received by the master (R323, R325) -/

/-- Is `n` newer than `old` in serial arithmetic modulo 2^32 (R323)? -/
def serialNewer (n old : Nat) : Bool :=
  let diff := (n + 2 ^ 32 - old % 2 ^ 32) % 2 ^ 32
  decide (0 < diff ∧ diff < 2 ^ 31)

/-- The fields of a device-to-host record (Table 14-4). -/
def OutRec.of (idx n : Nat) : OutRec :=
  { idx := idx, kind := n % 256, err := n / 2 ^ 12 % 16, tag := n / 2 ^ 16 % 2 ^ 16, seq := n / 2 ^ 32 % 2 ^ 32, data := n / 2 ^ 64,
    bytes := [] }

/-- Does outstanding record `o` await a completion of index `idx` with a TAG from address `a` (Table 14-1)? -/
def Outst.awaits (o : Outst) (a idx tag : Nat) : Bool :=
  !o.lost && o.addr == a && o.tag == tag && cplIndex o.q == idx

/-- The master takes a record of index `idx` from address `a` (R323, R325): stale ones and completions that nobody awaits are
discarded. -/
def State.takeRec (s : State) (a : Nat) (r : OutRec) : State :=
  let q := 16 * a + r.idx
  let stale := match mat none s.host.qm.seqLast q with
    | some o => !serialNewer r.seq o
    | none => false
  if stale then s.onDev fun d => (d.bump pQmgr R.QMGR_CNT_B_STALE).raiseEvt pQmgr 2
  else
    let s := s.setQm { s.host.qm with seqLast := mput none s.host.qm.seqLast q (some r.seq) }
    if r.waits && r.kind != 0x87 then
      if s.host.qm.outst.any fun o => o.awaits a r.idx r.tag then
        ((s.setQm { s.host.qm with outst := dropFirst (fun o => o.awaits a r.idx r.tag) s.host.qm.outst }).showOut).offer a r
      else s.onDev fun d => d.bump pQmgr R.QMGR_CNT_B_LATE_RSP
    else s.offer a r

/-- DEVICE_RECORD_RX: a device-to-host record reaches the master from address `a` (R323). -/
def State.recordRx (s : State) (a idx : Nat) (w : BitVec 128) : State :=
  let s := s.setQm { s.host.qm with arrived := s.host.qm.arrived.erase (a, idx, w) }
  if !s.dev.qmRuns then s else s.takeRec a (OutRec.of idx w.toNat)

/-- The oldest outstanding record is answered with TIMEOUT (R325). -/
def State.timeout (s : State) : State :=
  match s.host.qm.outst with
  | [] => s
  | o :: rest =>
    ((s.setQm { s.host.qm with outst := rest }).showOut.onDev fun d => d.bump pQmgr R.QMGR_CNT_A_TIMEOUT).masterError o.addr o.q o.tag 4

/-- An enumeration begins: every record outstanding to another address is answered with ENUM, and the comparison of SEQ starts
anew there (R323, R325). -/
def State.enumAnswers (s : State) : State :=
  let gone := s.host.qm.outst.filter fun o => o.addr != 0
  let s := (s.setQm { s.host.qm with outst := s.host.qm.outst.filter (fun o => o.addr == 0),
                                      seqLast := s.host.qm.seqLast.filter fun e => Nat.blt e.1 16 }).showOut
  gone.foldl (fun s o => s.masterError o.addr o.q o.tag 6) s

/-- The descriptors a payload carries. -/
def payloadDescs (p : List Nat) : List (BitVec 128) :=
  (List.range (min 195 (bytesNum p 2 2))).map fun i => BitVec.ofNat 128 (bytesNum p (16 + 16 * i) 16)

/-- Records the master had queued for a failed port are answered with LINK_DOWN (R325). -/
def State.lostFrame (s : State) (m : MgmtFrame) : State :=
  if !s.dev.qmRuns || m.port ≠ 3 || m.body.getD 0 9 ≠ 0 then s
  else
    let q := m.body.getD 1 0 % 8
    (payloadDescs m.body).foldl (fun s w =>
      let mine := fun (o : Outst) => o.addr == m.dst && o.q % 16 == q && o.tag == descTag w
      ((s.setQm { s.host.qm with outst := if descOwes w then dropFirst mine s.host.qm.outst else s.host.qm.outst }).showOut).masterError
        m.dst (descQ q w) (descTag w) 5) s

/-- A management payload for this device arrives from address `a` (R305, R317, R326): records to execute, records for the master's
rings, or a piece of an upload. -/
def State.mailIn (s : State) (a : Nat) (p : List Nat) : State :=
  match p.getD 0 9 with
  | 0 => s.setQm { s.host.qm with exec := s.host.qm.exec ++ (payloadDescs p).map fun w => { q := p.getD 1 0 % 8, desc := w } }
  | 1 => if s.dev.qmRuns then s.setQm { s.host.qm with arrived := s.host.qm.arrived ++ (payloadDescs p).map fun w => (a, p.getD 1 0 % 16, w) } else s
  | 2 =>
    if s.dev.qmRuns then
      s.offer a { idx := p.getD 1 0 % 16, kind := 0, err := 0, tag := bytesNum p 4 2, seq := 0, data := bytesNum p 8 8,
                  bytes := (p.drop 16).take (bytesNum p 2 2) }
    else s
  | _ => s

/-! ### Executing records at the target (R318, R326) -/

/-- Remove the record a command executes from those that wait. -/
def State.takeExec (s : State) (q op : Nat) (tag : Nat) : State :=
  let hit := fun (r : HostRec) => r.q == q && r.desc.toNat % 256 == op && descTag r.desc == tag
  s.setQm { s.host.qm with exec := s.host.qm.exec.eraseIdx (s.host.qm.exec.findIdx hit) }

/-- Has every record sent before the FENCE executed, and every completion they owe left the device (R318)? -/
def State.fenceFree (s : State) (q tag : Nat) : Bool :=
  let hit := fun (r : HostRec) => r.q == q && r.desc.toNat % 256 == 5 && descTag r.desc == tag
  s.host.qm.exec.findIdx hit == 0 && s.host.qm.uploads.isEmpty && !(s.dev.outbox.any fun r => r.waits)

/-- An UPLOAD_TRACE copies the engine's trace ring, oldest record first (R326); an address that is no ENG page is refused. -/
def State.upTrace (s : State) (q tag addr buf len : Nat) : State :=
  let e := (addr - 0x200000) / 0x1000
  if addr < 0x200000 ∨ 96 ≤ e ∨ addr % 0x1000 ≠ 0 then s.onDev fun d => d.produce 14 0x86 2 tag 0
  else
    let x := s.dev.engine e
    let wr := s.dev.fld (pEng e) R.ENG_TRACE_CTL_WRPTR
    let recs := (List.range x.held).map fun i => mat 0 x.trace ((wr + 512 - x.held + i) % 512)
    s.setQm { s.host.qm with uploads := s.host.qm.uploads ++
      [{ q := q, tag := tag, idx := 14, buf := buf, len := 4096 * len, bytes := some (recs.flatMap fun r => le 16 r.toNat) }] }

/-- An UPLOAD_REC freezes the recorder's image; it waits while a flush holds the shadow (R385). -/
def State.upRec (s : State) (q tag buf len : Nat) : State :=
  let img := if s.dev.rcd.shadow.isNone then some s.dev.uploadImage.bytes else none
  s.setQm { s.host.qm with uploads := s.host.qm.uploads ++ [{ q := q, tag := tag, idx := 15, buf := buf, len := 4096 * len, bytes := img }] }

/-- The pieces of an upload, 3,120 bytes a frame. -/
def upPieces (idx tag : Nat) : Nat → Nat → List Nat → List OutRec
  | 0, _, _ => []
  | fuel + 1, buf, bs =>
    if bs.isEmpty then []
    else
      { idx := idx, kind := 0, err := 0, tag := tag, seq := 0, data := buf, bytes := bs.take 3120 } ::
        upPieces idx tag fuel (buf + 3120) (bs.drop 3120)

/-- UPLOAD_DONE: the first upload's data goes out, then its completion (R326). -/
def State.upDone (s : State) : State :=
  match s.host.qm.uploads with
  | [] => s
  | u :: rest =>
    let img := match u.bytes with
      | some b => some b
      | none => if s.dev.rcd.shadow.isNone then some s.dev.uploadImage.bytes else none
    match img with
    | none => s
    | some b =>
      let b := b.take u.len
      let s := s.setQm { s.host.qm with uploads := rest }
      s.onDev fun d => { d with outbox := d.outbox ++ upPieces u.idx u.tag (b.length / 3120 + 1) u.buf b }.produce u.idx 0x85 0 u.tag b.length

/-- The master's own records go to its rings; a master whose manager does not run writes none (R322, R324). -/
def State.drainOut (s : State) : State :=
  if !s.dev.isMaster then s
  else
    let out := s.dev.outbox
    let s := s.onDev fun d => { d with outbox := [] }
    if !s.dev.qmRuns then s
    else out.foldl (fun s r =>
      if r.kind = 0x83 then s else if r.kind = 0 then s.offer 0 r else s.takeRec 0 r) s

/-! ### The faulted channel (R348) -/

/-- RESUME on the QMGR channel: the faulted access is made again. -/
def State.qmResume (s : State) (c : Nat) : State :=
  let j := s.host.qm.job
  let s := s.setQm { s.host.qm with job := none }
  match j with
  | none => s
  | some (.context q) => s.doorbell q
  | some (.fetch q) => s.serveHost c (q / 16) (q % 16)
  | some (.put a r) =>
    let p := s.putRec c a r
    match p.2 with
    | .full => if r.waits then p.1.setQm { p.1.host.qm with held := (a, r) :: p.1.host.qm.held } else p.1.dropRec a r
    | _ => p.1

/-- ABORT on the QMGR channel: an upload ends with error 7, a read raises the contained fault of R327, any other record is dropped
with a GAP owed. -/
def State.qmAbort (s : State) (c : Nat) : State :=
  let j := s.host.qm.job
  let s := s.setQm { s.host.qm with job := none }
  match j with
  | none => s
  | some (.put a r) =>
    if r.kind = 0 then
      let o := s.host.qm.outst.find? fun o => o.awaits a r.idx r.tag
      let s := (s.setQm { s.host.qm with outst := dropFirst (fun o => o.awaits a r.idx r.tag) s.host.qm.outst,
                                          held := s.host.qm.held.filter fun h => !(h.1 == a && h.2.idx == r.idx && h.2.tag == r.tag) }).showOut
      let f := s.dev.freeBits 32
      let e : OutRec := { idx := r.idx, kind := 0x86, err := 7, tag := r.tag, seq := f.1, data := 0, bytes := [] }
      if o.isSome then { s with dev := f.2 }.offer a e else s
    else
      let q := 16 * a + r.idx
      (s.setQm { s.host.qm with drops := mput 0 s.host.qm.drops q (mat 0 s.host.qm.drops q + 1) }).onDev fun d =>
        (d.bump (pDma c) R.DMA_CNT_DROP).raiseEvt (pDma c) 4
  | some _ => s.onDev fun d => d.raiseFault 176 pQmgr false

end Sys2Proof.Machine
end

