-- ==== Sys2Proof/Machine/DmaOps.lean ====
section
/-! DEFINITION. DMA channels (R344 to R349): starting, resuming and ending transfers, the feed FIFO, and the ring records of the clients
that never stall. -/

namespace Sys2Proof.Machine

/-! ### Addresses (R345) -/

/-- Where a DMA address lies: host memory, or a region of Table 15-11, or nowhere. -/
inductive Region where
  | host (a : Nat)
  | regs (a : Nat)
  | image (e a : Nat)
  | bench (b a : Nat)
  | feed
  | none
  deriving DecidableEq, Repr

/-- The region of a 64-bit DMA address (Table 15-11). -/
def dmaRegion (a : Nat) : Region :=
  if a < 2 ^ 63 then .host a
  else
    let o := a - 2 ^ 63
    if o < 0x4000000 then .regs o
    else if o < 0x100000000 then .none
    else if o < 0x100000000 + 96 * 0x40000 then .image ((o - 0x100000000) / 0x40000) (o % 0x40000)
    else if o < 0x200000000 then .none
    else if o < 0x200000000 + 12 * 0x200000 then .bench ((o - 0x200000000) / 0x200000) (o % 0x200000)
    else if o = 0x300000000 then .feed
    else .none

/-- May a transfer take its source there (Table 15-11)? -/
def Region.source (r : Region) (spi : Bool) : Bool :=
  match r with
  | .host _ => !spi
  | .regs _ => true
  | .bench _ _ => true
  | .feed => true
  | .image _ _ => false
  | .none => false

/-- May a transfer write there (Table 15-11)? -/
def Region.dest (r : Region) (spi : Bool) : Bool :=
  match r with
  | .host _ => !spi
  | .regs _ => true
  | .bench _ _ => true
  | .image _ _ => true
  | .feed => false
  | .none => false

/-- The source address of channel `c`'s transfer. -/
def Dev.dmaSrc (d : Dev) (c : Nat) : Nat := d.pair (pDma c) R.DMA_SRC_LO_SRC R.DMA_SRC_HI_SRC

/-- The destination address of channel `c`'s transfer. -/
def Dev.dmaDst (d : Dev) (c : Nat) : Nat := d.pair (pDma c) R.DMA_DST_LO_DST R.DMA_DST_HI_DST

/-- The state of channel `c` (Table 15-13). -/
def Dev.dmaState (d : Dev) (c : Nat) : Nat := d.fld (pDma c) R.DMA_STAT_STATE

/-- Set the state of channel `c`. -/
def Dev.setDmaState (d : Dev) (c st : Nat) : Dev := d.setFld (pDma c) R.DMA_STAT_STATE st

/-- The client of channel `c` (Table 15-10). -/
def Dev.dmaClient (d : Dev) (c : Nat) : Nat := d.fld (pDma c) R.DMA_CTL_CLIENT

/-- Is channel `c` enabled? -/
def Dev.dmaOn (d : Dev) (c : Nat) : Bool := d.flag (pDma c) R.PG_CTL_EN

/-! ### Starting and ending (R346, R348) -/

/-- Can the transfer the registers of channel `c` describe run (R345, R346)? -/
def Dev.transferOk (d : Dev) (c : Nat) : Bool :=
  let len := d.fld (pDma c) R.DMA_LEN_LEN
  let src := dmaRegion (d.dmaSrc c)
  let dst := dmaRegion (d.dmaDst c)
  len != 0 && len % 4 == 0 && src.source d.spiHost && dst.dest d.spiHost &&
    (src == .feed || d.dmaSrc c % 64 == d.dmaDst c % 64)

/-- The transfer of channel `c` begins at beat 0. -/
def Dev.transferStart (d : Dev) (c : Nat) : Dev :=
  let d := (d.setFld (pDma c) R.DMA_BEAT_BEAT 0).setFld (pDma c) R.DMA_DONE_BYTES_BYTES 0
  (d.setFld (pDma c) R.DMA_STAT_KIND 0).setDmaState c 1

/-- DMA_CTL.GO (R346). A channel that serves another client, or that is not enabled, has no DESC transfer to start: the start is
refused. -/
def State.dmaGo (s : State) (c : Nat) : State :=
  let st := s.dev.dmaState c
  if (st == 0 || st == 4 || st == 5 || st == 6) && s.dev.dmaClient c == 0 && s.dev.dmaOn c && s.dev.transferOk c then
    (s.setDma c { s.dmaSt c with chain := false }).onDev fun d => d.transferStart c
  else s.onDev fun d => d.setDmaState c 6

/-- Bytes of one ring record of channel `c` (Table 15-12). -/
def Dev.recBytes (d : Dev) (c : Nat) : Nat := if d.dmaClient c = 2 then 64 else 32

/-- Bytes of channel `c`'s ring. -/
def Dev.dmaRing (d : Dev) (c : Nat) : Nat := 4096 * 2 ^ d.fld (pDma c) R.DMA_RING_CFG_SIZE

/-- How many records the ring of channel `c` can take (R259, R349). -/
def Dev.ringRoom (d : Dev) (c : Nat) : Nat :=
  let n := d.dmaRing c
  let r := d.recBytes c
  (d.fld (pDma c) R.DMA_RING_RD_OFS + 2 * n - d.fld (pDma c) R.DMA_RING_WR_OFS - r) % n / r

/-- The gap record of a SNAP or TRACE ring (Table 15-12). -/
def State.ringGap (s : State) (c : Nat) : List Nat :=
  let x := s.dmaSt c
  if s.dev.dmaClient c = 2 then
    le 8 (2 ^ 62 + s.dev.frame.frame * 2 ^ 52 + s.dev.frame.tick * 2 ^ 29 + min x.dropped (2 ^ 29 - 1)) ++ List.replicate 56 0
  else List.replicate 16 0 ++ [0, 1, 0, 0] ++ le 4 (min x.dropped 0xFFFFFFFF) ++ List.replicate 8 0

/-- A ring record of channel `c` that holds `n` samples or records: dropped and counted while the channel is faulted or the ring full,
preceded by a gap record after a drop (R349). -/
def State.ringRec (s : State) (c n : Nat) (bytes : List Nat) : State :=
  let x := s.dmaSt c
  let need := x.queue.length + (if x.dropped = 0 then 1 else 2)
  if s.dev.dmaFaulted c || Nat.blt (s.dev.ringRoom c) need then
    (s.setDma c { x with dropped := x.dropped + n }).onDev fun d => (d.bump (pDma c) R.DMA_CNT_DROP).raiseEvt (pDma c) 4
  else
    let gap := if x.dropped = 0 then [] else [(0, s.ringGap c)]
    (s.setDma c { x with dropped := 0, queue := x.queue ++ gap ++ [(0, bytes)] }).onDev fun d =>
      if d.dmaState c = 2 then d else d.setDmaState c 1

/-- DMA_CTL.RESUME (R348, R349): a gap record follows what the faulted beat held. -/
def State.dmaResume (s : State) (c : Nat) : State :=
  if !s.dev.dmaFaulted c then s.onDev fun d => d.badAcc (pDma c + 0x40)
  else
    let s := s.onDev fun d => (d.setFld (pDma c) R.DMA_STAT_KIND 0).setDmaState c 1
    match s.dev.dmaClient c with
    | 4 => (s.onDev fun d => d.setDmaState c 0).qmResume c
    | 2 =>
      let x := s.dmaSt c
      if x.dropped = 0 then s else s.setDma c { x with queue := x.queue ++ [(0, s.ringGap c)], dropped := 0 }
    | 3 =>
      let x := s.dmaSt c
      if x.dropped = 0 then s else s.setDma c { x with queue := x.queue ++ [(0, s.ringGap c)], dropped := 0 }
    | _ => s

/-- Samples a SNAP record holds, or one for a TRACE record. -/
def Dev.recCountOf (d : Dev) (c : Nat) (bytes : List Nat) : Nat := if d.dmaClient c = 2 then bytes.getD 0 0 % 16 else 1

/-- DMA_CTL.ABORT (R348, R349). -/
def State.dmaAbort (s : State) (c : Nat) : State :=
  if !s.dev.dmaFaulted c then s.onDev fun d => d.badAcc (pDma c + 0x40)
  else
    let x := s.dmaSt c
    let s := s.onDev fun d => (d.setFld (pDma c) R.DMA_STAT_KIND 0).setDmaState c 0
    let go (s : State) : State := if (s.dmaSt c).queue.isEmpty then s else s.onDev fun d => d.setDmaState c 1
    match s.dev.dmaClient c with
    | 0 => (s.setDma c { x with chain := false }).onDev fun d => d.setDmaState c 5
    | 1 =>
      let held := x.queue.length
      let s := s.setDma c { x with queue := [] }
      s.onDev fun d =>
        let wr := (d.fld pMon R.MON_RING_WR_OFS + d.monRingSize - 8 * held % d.monRingSize) % d.monRingSize
        ({ d with mon := { d.mon with gap := d.mon.gap + held } }.setFld pMon R.MON_RING_WR_OFS wr).bumpBy pMon R.MON_CNT_B_DROP held
    | 4 => s.qmAbort c
    | _ =>
      match x.queue with
      | [] => s
      | h :: rest =>
        let x1 := { x with dropped := x.dropped + s.dev.recCountOf c h.2 }
        let s := s.setDma c x1
        go ((s.setDma c { x1 with queue := (0, s.ringGap c) :: rest, dropped := 0 }).onDev fun d =>
          (d.bump (pDma c) R.DMA_CNT_DROP).raiseEvt (pDma c) 4)

/-- A data read of channel `c` has not completed after 50 ms: fault kind 7 at its beat (R342, R348). -/
def State.dmaReadTimeout (s : State) (c : Nat) : State :=
  let d := s.dev
  let src := d.dmaSrc c + d.fld (pDma c) R.DMA_DONE_BYTES_BYTES
  if d.dmaOn c && d.dmaClient c == 0 && (d.dmaState c == 1 || d.dmaState c == 2) then
    if (s.dmaSt c).chain then
      s.xfault c 7 (d.pair (pDma c) R.DMA_NEXT_LO_NEXT R.DMA_NEXT_HI_NEXT) 0x3FFFFFF false false
    else match dmaRegion src with
      | .host a => s.xfault c 7 a (d.fld (pDma c) R.DMA_BEAT_BEAT) false false
      | _ => s
  else s

/-! ### The feed FIFO (R345) -/

/-- Show the free words of the feed FIFO. -/
def State.showFeed (s : State) (c : Nat) : State :=
  s.onDev fun d => d.setFld (pDma c) R.DMA_STAT_FEED_SPACE (256 - (s.dmaSt c).feed.length)

/-- A write to DMA_FEED: ignored and counted while the FIFO is full (R345). -/
def State.dmaFeed (s : State) (c : Nat) (w : Word) : State :=
  let x := s.dmaSt c
  if 256 ≤ x.feed.length then s.onDev fun d => d.bump (pDma c) R.DMA_CNT_DROP
  else (s.setDma c { x with feed := x.feed ++ [w] }).showFeed c

/-! ### Ring clients (R344, R349) -/

/-- A SNAP record of the words gathered (Table 15-12). -/
def snapRec (x : DmaSt) : List Nat :=
  let n := x.words.length
  let sp := (x.words.any fun w => w.spoil).toNat
  le 8 (x.frame * 2 ^ 52 + x.tick * 2 ^ 29 + sp * 16 + n) ++
    padTo 56 (x.words.flatMap fun w => le 2 w.i.toNat ++ le 2 w.q.toNat)

/-- The words SNAP channel `c` gathered become a record. -/
def State.snapFlush (s : State) (c : Nat) : State :=
  let x := s.dmaSt c
  if x.words.isEmpty then s else (s.setDma c { x with words := [] }).ringRec c x.words.length (snapRec x)

/-- One word SNAP channel `c` takes. -/
def State.snapWord (s : State) (c : Nat) (w : SampleWord) : State :=
  let x := s.dmaSt c
  let x := if x.words.isEmpty then { x with tick := s.dev.frame.tick, frame := s.dev.frame.frame } else x
  let s := s.setDma c { x with words := x.words ++ [w] }
  if 14 ≤ x.words.length + 1 then s.snapFlush c else s

/-- A TRACE ring record (Table 15-12). -/
def traceRing (e : Nat) (rec : BitVec 128) : List Nat := le 16 rec.toNat ++ [e] ++ List.replicate 15 0

/-- A trace record meets the TRACE channels that select its engine and the observation port (R344, R390). -/
def State.traceOut (s : State) (e : Nat) (rec : BitVec 128) : State :=
  let s := s.onDev fun d => d.obsTake e rec
  (List.range 16).foldl (fun s c =>
    if s.dev.dmaOn c && s.dev.dmaClient c == 3 && !s.dev.spiHost &&
        (s.dev.fld (pDma c) (R.DMA_TRACE_SEL_ENG (e / 32))).testBit (e % 32) then s.ringRec c 1 (traceRing e rec) else s) s

/-- The monitor records of this command go to the MON channel with their ring addresses (R258, R259). -/
def State.monOut (s : State) : State :=
  let recs := s.dev.monFeed
  let s := s.onDev fun d => { d with monFeed := [] }
  match (List.range 16).find? fun c => s.dev.dmaOn c && s.dev.dmaClient c == 1 with
  | none => s
  | some c =>
    let n := s.dev.monRingSize
    let wr := s.dev.fld pMon R.MON_RING_WR_OFS
    let base := s.dev.pair pMon R.MON_RING_BASE_LO_BASE R.MON_RING_BASE_HI_BASE
    let at8 := fun i => base + (wr + 8 * n - 8 * (recs.length - i)) % n
    let out := (recs.zipIdx).map fun p => (at8 p.2, le 8 p.1.toNat)
    if out.isEmpty then s
    else (s.setDma c { s.dmaSt c with queue := (s.dmaSt c).queue ++ out }).onDev fun d =>
      if d.dmaState c = 2 then d else d.setDmaState c 1

/-- What a command left for the ring clients is handed over (R344). -/
def State.drainFeeds (s : State) : State :=
  let snaps := if s.dev.spiHost then [] else s.dev.snapFeed
  let traces := s.dev.traceFeed
  let s := s.onDev fun d => { d with snapFeed := [], traceFeed := [] }
  let s := snaps.foldl (fun s p => s.snapWord p.1 p.2) s
  let s := traces.foldl (fun s p => s.traceOut p.1 p.2) s
  s.monOut

end Sys2Proof.Machine
end

