-- ==== Sys2Proof/Machine/Status.lean ====
section
/-! DEFINITION. What stands: sticky faults (R354, R363), pending event sources and vectors (R350 to R353), and the states
that pages report (R189, R190, R333). -/

namespace Sys2Proof.Machine

open Sys2Proof

/-! ### Sticky faults -/

/-- The fault source that PG_FLT bit `bit` of instance `i` of a block shows (Table 16-2). -/
def srcAt (b : Blk) (i bit : Nat) : Option Nat :=
  let k (base n : Nat) : Option Nat := if bit < n then some (base + bit) else none
  if bit = 30 then some 7
  else
    match b with
    | .dev => if bit < 7 then some bit else if 8 ≤ bit ∧ bit < 11 then some (184 + bit) else none
    | .frame => k 8 3
    | .bench => k (16 + 8 * i) 2
    | .eng => k (18 + 8 * (i / 8)) 6
    | .ch => k 112 4
    | .adc => k 120 2
    | .dac => k 120 1
    | .syn => k 122 1
    | .cal => k 123 2
    | .fe => k 128 1
    | .mon => k 129 2
    | .bias => k 131 1
    | .therm => k 136 3
    | .prot => k 144 1
    | .haul => k (152 + 8 * i) 6
    | .qmgr => k 176 4
    | .xlat => k 184 1
    | .dma => k 185 1
    | .recorder => k 200 4
    | .obs => k 208 1
    | .irq => none
    | .fault => none
    | .pin => none

/-- The faults that stand in PG_FLT: source and page. -/
def Dev.standingFaults (d : Dev) : List (Nat × Nat) :=
  d.regs.flatMap fun e =>
    if e.1 % 0x1000 = 0x1C then
      match pageDefAt e.1 with
      | some p =>
        if offOf p e.1 = 0x1C then
          (List.range 32).filterMap fun i =>
            if e.2.getLsbD i then (srcAt p.blk (instOf p e.1) i).map fun f => (f, e.1 - 0x1C) else none
        else []
      | none => []
    else []

/-- The sticky bit of source `f`: the OR over the pages it covers (R354). -/
def Dev.sticky (d : Dev) (f : Nat) : Bool := d.standingFaults.any fun x => x.1 == f

/-- Word `w` of FAULT_STICKY. -/
def Dev.stickyWord (d : Dev) (w : Nat) : Nat :=
  (d.standingFaults.filter fun x => x.1 / 32 == w).foldl (fun n x => n ||| 2 ^ (x.1 % 32)) 0

/-- The class in effect of source `f` (R355). -/
def Dev.faultClass (d : Dev) (f : Nat) : Nat := d.fld pFault (R.FAULT_REACT_CLASS f)

/-- The reaction set of source `f`, fixed reactions included (R357): bits I, E, T, B, X. -/
def Dev.reactSet (d : Dev) (f : Nat) : Nat := d.fld pFault (R.FAULT_REACT_IRQ f) + 2 * d.fld pFault (R.FAULT_REACT_ERRN f) +
  4 * d.fld pFault (R.FAULT_REACT_TRAP f) + 8 * d.fld pFault (R.FAULT_REACT_BLK_RST f) +
  16 * d.fld pFault (R.FAULT_REACT_CHIP_RST f) ||| d.fld pFault (R.FAULT_REACT_FIXED f)

/-- The level of a reaction set: that of its most severe member (R357). -/
def reactLevel (r : Nat) : Nat :=
  if r.testBit 4 then 5 else if r.testBit 3 then 4 else if r.testBit 2 then 3 else if r.testBit 1 then 2
  else if r.testBit 0 then 1 else 0

/-- Does a sticky bit of class `c` stand? -/
def Dev.anyClass (d : Dev) (c : Nat) : Bool := d.standingFaults.any fun x => d.faultClass x.1 == c

/-- FAULT_STAT as it reads: the class bits follow the sticky bits. -/
def Dev.faultStat (d : Dev) : Word :=
  let w := d.reg (pFault + 0x40)
  R.FAULT_STAT_ANY_F.put (R.FAULT_STAT_ANY_U.put (R.FAULT_STAT_ANY_C.put w (d.anyClass 1).toNat) (d.anyClass 2).toNat)
    (d.anyClass 3).toNat

/-- Level sources whose condition stands while their PG_FLT bit has been cleared set again (R356, R363). -/
def Dev.relevel (d : Dev) : Dev :=
  d.fault.standing.foldl (fun d x =>
    match faultRow x.1 with
    | some r =>
      if d.flag x.2 (R.PG_FLT_FLT.bit r.bit) || d.wires.faults.any (fun y => y.src == x.1 && y.page == x.2) then d
      else d.raiseFault x.1 x.2 false
    | none => d) d

/-! ### Event sources, groups and vectors -/

/-- The event sources that are pending (R350, R351). -/
def Dev.pendSources (d : Dev) : List Nat :=
  (d.regs.flatMap fun e =>
    if e.1 % 0x1000 = 0x10 then
      match pageDefAt e.1 with
      | some p =>
        if offOf p e.1 = 0x10 then
          let w := (e.2 &&& d.reg (e.1 + 4)).toNat
          let s := firstSource p.blk (instOf p e.1)
          (if w &&& firstSourceMask p.blk = 0 then [] else [s]) ++ (if w &&& secondSourceMask p.blk = 0 then [] else [s + 1])
        else []
      | none => []
    else []) ++ d.standingFaults.filterMap fun x => if (d.reactSet x.1).testBit 0 then some (768 + x.1) else none

/-- IRQ_GRP_STAT(g): the pending sources of group `g`. -/
def Dev.grpPend (d : Dev) (g : Nat) : Nat :=
  (d.pendSources.filter fun s => s / 32 == g).foldl (fun n s => n ||| 2 ^ (s % 32)) 0

/-- The unmasked groups with a pending source (R352). -/
def Dev.grpsPending (d : Dev) : List Nat :=
  let gs := d.pendSources.map (· / 32)
  (List.range 32).filter fun g => gs.contains g && !d.flag pIrq (R.IRQ_GRP_CFG_MASK g)

/-- Is vector `v` pending (R352, R353)? -/
def Dev.vecPending (d : Dev) (v : Nat) : Bool :=
  (v == 0 && d.flag pIrq R.IRQ_STAT_V0) || d.grpsPending.any fun g => d.fld pIrq (R.IRQ_GRP_CFG_VEC g) == v

/-- Is IRQ_N asserted (R353)? -/
def Dev.irqN (d : Dev) : Bool :=
  d.flag pIrq R.IRQ_CTL_PIN_EN && (d.flag pIrq R.IRQ_STAT_V0 || !d.grpsPending.isEmpty)

/-- The ARMED bit of vector `v`. -/
def fArmed (v : Nat) : Fld :=
  if v < 32 then R.IRQ_ARMED_LO_ARMED.bit v else R.IRQ_ARMED_HI_ARMED.bit (v - 32)

/-- The PBA bit of vector `v`. -/
def fPba (v : Nat) : Fld := (R.IRQ_PBA_PEND (v / 32)).bit (v % 32)

/-- Vector `v` sends its message, or holds it in the PBA while its table entry is masked (R352). -/
def State.msiSend (s : State) (v : Nat) : State :=
  let e (i : Nat) : Nat := s.dev.fld pIrq (R.IRQ_MSIX_ENTRY (4 * v + i))
  if (e 3).testBit 0 then s.onDev fun d => d.setFld pIrq (fPba v) 1
  else
    { s with dev := s.dev.setFld pIrq (fPba v) 0,
             host := { s.host with lastMsi := some (v, e 0 + e 1 * 2 ^ 32, e 2) } }

/-- Every armed vector that is pending sends one message and is disarmed, one whose entry is masked into the PBA; what the PBA holds is
sent once the entry is unmasked. Under SPI no message is sent, nor while the link is down (R352; log entry 33). -/
def State.msiAll (s : State) : State :=
  if s.dev.spiHost || !s.dev.pins.pcieUp then s
  else
    (List.range 64).foldl (fun s v =>
      let masked := (s.dev.fld pIrq (R.IRQ_MSIX_ENTRY (4 * v + 3))).testBit 0
      let s := if s.dev.flag pIrq (fPba v) && !masked then s.msiSend v else s
      if s.dev.flag pIrq (fArmed v) && s.dev.vecPending v then (s.onDev fun d => d.setFld pIrq (fArmed v) 0).msiSend v else s) s

/-! ### REQ, EFF and DIVERGE -/

/-- Does a fault of class F of a page stand (R333)? -/
def Dev.pageFatal (d : Dev) (pg : Nat) : Bool := d.standingFaults.any fun x => x.2 == pg && d.faultClass x.1 == 3

/-- Is channel `n` under a latched protective scope? -/
def Dev.chLatched (d : Dev) (n : Nat) : Bool :=
  d.flag pProt (R.PROT_CH_STAT_LATCHED n) || d.flag pProt (dirLatch (d.chUp n)) || d.flag pProt R.PROT_DIR_RF_LATCH

/-- EFF of channel `n` (R190, R164, R186). -/
def Dev.chEff (d : Dev) (n : Nat) : Nat :=
  if d.pageFatal (pCh n) then 8
  else if !d.chOn n then 0
  else if d.chLatched n then 8
  else if d.muted n then 7
  else if d.flag (pCh n) R.CH_GL_STAT_SHED || d.outHold n then 5
  else if d.flag pProt (R.PROT_CH_STAT_GATED n) then 3
  else 4

/-- EFF of a page (R148, R190, R333); the FE page shows a group (R244). -/
def Dev.effOf (d : Dev) (p : PageDef) (pg : Nat) : Nat :=
  match p.blk with
  | .ch => d.chEff (instOf p pg)
  | .eng =>
    match d.engState (instOf p pg) with
    | 0 => if d.pageFatal pg then 8 else 0
    | 1 => if d.pageFatal pg then 8 else 4
    | _ => 8
  | _ => if d.pageFatal pg then 8 else if d.flag pg R.PG_CTL_EN || fixedEn p.blk then 4 else 0

/-- Do REQ and EFF of group `g` differ? -/
def Dev.grpDiffers (d : Dev) (g : Nat) : Bool := d.grpReq g != d.grpEff g

/-- Does a disagreement stand in a page other than FE (R189)? -/
def Dev.pageDiffers (d : Dev) (p : PageDef) (pg : Nat) : Bool :=
  d.fld pg R.PG_STAT_REQ != d.fld pg R.PG_STAT_EFF ||
    (p.blk == .ch && d.fld pg R.CH_DEF_ERR_CODE == 23)

/-- The FE page shows its groups: agreement clears DIVERGE (R189, R244). -/
def Dev.showFe (d : Dev) : Dev :=
  let d := (List.range 4).foldl (fun d g => if d.grpDiffers g then d else d.setFld pFe (R.FE_PG_STAT_DIVERGE g) 0) d
  let div := (List.range 4).filter fun g => d.flag pFe (R.FE_PG_STAT_DIVERGE g)
  let g := div.headD 0
  ((d.setFlag pFe R.PG_STAT_DIVERGE (!div.isEmpty)).setFld pFe R.PG_STAT_REQ (d.grpReq g)).setFld pFe R.PG_STAT_EFF
    (if d.pageFatal pFe then 8 else d.grpEff g)

/-- A page shows its state; agreement clears DIVERGE (R189). -/
def Dev.showStat (d : Dev) (pg : Nat) : Dev :=
  match pageDefAt pg with
  | none => d
  | some p =>
    if p.blk = .fe then d.showFe
    else
      let e := d.effOf p pg
      let d := d.setFld pg R.PG_STAT_EFF e
      let d := if p.blk = .ch ∧ e = 4 then d.setGain (instOf p pg) { d.gainSt (instOf p pg) with hasRelayed := true } else d
      if d.pageDiffers p pg then d else d.setFld pg R.PG_STAT_DIVERGE 0

/-- The pages whose EN resets to 1 report RELAY from the release of reset on (R333, R334, R386). -/
def Dev.showFixed (d : Dev) : Dev :=
  [pDev, pTherm, pProt, pIrq, pFault, pRec, pPin].foldl (fun d pg => (d.setFld pg R.PG_STAT_REQ 4).setFld pg R.PG_STAT_EFF 4) d

/-- REQ and EFF have differed for more than 1 ms without a break: DIVERGE and PG_EVT bit 31 (R189). A group step within its
time, and an uplink channel in LISTEN by gating, are no disagreement here. -/
def Dev.divergeSet (d : Dev) (pg g : Nat) : Dev :=
  match pageDefAt pg with
  | none => d
  | some p =>
    if p.blk = .fe then
      if d.grpDiffers g && !d.flag pFe (R.FE_PG_STAT_DIVERGE g) then
        let d := d.setFld pFe (R.FE_PG_STAT_DIVERGE g) 1
        (if d.flag pFe R.PG_STAT_DIVERGE then d else d.raiseEvt pFe 31).stir pFe
      else d
    else
      let gated := p.blk == .ch && d.fld pg R.PG_STAT_EFF == 3 && d.fld pg R.PG_STAT_REQ == 4 && d.fld pg R.CH_DEF_ERR_CODE != 23
      if d.pageDiffers p pg && !d.flag pg R.PG_STAT_DIVERGE && !gated then
        ((d.setFld pg R.PG_STAT_DIVERGE 1).raiseEvt pg 31).stir pg
      else d

/-- The pages whose state a command may have changed: those it stirred, and every channel that has been enabled. -/
def Dev.stirred (d : Dev) : List Nat :=
  let chs := d.regs.filterMap fun e =>
    match pageDefAt e.1 with
    | some p => if p.blk == .ch && offOf p e.1 == 8 then some (e.1 - 8) else none
    | none => none
  (d.wires.states ++ d.wires.faults.map (·.page) ++ chs).eraseDups

/-- Every page shows its state. -/
def Dev.showStats (d : Dev) : Dev := d.stirred.foldl Dev.showStat d

end Sys2Proof.Machine
end

