-- ==== Sys2Proof/Machine/Commit.lean ====
section
/-! DEFINITION. Commits (R335 to R337): the candidate a page's shadow makes, the checks of every page, the claims of R339 and
R340, and what an accepted commit sets going. -/

namespace Sys2Proof.Machine

open Sys2Proof

/-! ### The candidate -/

/-- Is offset `off` of the CAL page in the set window, where RWC means the write path of R216 (R221)? -/
def inSetWindow (b : Blk) (off : Nat) : Bool := b == .cal && Nat.ble 0x1000 off

/-- The bits of the register at address `a` that a commit moves from the shadow. -/
def rwcMask (a : Nat) : Word :=
  match pageDefAt a with
  | none => 0
  | some p =>
    if inSetWindow p.blk (offOf p a) then 0 else
    match rowAt p (offOf p a) with
    | some r => BitVec.ofNat 32 r.rwc
    | none => 0

/-- The entries of a register map from address `lo` up to `hi`. -/
def spanOf (m : SMap Word) (lo hi : Nat) : SMap Word := m.filter fun e => Nat.ble lo e.1 && Nat.blt e.1 hi

/-- The device with the RWC bits of the span from `lo` up to `hi` taken from a shadow. -/
def Dev.withShadow (d : Dev) (lo hi : Nat) (snap : SMap Word) : Dev :=
  ((spanOf d.regs lo hi ++ spanOf snap lo hi).map (·.1)).foldl (fun c a =>
    c.setReg a ((c.reg a &&& ~~~ rwcMask a) ||| (mget resetReg snap a &&& rwcMask a))) d

/-- Do two devices differ in a register from address `lo` up to `hi`? -/
def regsDiffer (d c : Dev) (lo hi : Nat) : Bool := spanOf d.regs lo hi != spanOf c.regs lo hi

/-! ### Claims (R339, R340) -/

/-- The resources the page's settings claim, each with its feature (Table 15-4). -/
def Dev.claims (c : Dev) (b : Blk) (i : Nat) : List (Nat × Nat) :=
  match b with
  | .fe => ((List.range 48).filter fun n => c.fld pFe (R.FE_GPIO_MODE_MODE n) != 0).map fun n => (n, 0)
  | .therm =>
    ((List.range 8).filter fun s => c.flag pTherm (R.THERM_EXT_CFG_EN s)).map fun s =>
      (48 + 16 * c.fld pTherm (R.THERM_EXT_CFG_CONV s) + c.fld pTherm (R.THERM_EXT_CFG_INPUT s), s)
  | .dev =>
    if c.flag pDev R.DEV_EB_SRC_EN then
      [(48 + c.fld pDev R.DEV_EB_SRC_VBAT, 0), (48 + c.fld pDev R.DEV_EB_SRC_IBAT, 1)]
    else []
  | .dma =>
    let k := c.dmaClient i
    if c.dmaOn i && (k == 1 || k == 3 || k == 4) then [(80 + k, 0)] else []
  | _ => []

/-- The first claim that meets another owner, with that owner's page number and feature: another page holds the resource, or an
earlier claim of the same commit does. -/
def Dev.claimClash (d : Dev) (pg : Nat) : List (Nat × Nat) → List (Nat × Nat) → Option (Nat × Nat × Nat)
  | _, [] => none
  | seen, (r, f) :: rest =>
    let own := d.fld pPin (R.PIN_OWN_OWNER r)
    if d.flag pPin (R.PIN_OWN_OWNED r) && own != pageNo pg then some (r, own, d.fld pPin (R.PIN_OWN_FEATURE r))
    else match seen.find? fun x => x.1 == r with
      | some x => some (r, pageNo pg, x.2)
      | none => d.claimClash pg (seen ++ [(r, f)]) rest

/-- Every resource the page owns is released (R338, R340). -/
def Dev.releaseOwned (d : Dev) (pg : Nat) : Dev :=
  (List.range 96).foldl (fun d r =>
    if d.flag pPin (R.PIN_OWN_OWNED r) && d.fld pPin (R.PIN_OWN_OWNER r) == pageNo pg then
      d.setReg (pPin + (R.PIN_OWN_OWNED r).off) 0
    else d) d

/-- The page owns the resources it claims. -/
def Dev.takeClaims (d : Dev) (pg : Nat) (cs : List (Nat × Nat)) : Dev :=
  cs.foldl (fun d c =>
    ((d.setFld pPin (R.PIN_OWN_OWNER c.1) (pageNo pg)).setFld pPin (R.PIN_OWN_FEATURE c.1) c.2).setFld pPin
      (R.PIN_OWN_OWNED c.1) 1) (d.releaseOwned pg)

/-- A claim is refused: PG_OWN shows the resource by its number in Table 15-4, its class and its owner, and CONFLICT is raised (R340). -/
def Dev.claimRefused (d : Dev) (pg : Nat) (x : Nat × Nat × Nat) : Dev :=
  let r := x.1
  let d := (d.setFld pg R.PG_OWN_INDEX r).setFld pg R.PG_OWN_CLASS (if r < 48 then 1 else if r < 80 then 2 else 3)
  let d := (d.setFld pg R.PG_OWN_OWNER x.2.1).setFld pg R.PG_OWN_FEATURE x.2.2
  (d.setFld pg R.PG_OWN_VALID 1).raiseFault 7 pg false

/-! ### Channel checks (Tables 01-5, 04-3, 05-7, 07-6, 13-2; R197, R198) -/

/-- Half the usable bandwidth of channel `n` in Hz, as numerator and denominator (R14). -/
def Dev.halfBand (c : Dev) (n : Nat) : Nat × Nat :=
  let k := c.fld (pCh n) R.CH_DEF_RATE_K
  if c.flag (pCh n) R.CH_DEF_RESAMP then
    (4069 * ((if c.altPlan 0 then 7200000 else 7680000) * 2 ^ k) * 2 ^ 30, 10000 * c.fld (pCh n) R.CH_RS_STEP_STEP)
  else (3125000 * 2 ^ k, 1)

/-- The converter sample rate of converter `v` in Hz (Table 09-1). -/
def Dev.fsOf (c : Dev) (v : Nat) : Nat := if c.altPlan v then 14745600000 else 15728640000

/-- Do the passbands of channels `n` and `m` overlap on a common incoming port (code 9)? -/
def Dev.overlaps (c : Dev) (n m : Nat) : Bool :=
  let a := c.halfBand n
  let b := c.halfBand m
  c.chUp n == c.chUp m && c.flag (pCh n) R.CH_DEF_SRC_LOCAL && c.flag (pCh m) R.CH_DEF_SRC_LOCAL &&
    (c.fld (pCh n) R.CH_DEF_IN_MASK &&& c.fld (pCh m) R.CH_DEF_IN_MASK) != 0 &&
    decide ((c.ftwRx n - c.ftwRx m).natAbs * c.fsOf 0 * a.2 * b.2 < (a.1 * b.2 + b.1 * a.2) * 2 ^ 48)

/-- The units committed on converter `v`'s port (R71). -/
def Dev.portUnits (c : Dev) (v : Nat) : Nat :=
  (c.channels.filter fun n => c.usesRx n v || c.usesTx n v).foldl (fun s n => s + 2 ^ c.fld (pCh n) R.CH_DEF_RATE_K) 0

/-- Does the passband of channel `n` at frequency word `ftw` reach above fs/4 of converter `v` (R197)? -/
def Dev.pastQuarter (c : Dev) (n : Nat) (ftw : Int) (v : Nat) : Bool :=
  let h := c.halfBand n
  decide (c.fsOf v * 2 ^ 48 * h.2 < 4 * (ftw.natAbs * c.fsOf v * h.2 + h.1 * 2 ^ 48))

/-- Is a converter of channel `n` in a mode that does not reach its passband (R197)? -/
def Dev.modeMiss (c : Dev) (n : Nat) : Bool :=
  (List.range (c.chRank n)).any fun j =>
    (c.flag (pCh n) R.CH_DEF_SRC_LOCAL && !c.flag (pConv (c.rxConv n j)) R.ADC_CTL_INBAND && c.pastQuarter n (c.ftwRx n) (c.rxConv n j)) ||
      (c.fld (pCh n) R.CH_DEF_OUT_MASK != 0 && !c.flag (pConv (c.txConv n j)) R.DAC_CTL_ZONE && c.pastQuarter n (c.ftwTx n) (c.txConv n j))

/-- Committed use of the playout memory of port `h` in bytes (R298). -/
def Dev.playBytes (c : Dev) (h : Nat) : Nat :=
  ((List.range 192).filter (c.takes h)).foldl (fun s n =>
    let low := (List.range 3).find? fun q => (c.fld (pCh n) R.CH_DEF_SRC_HAUL).testBit q
    let streams := c.chRank n * (if c.flag (pCh n) R.CH_DEF_SRC_LOCAL && low == some h then 2 else 1)
    s + (ratio ((4 * streams * c.fld (pHaul h) R.HAUL_PLAY_PLAY * tickUnits : Nat) : Int) (max 1 (c.delayCfg n).tch)).toNat) 0

/-- Is the direction of a haul source or destination of channel `n` wrong, or its port disabled (code 20)? -/
def Dev.haulMiss (c : Dev) (n : Nat) : Bool :=
  let src := c.fld (pCh n) R.CH_DEF_SRC_HAUL
  let fwd := c.fld (pCh n) R.CH_DEF_HAUL_FWD
  (if c.chUp n then src.testBit 0 || fwd.testBit 1 || fwd.testBit 2 else 1 < src || fwd.testBit 0) ||
    (List.range 3).any fun h => (src.testBit h || fwd.testBit h) && !c.flag (pHaul h) R.HAUL_CTL_EN

/-- A region entry that code 16 refuses. -/
def Dev.regionBad (c : Dev) (n r : Nat) : Bool :=
  c.flag (pCh n) (R.CH_GL_REG_LIM_VALID r) &&
    (decide (c.sfld (pCh n) (R.CH_GL_REG_PIN_PIN_HI r) < c.sfld (pCh n) (R.CH_GL_REG_PIN_PIN_LO r)) ||
      decide (c.sfld (pCh n) (R.CH_GL_REG_IM_IM_HI r) < c.sfld (pCh n) (R.CH_GL_REG_IM_IM_LO r)) ||
      decide (128 < c.fld (pCh n) (R.CH_GL_REG_LIM_FFW r)))

/-- Does a commit change a CH_GL field of channel `n`? -/
def glChanged (d c : Dev) (n : Nat) : Bool := regsDiffer d c (pCh n + 0x380) (pCh n + 0x800)

/-- The code of the first check that the candidate `c` of channel `n` fails, 0 for none; the checks stand in code order. -/
def Dev.chCode (d c : Dev) (n : Nat) : Nat :=
  let f (F : Fld) : Nat := c.fld (pCh n) F
  let g (F : Fld) : Bool := c.flag (pCh n) F
  let on := c.chOn n
  let loc := g R.CH_DEF_SRC_LOCAL
  let out := f R.CH_DEF_OUT_MASK
  let k := f R.CH_DEF_RATE_K
  let step := f R.CH_RS_STEP_STEP
  let checks : List (Nat × Bool) := [
    (1, f R.CH_DEF_RANK == 3),
    (2, k == 7),
    (3, loc && popCount4 (f R.CH_DEF_IN_MASK) != c.chRank n),
    (4, out != 0 && popCount4 out != c.chRank n),
    (5, !loc && f R.CH_DEF_SRC_HAUL == 0),
    (6, !c.chUp n && decide (1 < popCount4 (f R.CH_DEF_SRC_HAUL) + loc.toNat)),
    (7, out == 0 && f R.CH_DEF_HAUL_FWD == 0),
    (8, on && (List.range 16).any fun v => (c.usesRx n v || c.usesTx n v) && decide (256 < c.portUnits v)),
    (9, on && c.channels.any fun m => m != n && c.overlaps n m),
    (10, g R.CH_DEF_RESAMP && decide (k ≤ 1)),
    (11, g R.CH_DEF_RESAMP && decide (step < 0x3C000000 ∨ 0x80000000 < step)),
    (12, (c.delayCfg n).tooLong),
    (13, decide (f R.CH_STAB_CTL_MARGIN < 0x0A00)),
    (14, decide (f R.CH_OSC_CTL_GROW < 12 ∨ 48 < f R.CH_OSC_CTL_GROW ∨ f R.CH_PILOT_CTL_MODE = 3 ∨ 4 < f R.CH_PILOT_CTL_PER ∨
      61440 * 2 ^ f R.CH_PILOT_CTL_PER < f R.CH_PILOT_OFS_OFS + f R.CH_PILOT_LEN_LEN)),
    (15, d.chUp n && (d.gainSt n).hasRelayed && !d.flag (pCh n) R.CH_GL_STAT_HELD && glChanged d c n),
    (16, (List.range 64).any (c.regionBad n) || (g R.CH_GL_CTL_LVL_EN && !g (R.CH_GL_REG_LIM_VALID 0))),
    (17, decide (c.sfld (pCh n) R.CH_GL_GLIM_GMAX < c.sfld (pCh n) R.CH_GL_GLIM_GMIN) ||
      decide (c.sfld (pCh n) R.CH_GL_LVL_PMAX < c.sfld (pCh n) R.CH_GL_LVL_TGT) ||
      (g R.CH_GL_CTL_NR_EN && (f R.CH_GL_NR_BUD_BUDGET == 0 || !c.chUp n))),
    (18, c.modeMiss n),
    (19, (List.range 3).any fun h => (f R.CH_DEF_HAUL_FWD).testBit h &&
      decide (slotCount (c.fld (pHaul h) R.HAUL_CTL_FMT) < c.haulLoad h)),
    (20, c.haulMiss n),
    (21, (List.range 3).any fun h => decide (2 ^ 20 < c.playBytes h)),
    (22, !g R.CH_DEF_RESAMP && ((loc && c.altPlan 0) || (out != 0 && c.altPlan 8)))]
  match checks.find? (·.2) with
  | some x => x.1
  | none => 0

/-! ### Checks of the other pages -/

/-- Does a list rise strictly? -/
def risesI : List Int → Bool
  | a :: b :: r => decide (a < b) && risesI (b :: r)
  | _ => true

/-- An entry of Table 10-3 that a commit refuses, beams being restricted to KIND 0 to 2 (R240). -/
def entryBad (kinds e : Nat) : Bool :=
  decide (kinds < bitsOf e 63 60) || (bitsOf e 63 60 == 1 && bitsOf e 51 51 == 0 && bitsOf e 47 40 != 0) ||
    (bitsOf e 63 60 == 2 && decide (47 < bitsOf e 37 32))

/-- The steps of the FE page, as (group, state, step). -/
def feSteps : List (Nat × Nat × Nat) :=
  (List.range 4).flatMap fun g => (List.range 9).flatMap fun s => (List.range 8).map fun i => (g, s, i)

/-- The refusals of the FE page (R224, R234, R240, R241, Tables 10-8 and 10-9). -/
def Dev.feBad (c : Dev) : Bool :=
  (List.range 4).any (fun g => decide (7 ≤ c.fld pFe (R.FE_PG_CTL_REQ g))) ||
    (List.range 4).any (fun m => decide (c.fld pFe (R.FE_RFFE_CTL_DIV m) < 95)) ||
    (List.range 48).any (fun n => decide (5 ≤ c.fld pFe (R.FE_GPIO_MODE_MODE n))) ||
    c.fld pFe R.FE_BEAM_CTL_SCS == 3 || decide (19660 < c.fld pFe R.FE_BEAM_CTL_LEAD) ||
    feSteps.any (fun x => entryBad 4 (c.seqStep x.1 x.2.1 x.2.2)) ||
    (List.range 256).any fun b => entryBad 2 (c.pair pFe (R.FE_BEAM_LO_ENTRY b) (R.FE_BEAM_HI_ENTRY b))

/-- The refusals of the MON page (R252, Table 11-4). -/
def Dev.monBad (c : Dev) : Bool :=
  let f (F : Fld) : Nat := c.fld pMon F
  (c.flag pMon R.MON_CTL_PAIR && (f R.MON_CTL_MODE_A != f R.MON_CTL_MODE_B ||
      (f R.MON_CTL_MODE_A == 1 && (c.monSlen 0 != c.monSlen 1 || c.monUlen 0 != c.monUlen 1)))) ||
    f R.MON_CTL_REF == 3 || f R.MON_CTL_PIN_CONV == 3 || (List.range 4).any (fun n => f (R.MON_CMP_ACT n) == 3) ||
    decide (13 ≤ f R.MON_RING_CTL_SIZE)

/-- The refusals of the THERM page (R274). -/
def Dev.thermBad (c : Dev) : Bool :=
  ((List.range 9).any fun i => !risesI (((List.range 5).map (c.threshold i)).filter (· ≠ 127))) ||
    (List.range 5).any fun k => c.threshold 0 k != 127 && decide (124 < c.threshold 0 k)

/-- May block reset be among the reactions of source `f` (R357)? -/
def resetMay (f : Nat) : Bool :=
  match faultRow f with
  | some r => r.blk != some .dev && r.blk != some .irq && r.blk != some .fault
  | none => true

/-- Does a commit change a histogram that holds samples, or any while the recorder restores (R372, R421)? -/
def histBad (d c : Dev) : Bool :=
  if d.fld pRec R.REC_STAT_STATE = 0 then regsDiffer d c (pRec + 0x400) (pRec + 0xC00)
  else (List.range 256).any fun h =>
    regsDiffer d c (pRec + 0x400 + 8 * h) (pRec + 0x408 + 8 * h) && (d.rcd.live.bins.any fun b => b.1 / 32 == h && b.2 != 0)

/-- Would the candidate `c` of a page be refused, against the device `d` as it stands? Channels and synthesisers, and the claims,
are judged elsewhere. -/
def Dev.refuses (d c : Dev) (b : Blk) (i pg : Nat) : Bool :=
  let f (F : Fld) : Nat := c.fld pg F
  match b with
  | .dev => f R.DEV_PWR_REQ == 0 || !risesI ((List.range 4).map fun t => (f (R.DEV_EB_VTH_VTH t) : Int)) ||
      decide (4 < f R.DEV_EB_CTL2_SAFE_BAND)
  | .frame => f R.FRAME_CTL_SC_LOSS == 0 ||
      [R.FRAME_SRC_PRIO_P0, R.FRAME_SRC_PRIO_P1, R.FRAME_SRC_PRIO_P2, R.FRAME_SRC_PRIO_P3].any (fun F => decide (5 ≤ f F)) ||
      (List.range 8).any fun t => decide (1 < f (R.FRAME_TA_CFG_SCS t)) ||
        decide ((if f (R.FRAME_TA_CFG_RAT t) = 0 then 1007 else 503) < f (R.FRAME_TA_CFG_PCI t))
  | .bench => f R.BENCH_ANCHOR_CONV != d.fld pg R.BENCH_ANCHOR_CONV &&
      (List.range 8).any fun e => d.engState (8 * i + e) == 1 || d.engState (8 * i + e) == 2
  | .adc => decide (f R.ADC_CAL_CTL_STEP_US < 200) ||
      (f R.ADC_CTL_INBAND != d.fld pg R.ADC_CTL_INBAND && c.channels.any fun n => c.usesRx n i && c.modeMiss n)
  | .dac => decide (0 < c.sfld pg R.DAC_PP_LIM_TRIM_MIN) ||
      (f R.DAC_CTL_ZONE != d.fld pg R.DAC_CTL_ZONE && c.channels.any fun n => c.usesTx n (8 + i) && c.modeMiss n)
  | .fe => c.feBad
  | .mon => c.monBad
  | .therm => c.thermBad
  | .prot => decide (f R.PROT_THR_A_STAB_MIN < 40) || f R.PROT_THR_B_PWR_N == 0 || f R.PROT_THR_B_NR_FRAMES == 0 ||
      f R.PROT_THR_B_OOBE_WIN == 0 || f R.PROT_ULG_GRAMP == 7
  | .haul => (i == 0 && f R.HAUL_CASC_CTL_MASTER_REQ == 1 && d.linkUp 0) ||
      (List.range 192).any fun n => decide (24 * 256 < c.sfld pg (R.HAUL_BR_GAIN n))
  | .qmgr => f R.QMGR_TMO_TMO == 0 || (f R.QMGR_CTL_EN == 1 && (d.spiHost || !d.isMaster))
  | .xlat => decide (28 ≤ f R.XLAT_L1_CFG_LOG2) ||
      (regsDiffer d c (pg + 0x44) (pg + 0x50) && (List.range 16).any fun k => d.dmaState k == 1)
  | .dma => decide (5 ≤ f R.DMA_CTL_CLIENT) || decide (13 ≤ f R.DMA_RING_CFG_SIZE) || f R.DMA_SNAP_POINT == 3
  | .fault => (List.range 256).any fun s => decide (f (R.FAULT_REACT_CLASS s) < f (R.FAULT_REACT_DEF_CLASS s)) ||
      (c.flag pg (R.FAULT_REACT_BLK_RST s) && !resetMay s)
  | .recorder => histBad d c
  | .obs => decide (11 ≤ f R.OBS_CTL_CNT_PER) || decide (f R.OBS_CNT_RANGE_LAST < f R.OBS_CNT_RANGE_FIRST)
  | _ => false

/-- A commit that changes PLAN of synthesiser `i` is refused while a channel or a path group is served by it (R195). -/
def Dev.planRefused (d c : Dev) (i : Nat) : Bool :=
  c.fld (pSyn i) R.SYN_CTL_PLAN != d.fld (pSyn i) R.SYN_CTL_PLAN &&
    (d.synRelays i || d.channels.any fun n =>
      if i = 0 then d.flag (pCh n) R.CH_DEF_SRC_LOCAL else d.fld (pCh n) R.CH_DEF_OUT_MASK != 0)

/-! ### Effects of an accepted commit: channels -/

/-- The words a changed frequency differs by amount to no more than 1 kHz at converter rate `fs` (R58). -/
def isTrim (fs : Nat) (a b : Int) : Bool := decide ((a - b).natAbs * fs ≤ 1000 * 2 ^ 48)

/-- Frequency and phase words of the streams of channel `n` wait for the next grid sample (R57 to R59, R90). -/
def Dev.retuneRx (d : Dev) (n : Nat) : Dev :=
  (List.range (d.chRank n)).foldl (fun d j =>
    let t : Retune := { ftw := d.ftwRx n, pofs := d.fld (pCh n) (R.CH_NCO_POFS_POFS j), coherent := d.flag (pCh n) R.CH_NCO_CTL_MODE }
    d.setRx n j { d.rxChain n j with retune := some t }) d

/-- The same for the transmit streams of channel `n`. -/
def Dev.retuneTx (d : Dev) (n : Nat) : Dev :=
  (List.range (d.chRank n)).foldl (fun d j =>
    let t : Retune := { ftw := d.ftwTx n, pofs := d.fld (pCh n) (R.CH_NCO_TX_POFS_POFS j), coherent := d.flag (pCh n) R.CH_NCO_TX_CTL_MODE }
    d.setTx n j { d.txChain n j with retune := some t }) d

/-- SV_LOAD of every port shows its committed units (R72). -/
def Dev.showLoads (d : Dev) : Dev := (List.range 16).foldl (fun d v => d.setFld (pConv v) R.SV_LOAD_LOAD (d.portUnits v)) d

/-- HAUL_PLAYMEM shows the committed playout memory (R298). -/
def Dev.showPlayMem (d : Dev) : Dev := (List.range 3).foldl (fun d h => d.setFld (pHaul h) R.HAUL_PLAYMEM_BYTES (d.playBytes h)) d

/-- The delay a channel reports where its words come from or go to the haul (R97, R297). -/
def Dev.showHaulDelay (d : Dev) (n : Nat) : Dev :=
  if d.fld (pCh n) R.CH_DEF_SRC_HAUL = 0 ∨ d.fld (pCh n) R.CH_DEF_OUT_MASK = 0 then d
  else
    let c := d.delayCfg n
    let t := d.junctionTime n + 41 * tickUnits + (if c.resamp then 8 * c.tch else 0) +
      decDelay (variantOf c.profile) c.k * stampUnits * (if c.altTx then 16 else 15) / 15
    let q := t / stampUnits
    let r := t % stampUnits
    d.setFld (pCh n) R.CH_DLY_DELAY
      (if 2 * r < stampUnits then q else if stampUnits < 2 * r then q + 1 else q + q % 2)

/-- A channel is left disabled: its chains stop and it shows nothing. -/
def Dev.chLeave (d : Dev) (n : Nat) : Dev :=
  let d := d.setGain n { d.gainSt n with hasRelayed := false, pwrRun := 0, nriseRun := 0, oobeRun := 0 }
  let d := { d with streams := mclear d.streams (4 * n) (4 * n + 4) }
  let d := (d.setFld (pCh n) R.CH_SV_STAT_FILL 0).setFld (pCh n) R.CH_SV_STAT_COARSE_VALID 0
  (d.setFld (pCh n) R.CH_CANC_STAT_PILOT_ON 0).setFld (pCh n) R.CH_SV_STAT_ABSENT 0

/-- What follows from a commit that took channel `n` from its settings in `o` to those of `d` (R57 to R59, R64, R92, R98, R105,
R115, R150, R168). -/
def Dev.chApply (d o : Dev) (n : Nat) : Dev :=
  let p := pCh n
  let diff (F : Fld) : Bool := d.fld p F != o.fld p F
  let on := d.chOn n
  let newOn := on && !o.chOn n
  let loc := d.flag p R.CH_DEF_SRC_LOCAL
  let out := d.fld p R.CH_DEF_OUT_MASK != 0
  let grid := diff R.CH_DEF_RATE_K || diff R.CH_DEF_RESAMP || diff R.CH_DEF_DIR ||
    (d.flag p R.CH_DEF_RESAMP && diff R.CH_RS_STEP_STEP)
  let tuneRx := d.ftwRx n != o.ftwRx n && !isTrim (d.fsOf 0) (d.ftwRx n) (o.ftwRx n)
  let tuneTx := d.ftwTx n != o.ftwTx n && !isTrim (d.fsOf 8) (d.ftwTx n) (o.ftwTx n)
  let rx := newOn || grid || diff R.CH_DEF_IN_MASK || diff R.CH_DEF_SRC_LOCAL || tuneRx
  let tx := newOn || grid || diff R.CH_DEF_OUT_MASK || tuneTx
  let clear := newOn || grid || diff R.CH_DEF_IN_MASK || diff R.CH_DEF_OUT_MASK || tuneRx || tuneTx
  let phaseRx := d.ftwRx n != o.ftwRx n || (List.range 4).any fun j => diff (R.CH_NCO_POFS_POFS j)
  let phaseTx := d.ftwTx n != o.ftwTx n || (List.range 4).any fun j => diff (R.CH_NCO_TX_POFS_POFS j)
  let oldPad := d.fld p R.CH_DLY_PAD_PAD
  let d := (d.setDelay n).showHaulDelay n
  let d := if on then (if loc && rx then d.restartRx n else if loc && phaseRx then d.retuneRx n else d) else d
  let d := if on then (if out && tx then d.restartTx n else if out && phaseTx then d.retuneTx n else d) else d
  let d := if on && !rx && !tx then d.movePad n oldPad else d
  let d := if on && clear then d.tapClear n else d
  let d := if newOn || (on && grid) then { d with streams := mclear d.streams (4 * n) (4 * n + 4) } else d
  let d := if on && (newOn || grid || diff R.CH_DEF_SRC_LOCAL) && (d.sieveCh n).unfitM.isSome then
      (d.setSieve n { d.sieveCh n with unfitM := none }).setFld p R.CH_DEF_ERR_CODE 0 else d
  let d := if !on && o.chOn n then d.chLeave n else d
  let d := if diff R.CH_STAB_CTL_MARGIN || diff R.CH_CANC_XG_XG || diff R.CH_STAB_FLOOR_FLOOR then d.guardCommit n else d
  let nr := d.flag p R.CH_GL_CTL_NR_EN
  let d := if nr && !o.flag p R.CH_GL_CTL_NR_EN then d.setGain n { d.gainSt n with lNr := GainSt.init.lNr } else d
  let d := if nr != o.flag p R.CH_GL_CTL_NR_EN then d.showLnr n else d
  let gl := glChanged o d n
  let d := if gl then d.setGain n { d.gainSt n with coefNew := true } else d
  let d := if gl && d.chUp n then (d.bump p R.CH_GL_CNT2_UL_CHANGE).recCount (256 + n) 1 else d
  let d := (((d.showFrozen n).showNeff n).shedJudge n).showGated n
  let d := ((d.setAbsent n).showAbsent n).showLoads.showPlayMem
  let d := (List.range 3).foldl (fun d h =>
    if (d.fld p R.CH_DEF_HAUL_FWD ||| o.fld p R.CH_DEF_HAUL_FWD).testBit h then d.announce h else d) d
  (d.taRefresh).stir p

/-! ### Effects of an accepted commit: other pages -/

/-- Length of a sequence step in tenths of a tick (R235). -/
def Dev.stepTenths (d : Dev) (e : Nat) : Nat :=
  match bitsOf e 63 60 with
  | 1 => (if bitsOf e 51 51 = 1 then 43 else 34) * d.fld pFe (R.FE_RFFE_CTL_DIV (bitsOf e 57 56))
  | 2 => 10
  | 4 => 10 * bitsOf e 19 0
  | _ => 0

/-- FE_SEQT of group `g`'s state `s` (R235). -/
def Dev.seqTicks (d : Dev) (g s : Nat) : Nat :=
  let es := ((List.range 8).map (d.seqStep g s)).takeWhile fun e => bitsOf e 63 60 != 0
  (ratio ((es.foldl (fun t e => t + d.stepTenths e) 0 : Nat) : Int) 10).toNat

/-- The FE page's commit takes effect: requests of the groups written since the last commit, the computed sequence times, and
GPIO modes (R224, R235, R241). -/
def Dev.feApply (d o : Dev) : Dev :=
  let d := (List.range 4).foldl (fun d g =>
    if (d.grp g).marked then
      (d.setGrp g { d.grp g with marked := false }).pathRequest g (d.fld pFe (R.FE_PG_CTL_REQ g)) false
    else d) d
  let d := (List.range 4).foldl (fun d g =>
    (List.range 9).foldl (fun d s => d.setFld pFe (R.FE_SEQT_TICKS g s) (min (d.seqTicks g s) 0xFFFFF)) d) d
  (List.range 48).foldl (fun d n =>
    if d.fld pFe (R.FE_GPIO_MODE_MODE n) = 1 ∧ o.fld pFe (R.FE_GPIO_MODE_MODE n) ≠ 1 then
      { d with front := { d.front with gpio := mput .init d.front.gpio n { d.gpio n with drive := none } } }
    else d) d

/-- The MON settings that wait for conversions in progress, by register offset with the bits that wait (R256). -/
def monWaits : List (Nat × Word) :=
  [(0x40, 0x3F), (0x4C, 0xFFFFFFFF), (0x50, 0xFFFFFFFF), (0x54, 0xFFFFFFFF), (0x58, 0xFFFFFFFF), (0x5C, 0xFFFFFFFF),
   (0x60, 0xFFFFFFFF), (0x64, 0xFFFFFFFF), (0x68, 0xFFFFFFFF)]

/-- The converters whose waiting settings differ between `d` and `o` (R256). -/
def monAffected (d o : Dev) : List Nat :=
  let diff (F : Fld) : Bool := d.fld pMon F != o.fld pMon F
  let both := diff R.MON_CTL_PAIR || diff R.MON_CTL_REF || diff R.MON_CTL_LP
  let a := diff R.MON_CTL_MODE_A || regsDiffer d o (pMon + 0x4C) (pMon + 0x50) || regsDiffer d o (pMon + 0x54) (pMon + 0x5C) ||
    d.fld pMon R.MON_LIST_CTL_SLEN_A != o.fld pMon R.MON_LIST_CTL_SLEN_A || diff R.MON_LIST_CTL_ULEN_A ||
    diff R.MON_LIST_CTL_CONT_A || diff R.MON_URG_ENTRY_A
  let b := diff R.MON_CTL_MODE_B || regsDiffer d o (pMon + 0x50) (pMon + 0x54) || regsDiffer d o (pMon + 0x5C) (pMon + 0x64) ||
    diff R.MON_LIST_CTL_SLEN_B || diff R.MON_LIST_CTL_ULEN_B || diff R.MON_LIST_CTL_CONT_B || diff R.MON_URG_ENTRY_B
  (if both || a then [0] else []) ++ (if both || b then [1] else [])

/-- The MON page's commit takes effect: settings that wait for conversions to end are held back, the reference becomes unsettled,
ring offsets return to 0 and a disabled converter stops (R254, R256, R258). -/
def Dev.monCommit (d o : Dev) : Dev :=
  let on := monAffected d o
  let off := d.flag pMon R.PG_CTL_EN != o.flag pMon R.PG_CTL_EN
  let d := if off || d.fld pMon R.MON_CTL_REF != o.fld pMon R.MON_CTL_REF then
      ((d.setFld pMon R.MON_STAT_REF_SETTLED 0).setFld pMon R.MON_STAT_REF_BAD 0).levelOff 129 pMon else d
  let d := if regsDiffer d o (pMon + 0x94) (pMon + 0x9C) || d.fld pMon R.MON_RING_CTL_DEST != o.fld pMon R.MON_RING_CTL_DEST ||
      d.fld pMon R.MON_RING_CTL_SIZE != o.fld pMon R.MON_RING_CTL_SIZE then
      (d.setFld pMon R.MON_RING_WR_OFS 0).setFld pMon R.MON_RING_RD_OFS 0 else d
  let d := (List.range 2).foldl (fun d c => if o.monOn c && !d.monOn c then d.monDrop c else d) d
  if on.isEmpty then { d with mon := { d.mon with waitRegs := [], waitOn := [] } }
  else
    let wait := monWaits.map fun x => (pMon + x.1, d.reg (pMon + x.1))
    let d := monWaits.foldl (fun d x =>
      d.setReg (pMon + x.1) ((d.reg (pMon + x.1) &&& ~~~ x.2) ||| (o.reg (pMon + x.1) &&& x.2))) d
    { d with mon := { d.mon with waitRegs := wait, waitOn := on } }.monApply

/-- The BIAS page's commit takes effect (R266, R268). -/
def Dev.biasCommit (d o : Dev) (n : Nat) : Dev :=
  if d.fld (pBias n) R.BIAS_CTL_RANGE ≠ o.fld (pBias n) R.BIAS_CTL_RANGE then d.biasRangeChange n
  else if d.fld (pBias n) R.BIAS_CTL_CLR_SEL ≠ o.fld (pBias n) R.BIAS_CTL_CLR_SEL ∧ d.flag (pBias n) R.BIAS_STAT_AT_CLEAR = true then
    d.biasClear n
  else d

/-- The THERM page's commit takes effect: a disabled sensor is released; a newly enabled one has level 0 until its first valid
result (R273, R278). -/
def Dev.thermCommit (d o : Dev) : Dev :=
  (List.range 8).foldl (fun d s =>
    let was := o.flag pTherm (R.THERM_EXT_CFG_EN s)
    if d.flag pTherm (R.THERM_EXT_CFG_EN s) = was then d
    else if was then (d.sensorRelease s).setSensor (1 + s) .init
    else (d.setSensor (1 + s) { SensorSt.init with held := (d.sensor (1 + s)).held }).setFld pTherm (R.THERM_EXT_T_VALID s) 0) d

/-- The FRAME page's commit takes effect: sources that are switched off are disqualified, and the choice is made anew (R32 to
R36, R175). -/
def Dev.frameCommit (d : Dev) : Dev :=
  let d := d.taRefresh
  let d := if d.flag pFrame R.FRAME_CTL_PPS_EN then d else d.ppsTimeout
  let d := if d.flag pFrame R.FRAME_CTL_SC_EN then d
    else { d with frame := { d.frame with noValid := 0, scHeard := false, scLost := false } }.scUnqualify
  d.selectSource.judgeLost

/-- A HAUL page's commit takes effect: a disabled port's link goes down; loads and delays are shown anew (R296 to R298, R311). -/
def Dev.haulCommit (d o : Dev) (h : Nat) : Dev :=
  let d := if o.flag (pHaul h) R.HAUL_CTL_EN && !d.flag (pHaul h) R.HAUL_CTL_EN then d.linkFail h 0 else d
  let d := if h = 0 ∧ d.flag (pHaul 0) R.HAUL_CASC_CTL_MASTER_REQ = true then
      d.setFld (pHaul 0) R.HAUL_CASC_STAT_MASTER 1
    else if h = 0 then d.setFlag (pHaul 0) R.HAUL_CASC_STAT_MASTER (d.flag (pHaul 0) R.HAUL_CASC_STAT_STRAP) else d
  let d := ((List.range 192).filter (d.takes h)).foldl Dev.showHaulDelay d
  (d.announce h).showPlayMem

/-- DEV_PWR: the requested power state is in effect, unless the thermal latch holds STANDBY (R24, R25, R279), or the TEST strap does (R395). -/
def Dev.devCommit (d : Dev) : Dev :=
  let d := if d.flag pTherm R.THERM_STAT_SHUT || d.flag pPin R.PIN_STRAP_TEST then d else d.setFld pDev R.DEV_PWR_EFF (d.fld pDev R.DEV_PWR_REQ)
  d.monPower

/-- What an accepted commit of a page sets going, from the settings in `o`. -/
def Dev.commitApply (d o : Dev) (b : Blk) (i : Nat) : Dev :=
  match b with
  | .dev => d.devCommit
  | .frame => d.frameCommit
  | .ch => d.chApply o i
  | .bench => (List.range 12).foldl Dev.showMisalign d
  | .adc => d.showBg
  | .syn => if d.fld (pSyn i) R.SYN_CTL_PLAN = o.fld (pSyn i) R.SYN_CTL_PLAN then d else d.synBegin i 2
  | .fe => d.feApply o
  | .mon => d.monCommit o
  | .bias => d.biasCommit o i
  | .therm => d.thermCommit o
  | .prot => d.judgeHost.channels.foldl Dev.showGated d.judgeHost
  | .haul => d.haulCommit o i
  | .obs => d.showObs
  | _ => d

/-! ### The commit -/

/-- A commit of the page at `pg` with the shadow `snap` completes (R333, R335, R340): REQ follows the EN it carries; refused, it
is counted where its chapter says and changes nothing else; accepted, its fields take effect together and PG_SEQ counts it. -/
def Dev.commitRun (d : Dev) (pg : Nat) (snap : SMap Word) : Dev :=
  match pageDefAt pg with
  | none => d
  | some p =>
    let i := instOf p pg
    let c := d.withShadow pg (pg + p.span) snap
    let c := if fixedEn p.blk then c.setFld pg R.PG_CTL_EN 1 else c
    let d := (if p.blk = .fe then d else d.setFld pg R.PG_STAT_REQ (if c.flag pg R.PG_CTL_EN then 4 else 0)).stir pg
    let c := if p.blk = .fe then c else c.setFld pg R.PG_STAT_REQ (if c.flag pg R.PG_CTL_EN then 4 else 0)
    if p.blk = .ch ∧ d.chCode c i ≠ 0 then
      ((d.setFld pg R.CH_DEF_ERR_CODE (d.chCode c i)).bump pg R.CH_DEF_ERR_COUNT).raiseEvt pg 0
    else if p.blk = .syn ∧ d.planRefused c i = true then d.bump pg R.SYN_CNT_REFUSED
    else if d.refuses c p.blk i pg then d.badAcc pg
    else match d.claimClash pg [] (c.claims p.blk i) with
      | some x => d.claimRefused pg x
      | none =>
        let e := (c.takeClaims pg (c.claims p.blk i)).setFld pg R.PG_SEQ_SEQ (d.fld pg R.PG_SEQ_SEQ + 1)
        ({ e with wires := d.wires }).commitApply d p.blk i

/-- A commit that changes the first-level table drops every cached translation (R342). -/
def State.commitRun (s : State) (pg : Nat) (snap : SMap Word) : State :=
  let t := s.onDev fun d => d.commitRun pg snap
  if regsDiffer s.dev t.dev (pXlat + 0x44) (pXlat + 0x50) then t.xflush else t

/-- A write of COMMIT with COMMIT_AT_EVENT = 0 (R335): BUSY begins; while a commit of the page is in progress one more is held. -/
def Dev.commitStart (d : Dev) (pg : Nat) : Dev :=
  match pageDefAt pg with
  | none => d
  | some p =>
    if d.commits.any fun x => x.page == pg then
      { d with commits := d.commits.map fun x => if x.page = pg then { x with held := true } else x }
    else
      let w : CommitSt := { page := pg, snap := spanOf d.shadow pg (pg + p.span), held := false }
      { d with commits := d.commits ++ [w] }.setFld pg R.PG_STAT_BUSY 1

/-- The commit of the page in progress completes; one held behind it starts then, with the shadow as it stands (R335). -/
def State.commitDone (s : State) (pg : Nat) : State :=
  match s.dev.commits.find? fun x => x.page == pg with
  | none => s
  | some x =>
    let s := s.onDev fun d =>
      { d with commits := d.commits.filter fun y => y.page != pg }.setFld pg R.PG_STAT_BUSY 0
    let s := s.commitRun pg x.snap
    if x.held then s.onDev fun d => d.commitStart pg else s

/-- A write of COMMIT (R335, R336): at once, or armed for the next COMMIT frame action. -/
def Dev.commitWrite (d : Dev) (pg : Nat) : Dev :=
  if d.flag pg R.PG_CTL_COMMIT_AT_EVENT then d.setFld pg R.PG_CTL_ARMED 1 else d.commitStart pg

/-- A COMMIT frame action for the page at `pg` (R336): an armed page applies its shadow as it stands, and is no longer armed. -/
def State.commitAct (s : State) (pg : Nat) : State :=
  match pageDefAt pg with
  | none => s
  | some p =>
    if s.dev.flag pg R.PG_CTL_ARMED then
      (s.onDev fun d => d.setFld pg R.PG_CTL_ARMED 0).commitRun pg (spanOf s.dev.shadow pg (pg + p.span))
    else s

end Sys2Proof.Machine
end

