-- ==== Sys2Proof/Machine/Reset.lean ====
section
/-! DEFINITION. Block resets of every page (R338, R12, R428 and the chapters' own words) and chip reset (R12, R358, R399, R420). -/

namespace Sys2Proof.Machine

open Sys2Proof

/-! ### What a block reset keeps -/

/-- The bits of a page that its block reset keeps, as (offset, mask); PG_SEQ is kept by every page (log entry 40). -/
def keptBits (b : Blk) (i : Nat) : List (Nat × Nat) :=
  let all := 0xFFFFFFFF
  (0x28, all) ::
  match b with
  | .dev => [(0x40, 0x330), (0x44, 0x30), (0x48, all), (0x58, all)]
  | .frame => [(0x50, all)]
  | .ch => [(0x300, all), (0x3B0, all)]
  | .eng => [(0x40, 0x30), (0x50, all), (0x54, all), (0x58, all), (0x7C, 0x1FF0000)]
  | .fe => (List.range 4).map fun g => (0x44 + 16 * g, 0xF6F0)
  | .therm => [(0x48, all), (0x4C, all), (0x50, all)] ++ (List.range 8).map fun s => (0x8C + 16 * s, 0x1E0000)
  | .prot => [(0x70, all), (0x74, all), (0x78, all)] ++ (List.range 384).map fun k => (0x400 + 4 * k, all)
  | .haul => (0x68, all) :: if i = 0 then [(0x104, all), (0x108, 0x1FFFF)] else []
  | .irq => [(0x44, 1)]
  | .fault => (0x40, all) :: (List.range 32).map fun k => (0x100 + 8 * k, 0x4000000)
  | .recorder => [(0x44, all), (0x48, all), (0x4C, all), (0x50, all), (0x54, all), (0x58, all), (0x5C, all), (0x60, all)] ++
      ((List.range 16).map fun k => (0xC0 + 4 * k, all)) ++ (List.range 512).map fun k => (0x400 + 4 * k, all)
  | .pin => [(0x40, all), (0x44, all), (0x48, 0xFF)] ++ (List.range 96).map fun k => (0x400 + 4 * k, all)
  | _ => []

/-- Put back the kept bits of the page at `pg` from `o`. -/
def Dev.keepBits (d o : Dev) (pg : Nat) (ks : List (Nat × Nat)) : Dev :=
  ks.foldl (fun d k =>
    let m := BitVec.ofNat 32 k.2
    d.setReg (pg + k.1) ((d.reg (pg + k.1) &&& ~~~m) ||| (o.reg (pg + k.1) &&& m))) d

/-- The registers of a page return to their Reset values, but for what it keeps (R12, R338). -/
def Dev.clearPage (d : Dev) (pg span : Nat) (b : Blk) (i : Nat) : Dev :=
  (d.clearRegs pg (pg + span)).keepBits d pg (keptBits b i)

/-! ### What each block's reset does besides -/

/-- Channel `n` is left disabled, its canceller image and latency kept; its former settings are in `o` (R109, R141). -/
def Dev.resetChannel (d o : Dev) (n : Nat) : Dev :=
  let d := { d with rx := mclear d.rx (4 * n) (4 * n + 4), tx := mclear d.tx (4 * n) (4 * n + 4),
                    sieve := mput .init d.sieve n .init, canc := mput .init d.canc n .init, gain := mput .init d.gain n .init }
  let d := (((d.levelOff 112 (pCh n)).levelOff 115 (pCh n)).chLeave n).showGated n
  let d := (d.showLoads.showPlayMem).taRefresh
  (List.range 3).foldl (fun d h => if (o.fld (pCh n) R.CH_DEF_HAUL_FWD).testBit h then d.announce h else d) d

/-- Engine `e` waits in IDLE with its banks, LDM and trace buffer (R142). -/
def Dev.resetEngine (d : Dev) (e : Nat) : Dev :=
  let s := d.engine e
  let w : EngSt := { EngSt.init with bank0 := s.bank0, bank1 := s.bank1, ldm := s.ldm, trace := s.trace, held := s.held }
  let d := d.setEng e w
  (d.hosted e).foldl Dev.showFrozen d

/-- The front end after a block reset of its page (R243): gates closed, timed queues emptied with each queued write counted in
DROP, GPIOs undriven; the groups proceed to OFF. `o` is the device before. -/
def Dev.resetFront (d o : Dev) : Dev :=
  let d := (d.closeGates 0xFF true)
  let d := { d with front := { d.front with gpio := d.front.gpio.map fun x => (x.1, { x.2 with drive := none }), beams := [] } }
  let d := (List.range 4).foldl (fun d m =>
    let q := (o.rffe m).queue.length
    let d := d.setRffe m { o.rffe m with queue := [], host := none, hostRun := false }
    if q = 0 then d else (d.bumpBy pFe (R.FE_RFFE_CNT_DROP m) q).raiseEvt pFe (8 + m)) d
  (List.range 4).foldl (fun d g =>
    let d := d.setGrp g { d.grp g with seqRun := none, seqDone := true, marked := false, retDue := false, burst := false }
    (d.pathRequest g 0 false).stepTry g) d

/-- The FRAME page after its block reset (R34, R48): the sources qualify anew, the mode leaves TRACK and ACQUIRE for HOLDOVER, and
pending actions are cancelled. -/
def Dev.resetFrame (d o : Dev) : Dev :=
  let m := o.fld pFrame R.FRAME_STAT_MODE
  let d := { d with frame := { d.frame with taRun := [], ppsRun := 0, ppsLast := none, scRun := 0,
                                            scBad := 0, scDis := 0, scLast := none, noValid := 0, scHeard := false, scLost := false, staging := [] } }
  let d := d.setFld pFrame R.FRAME_STAT_MODE m
  let d := d.setFld pFrame R.FRAME_STAT_STEP_GUARD (o.fld pFrame R.FRAME_STAT_STEP_GUARD)
  (if m = 1 ∨ m = 2 then d.enterHoldover else d.judgeLost).cancelAll.taRefresh

/-- The DEV page after its block reset: the energy-budget loop starts anew, and the requested power state is STANDBY (R24, R160). -/
def Dev.resetDevPage (d : Dev) : Dev :=
  let d := ({ d with energy := .init }).levelOff 6 pDev
  (d.devCommit).shedAll

/-- The MON page after its block reset: conversions end, the reference is unsettled; the on-chip ring's words stay. -/
def Dev.resetMon (d : Dev) : Dev :=
  let d := { d with mon := { MonBlk.init with ring := d.mon.ring } }
  (d.setFlag pMon R.MON_STAT_LP_EFF d.lpWanted).levelOff 129 pMon

/-- The THERM page after its block reset (R280): external sensors start anew with their holds. -/
def Dev.resetTherm (d : Dev) : Dev :=
  let held : SensorSt := { SensorSt.init with held := true }
  let l : SMap SensorSt := d.therm.sensors.filterMap fun x =>
    if x.1 = 0 then some x else if x.2.held then some (x.1, held) else none
  { d with therm := { d.therm with sensors := l } }

/-- A haul port after its block reset: its link is down; addresses and the port's range stay (R284). -/
def Dev.resetHaul (d : Dev) (h : Nat) : Dev :=
  let s := d.port h
  let d := d.setPort h { HaulSt.init with period := s.period, pos := s.pos }
  let d := d.showPlayMem.stir (pHaul h)
  if h = 0 then
    let d := { d with casc := { d.casc with enumBusy := false, enumPort := 0, sync := none, syncOut := none } }
    (d.setFld (pHaul 0) R.HAUL_CASC_STAT_ENUM_BUSY 0).setFlag (pHaul 0) R.HAUL_CASC_STAT_MASTER
      (d.flag (pHaul 0) R.HAUL_CASC_STAT_STRAP)
  else d

/-- What the block reset of a page other than ADC, DAC, SYN and CAL does in the device, its registers already at their Reset
values; `o` is the device before. -/
def Dev.resetBlock (d o : Dev) (b : Blk) (i : Nat) : Dev :=
  match b with
  | .dev => d.resetDevPage
  | .frame => d.resetFrame o
  | .ch => d.resetChannel o i
  | .eng => d.resetEngine i
  | .bench => d.showMisalign i
  | .fe => d.resetFront o
  | .mon => d.resetMon
  | .bias => (d.biasPageReset i (o.fld (pBias i) R.BIAS_CTL_RANGE) (d.flag pPin R.PIN_STRAP_CLRSEL)).levelOff 131 (pBias i)
  | .therm => d.resetTherm
  | .prot => d.channels.foldl Dev.showGated d.judgeHost
  | .haul => d.resetHaul i
  | .irq => d.setFlag pIrq R.IRQ_CTL_PIN_EN (d.flag pIrq R.IRQ_STAT_HOSTSEL)
  | .recorder => (spanOf d.regs (pRec + 0x400) (pRec + 0xC00)).foldl (fun d e => d.setShadow e.1 e.2) d
  | .obs => ({ d with obs := { ObsSt.init with seq := d.obs.seq, packet := d.obs.packet } }).showObs
  | _ => d

/-- CLR_SEL of a BIAS page stands at the strap level in the shadow as well (R266). -/
def Dev.strapShadow (d : Dev) (n : Nat) : Dev :=
  d.setShadow (pBias n + R.BIAS_CTL_CLR_SEL.off)
    (R.BIAS_CTL_CLR_SEL.put (d.shadowReg (pBias n + R.BIAS_CTL_CLR_SEL.off)) (d.fld pPin R.PIN_STRAP_CLRSEL))

/-! ### Converter, synthesiser and calibration pages (R428) -/

/-- The bits of a register that a reset of these pages returns at once: counters, sticky and command bits. -/
def RegRow.passing (r : RegRow) : Nat := r.rc ||| r.w1c ||| r.w1s ||| r.wo

/-- The register map of a page with the bits `m` of each register at its Reset value, the set window and PG_SEQ apart. -/
def Dev.resetMask (d : Dev) (p : PageDef) (pg : Nat) (m : RegRow → Nat) : Dev :=
  (spanOf d.regs pg (pg + p.span)).foldl (fun d e =>
    match rowAt p (e.1 - pg) with
    | some r =>
      if inSetWindow p.blk (e.1 - pg) then d
      else
        let k := BitVec.ofNat 32 (m r)
        d.setReg e.1 ((d.reg e.1 &&& ~~~k) ||| (resetReg e.1 &&& k))
    | none => d) d

/-- A block reset of an ADC, DAC, SYN or CAL page (R428): counters, sticky and command bits and the shadow at once, the
configuration as one commit under the page's rules. -/
def Dev.resetConv (d : Dev) (p : PageDef) (pg i : Nat) : Dev :=
  let d := d.resetMask p pg RegRow.passing
  let d := ({ d with shadow := mclear d.shadow pg (pg + p.span) }).setFld pg R.PG_CTL_ARMED 0
  let c := (d.resetMask p pg fun r => r.rw ||| r.rwc).setFld pg R.PG_STAT_REQ 0
  let d := d.setFld pg R.PG_STAT_REQ 0
  if p.blk = .syn ∧ d.planRefused c i = true then d.bump pg R.SYN_CNT_REFUSED
  else if d.refuses c p.blk i pg then d.badAcc pg
  else
    let e := c.commitApply d p.blk i
    if p.blk = .cal ∧ d.flag pCal R.CAL_CTL_FREEZE_SETS = true then e.freezeSets false else e

/-! ### SOFT_RST (R338) -/

/-- A write of SOFT_RST to the page at `pg`: commits of the page are dropped, its resources are released, and BUSY stands until
the reset completes. -/
def Dev.softReset (d : Dev) (pg : Nat) : Dev :=
  match pageDefAt pg with
  | none => d
  | some p =>
    let i := instOf p pg
    let d := if p.blk = .haul then d.linkFail i 0 else d
    let d := { d with commits := d.commits.filter fun x => x.page != pg,
                      resets := if d.resets.contains pg then d.resets else d.resets ++ [pg],
                      wires := { d.wires with events := d.wires.events.filter (· ≠ pg) } }
    let d :=
      match p.blk with
      | .adc => d.resetConv p pg i
      | .dac => d.resetConv p pg i
      | .syn => d.resetConv p pg i
      | .cal => d.resetConv p pg i
      | b => ((d.clearPage pg p.span b i).resetBlock d b i)
    let d := if p.blk = .bias then d.strapShadow i else d
    let d := (d.releaseOwned pg).setReg (pg + R.PG_OWN_INDEX.off) 0
    let d := if p.blk = .fe ∨ p.blk = .adc ∨ p.blk = .dac ∨ p.blk = .syn ∨ p.blk = .cal then d
      else d.setFld pg R.PG_STAT_REQ (if d.flag pg R.PG_CTL_EN then 4 else 0)
    (d.setFld pg R.PG_STAT_BUSY 1).stir pg

/-- A block reset with what it does on the host-memory side: queues, translations and DMA channels (R338, R348). -/
def State.softReset (s : State) (pg : Nat) : State :=
  match pageDefAt pg with
  | none => s
  | some p =>
    let i := instOf p pg
    let s :=
      match p.blk with
      | .qmgr =>
        let q := s.host.qm
        let w : QmgrSt := { QmgrSt.init with ptr := q.ptr, exec := q.exec, arrived := q.arrived, uploads := q.uploads }
        s.setQm w
      | .xlat => s.setXlat .init
      | .dma => (if s.dev.dmaFaulted i && s.dev.dmaClient i == 4 then s.qmAbort i else s).setDma i .init
      | _ => s
    s.onDev fun d => d.softReset pg

/-- The block reset of a page completes (R338). -/
def Dev.softResetDone (d : Dev) (pg : Nat) : Dev :=
  if d.resets.contains pg then
    ({ d with resets := d.resets.filter (· ≠ pg) }.setFlag pg R.PG_STAT_BUSY (d.commits.any fun x => x.page == pg)).stir pg
  else d

/-! ### Chip reset (R12, R358, R399, R420) -/

/-- The registers that survive chip reset, as (address, mask): the always-on ones, the straps, and the recorder's (R420). -/
def chipKept : List (Nat × Nat) :=
  let all := 0xFFFFFFFF
  [(pDev + 0x48, 2), (pFault + 0x40, 0x800), (pTherm + 0x4C, 0x10), (pPin + 0x40, all), (pPin + 0x44, all), (pPin + 0x48, all)] ++
    ((List.range 7).map fun k => (pRec + 0x44 + 4 * k, all)) ++ [(pRec + 0x60, all)] ++
    ((List.range 16).map fun k => (pRec + 0xC0 + 4 * k, all)) ++ (List.range 512).map fun k => (pRec + 0x400 + 4 * k, all)

/-- The device as chip reset leaves it: every register at its Reset value but for those kept, the recorder with what it gathered. -/
def Dev.chipFresh (d : Dev) : Dev :=
  let d := d.recChip
  let st := d.fault.standing.filter fun x => x.1 == 4 || x.1 == 138
  let n : Dev := { Dev.init with rcd := d.rcd, flash := d.flash, jtag := d.jtag, pins := { d.pins with pcieUp := false },
                                 free := d.free, fault := { FaultSt.init with standing := st } }
  let n := n.keepBits d 0 chipKept
  { n with shadow := spanOf n.regs (pRec + 0x400) (pRec + 0xC00) }

/-- Chip reset is asserted (R12): counter 1,019 and its account in the last words (R371, Table 17-7); the outputs go off. -/
def State.enterReset (s : State) : State :=
  let d := s.dev.outputsOff.recCount 1019 1
  let d := d.setFld pRec (R.REC_LW_WORDS 12) (d.fld pRec (R.REC_LW_WORDS 12) + 1)
  { s with dev := d.chipFresh, host := { HostSide.init with mem := s.host.mem } }

/-- What every release of reset sets up (R266, R283, R328, R353, R418): the cause, the straps' levels, the pages that stand
enabled. The thermal latch holds every group in FAULT (R279). -/
def Dev.bootUp (d : Dev) : Dev :=
  let d := d.setFld pDev R.DEV_BOOT_CAUSE d.pins.cause
  let d := (List.range 16).foldl (fun d n =>
    (d.setFld (pBias n) R.BIAS_CTL_CLR_SEL (d.fld pPin R.PIN_STRAP_CLRSEL)).strapShadow n) d
  let d := (List.range 16).foldl (fun d n => d.biasClear n) d
  let d := (d.setFld pIrq R.IRQ_STAT_HOSTSEL (d.fld pPin R.PIN_STRAP_HOSTSEL)).setFld pIrq R.IRQ_CTL_PIN_EN (d.fld pPin R.PIN_STRAP_HOSTSEL)
  let d := (d.setFld (pHaul 0) R.HAUL_CASC_STAT_STRAP (d.fld pPin R.PIN_STRAP_MASTER)).setFld (pHaul 0) R.HAUL_CASC_STAT_MASTER
    (d.fld pPin R.PIN_STRAP_MASTER)
  let d := (d.setFlag pDev R.DEV_CLK_STAT_REF_OK true).showFixed
  if d.flag pTherm R.THERM_STAT_SHUT then d.thermHold else d

end Sys2Proof.Machine
end

