-- ==== Sys2Proof/Machine/PowerOps.lean ====
section
/-! DEFINITION. Supplies, clocks and the resets they cause (R23, R24, R357, R399 to R405, R416 to R420). -/

namespace Sys2Proof.Machine

open Sys2Proof

/-! ### Power-on reset (R403, R404, R416) -/

/-- The registers kept across power-on reset while VAON stays at 1.40 V or more, as (address, mask). -/
def porKept : List (Nat × Nat) :=
  let all := 0xFFFFFFFF
  [(pDev + 0x48, 2), (pFault + 0x40, 0x800), (pTherm + 0x4C, 0x10), (pPin + 0x44, all), (pPin + 0x48, all)] ++
    (List.range 16).map fun k => (pRec + 0xC0 + 4 * k, all)

/-- What is kept when VAON falls below 1.40 V: the thermal latch and what the supply monitor shows. -/
def vaonKept : List (Nat × Nat) := [(pTherm + 0x4C, 0x10), (pPin + 0x44, 0xFFFFFFFF), (pPin + 0x48, 0xFF)]

/-- The device enters power-on reset: outputs go off, every register goes to its Reset value but for the always-on ones, and the
power state is AON (R24, R404). -/
def State.enterPor (s : State) : State :=
  let d := s.dev.outputsOff.recPor
  let lost := d.pins.vaonLost
  let pins : PinSt := { d.pins with porHold := true, chipHold := false, refHold := false, pcieUp := false }
  let st := d.fault.standing.filter fun x => x.1 == 138
  let n : Dev := { Dev.init with rcd := d.rcd, flash := d.flash, pins := pins, free := d.free,
                                 fault := { FaultSt.init with standing := st } }
  let n := (n.keepBits d 0 (if lost then vaonKept else porKept)).setFld pDev R.DEV_PWR_EFF 0
  { s with dev := n, host := { HostSide.init with mem := s.host.mem } }

/-- Power-on reset is released once every rail is in range (R400, R401, R403, R416, R417): straps and the source of CK_REF are sampled,
the power-cycle count advances, and a new nonce is drawn; a power cycle releases the thermal latch (R280). With CK_REF absent, chip
reset is held. -/
def Dev.porRelease (d : Dev) (p : PorInputs) : Dev :=
  if !d.pins.porHold || p.ok != 0xFF then d
  else
    let strap := p.master.toNat + 2 * p.clrsel.toNat + 4 * p.test.toNat + 8 * p.hostsel.toNat + 16 * p.refIn.toNat
    let d := d.setReg (pPin + R.PIN_STRAP_MASTER.off) (BitVec.ofNat 32 strap)
    let d := (d.setFld pPin R.PIN_BANK_BANK p.bank.toNat).setFld pPin R.PIN_BANK_NVM p.nvm.toNat
    let d := d.setFld pPin R.PIN_SUPPLY_OK p.ok.toNat
    let d := if p.cycled then ((d.setFld pTherm R.THERM_STAT_SHUT 0).levelOff 138 pTherm).lwFlag 0 false else d
    let d := { d with rcd := { d.rcd with pcc := (d.rcd.pcc + 1) % 2 ^ 32 } }
    let d := (d.setFld pRec (R.REC_LW_WORDS 12) 0).newNonce.showTime
    let d := d.setFld pDev R.DEV_PWR_EFF 1
    let d : Dev := { d with pins := { d.pins with porHold := false, refHold := !p.refPresent, cause := if d.pins.vaonLost then 0 else 1 } }
    if p.refPresent then d.bootUp
    else (d.setFld pDev R.DEV_CLK_STAT_AON_FALLBACK 1).lwFlag 1 true

/-- The PLLs are locked and the register space answers (R416, R420): after power-on reset the recorder restores; after chip reset
REC_DONE sets with FABRIC, unless that reset met a restore in progress. The PCI Express reference is taken as present unless it was lost (log entry 34). -/
def Dev.fabricUp (d : Dev) : Dev :=
  if d.pins.held || d.flag pDev R.DEV_BOOT_FABRIC then d
  else
    let d := (d.setFld pDev R.DEV_BOOT_FABRIC 1).setFld pDev R.DEV_BOOT_PLL_OK 1
    let d := (d.setFld pDev R.DEV_CLK_STAT_CORE_LOCK 1).setFld pDev R.DEV_CLK_STAT_SYS_LOCK 1
    let d := (d.setFld pDev R.DEV_CLK_STAT_HAUL_LOCK 1).setFlag pDev R.DEV_CLK_STAT_PCIE_REF_OK
      (!d.fault.standing.contains (4, pDev))
    let d := if 2 ≤ d.pins.cause ∧ d.fld pRec R.REC_STAT_STATE ≠ 0 then d.setFld pDev R.DEV_BOOT_REC_DONE 1 else d
    (d.setFlag pMon R.MON_STAT_LP_EFF d.lpWanted).showTime

/-! ### Clocks (R23, R354) -/

/-- CK_REF is lost (Table 01-10): CK_AON falls back, outputs go off, the fatal fault is raised and chip reset will be held. -/
def Dev.refLoss (d : Dev) : Dev :=
  if d.pins.porHold || d.pins.refHold then d
  else
    let d := (d.setFld pDev R.DEV_CLK_STAT_AON_FALLBACK 1).lwFlag 1 true
    let d := ((d.setFld pDev R.DEV_CLK_STAT_REF_OK 0).outputsOff).levelOn 0 pDev
    { d with pins := { d.pins with refHold := true, chipHold := false, cause := 3 } }

/-- CK_REF has been present for 1 ms (Table 01-10): chip reset is released. -/
def Dev.refReturn (d : Dev) : Dev :=
  if !d.pins.refHold then d
  else
    let d : Dev := { d with pins := { d.pins with refHold := false } }
    let d := d.levelOff 0 pDev
    if d.pins.held then d else d.bootUp

/-- The core (1) or system (2) PLL unlocks (R357). -/
def Dev.pllUnlock (d : Dev) (src : Nat) : Dev :=
  (d.setFld pDev (if src = 1 then R.DEV_CLK_STAT_CORE_LOCK else R.DEV_CLK_STAT_SYS_LOCK) 0).levelOn src pDev

/-- The haul PLL unlocks: links leave UP, block lock being lost on their lanes (R311, R354, Table 13-7 cause 1; log entry 37). -/
def Dev.haulPll (d : Dev) : Dev :=
  let d := (d.setFld pDev R.DEV_CLK_STAT_HAUL_LOCK 0).levelOn 3 pDev
  (List.range 3).foldl (fun d h => if d.linkState h = 0 then d else d.linkFail h 1) d

/-- The haul PLL regains lock (R354). -/
def Dev.haulLock (d : Dev) : Dev := (d.setFld pDev R.DEV_CLK_STAT_HAUL_LOCK 1).levelOff 3 pDev

/-- The PCI Express reference clock stops or returns (R354). -/
def Dev.pcieRef (d : Dev) (on : Bool) : Dev :=
  let d := d.setFlag pDev R.DEV_CLK_STAT_PCIE_REF_OK on
  if on then d.levelOff 4 pDev else d.levelOn 4 pDev

/-! ### Rails (R404, R405) -/

/-- A bank's code changes (R405, R415). -/
def Dev.setBank (d : Dev) (i code : Nat) : Dev :=
  let F : Fld := if i = 6 then R.PIN_BANK_NVM else { R.PIN_BANK_BANK with lo := 2 * i, w := 2 }
  if d.fld pPin F = code then d else (d.setFld pPin F code).raiseEvt pPin 1

/-- A rail leaves its range: OK clears, DIP sets (R404, R415). -/
def Dev.railOut (d : Dev) (i : Nat) : Dev :=
  let d := d.setFlag pPin (R.PIN_SUPPLY_OK.bit i) false
  if d.flag pPin (R.PIN_SUPPLY_DIP.bit i) then d else (d.setFlag pPin (R.PIN_SUPPLY_DIP.bit i) true).raiseEvt pPin 0

/-- A rail other than VAON and VDD_NVM dips: rails 0 to 5 as in PIN_SUPPLY.OK, 6 to 11 the banks A to F, which PIN_SUPPLY does not
list (R404). -/
def State.supplyDip (s : State) (rail : Nat) : State :=
  (s.onDev fun d => if rail < 6 then d.railOut rail else d.setBank (rail - 6) 3).enterPor

/-- VAON falls below 1.62 V, or below 1.40 V with the always-on registers lost (R404). -/
def State.vaonLow (s : State) (lost : Bool) : State :=
  let s := s.onDev fun d => d.railOut 6
  (s.onDev fun d => { d with pins := { d.pins with vaonLost := d.pins.vaonLost || lost } }).enterPor

/-- VDD_NVM leaves its range: the flash interface stops (R404, R405; log entry 35). -/
def Dev.nvmLoss (d : Dev) : Dev := ((d.railOut 7).setBank 6 3).flashStop 2

/-- VDD_NVM returns (R405): a flash that a restore has met runs again. -/
def Dev.nvmReturn (d : Dev) (code : Nat) : Dev :=
  let d := (d.setFlag pPin (R.PIN_SUPPLY_OK.bit 7) true).setBank 6 code
  if d.flag pDev R.DEV_BOOT_REC_DONE then d.recNext else d

/-! ### RESET_N, PERST_N and the endpoint (R329, R399, R419) -/

/-- RESET_N is asserted: a chip reset that lasts while the ball is low. -/
def State.resetAssert (s : State) : State :=
  if !s.dev.pins.resetN then s
  else
    let s := if s.dev.pins.porHold then s else s.enterReset
    s.onDev fun d => { d with pins := { d.pins with resetN := false, cause := if d.pins.porHold then d.pins.cause else 2 } }

/-- RESET_N is released. -/
def Dev.resetRelease (d : Dev) : Dev :=
  if d.pins.resetN then d
  else
    let d : Dev := { d with pins := { d.pins with resetN := true } }
    if d.pins.held then d else d.bootUp

/-- The 100 µs of a chip reset end (R358). -/
def Dev.chipRelease (d : Dev) : Dev :=
  if !d.pins.chipHold then d
  else
    let d : Dev := { d with pins := { d.pins with chipHold := false } }
    if d.pins.held then d else d.bootUp

/-- A Function Level Reset acts as chip reset, released at once, the link staying trained (R329, R420; log entry 36). -/
def State.flr (s : State) : State :=
  if s.dev.pins.held || !s.dev.pins.pcieUp then s
  else
    let s := s.enterReset
    s.onDev fun d => ({ d with pins := { d.pins with pcieUp := true, cause := 5 } }).bootUp

/-- PERST_N resets the endpoint alone (R399): its link is down. -/
def Dev.perstAssert (d : Dev) : Dev :=
  let d := { d with pins := { d.pins with perstN := false } }
  if d.pins.pcieUp then ({ d with pins := { d.pins with pcieUp := false } }).levelOn 194 pDev else d

/-- The PCI Express link goes down (R354). -/
def Dev.linkLost (d : Dev) : Dev :=
  if d.pins.pcieUp then ({ d with pins := { d.pins with pcieUp := false } }).levelOn 194 pDev else d

/-- Link training completes (R329, R419): it may begin once FABRIC is set and PERST_N is released, under HOSTSEL = PCI Express. -/
def Dev.linkTrained (d : Dev) : Dev :=
  if d.reachable && d.pins.perstN && !d.spiHost then (({ d with pins := { d.pins with pcieUp := true } }).levelOff 194 pDev).touch 0 else d

end Sys2Proof.Machine
end

