-- ==== Sys2Proof/Machine/Settle.lean ====
section
/-! DEFINITION. What every command settles at its end: failing checks and their reactions (R358 to R365), the states pages report
(R189, R333), and the records, messages and packets that follow (R322, R352, R389). -/

namespace Sys2Proof.Machine

open Sys2Proof

/-! ### A failing check (R354, R358, R362) -/

/-- The count of source `f` in FAULT_CNT (Table 16-7). -/
def fCnt (f : Nat) : Fld := { R.FAULT_CNT_COUNT (f / 4) with lo := 8 * (f % 4), w := 8 }

/-- A check fails: PG_FLT, FAULT_CNT, the recorder's count, LAST_SRC and the count of injected faults (R358, R365, R371). -/
def Dev.faultMark (d : Dev) (x : FaultSig) : Dev :=
  match faultRow x.src with
  | none => d
  | some r =>
    let d := d.setFld x.page (R.PG_FLT_FLT.bit r.bit) 1
    let d := (d.bump pFault (fCnt x.src)).recCount x.src 1
    let d := if x.inj then d.bump pFault R.FAULT_CNT_X_INJ else d
    ((d.setFld pFault R.FAULT_STAT_LAST_SRC x.src).stir x.page).touch ((768 + x.src) / 32)

/-- The lowest page that raised source `f` among those of a cycle (R354). -/
def lowestPage (xs : List FaultSig) (f : Nat) : Nat :=
  match (xs.filter fun x => x.src == f).map (·.page) with
  | [] => 0
  | p :: ps => ps.foldl min p

/-- The cause a fatal record carries (Table 17-7). -/
def fatalCause (f : Nat) (reset : Bool) : Nat := if f = 0 then 1 else if f = 138 then 2 else if reset then 3 else 0

/-- What follows the rise of a sticky bit, apart from the reaction: the FAULT page's event, the hour's count, the last words of a class
F fault or of a chip reset, and flushes (R358, R366, R368, R376). -/
def Dev.stickyRise (d : Dev) (xs : List FaultSig) (f : Nat) : Dev :=
  let c := d.faultClass f
  let x := (d.reactSet f).testBit 4
  let d := (d.raiseEvt pFault 0).hourFault c
  let d := if c = 3 ∨ x = true then d.fatalRecord f (lowestPage xs f) (fatalCause f x) else d
  if (c == 3 && d.flag pRec R.REC_CTL_FLUSH_F) || (c == 2 && d.flag pRec R.REC_CTL_FLUSH_U) then d.requestFlush 1 f else d

/-- The first-fault record of block `b` takes a cycle whose failing sources are `fs` (R362). -/
def Dev.firstFault (d : Dev) (xs : List FaultSig) (b : Nat) : Dev :=
  if d.flag pFault (R.FAULT_BLK_VALID b) then d
  else
    let fs := (xs.map (·.src)).filter fun f => f / 8 == b
    let c := fs.foldl (fun m f => max m (d.faultClass f)) 0
    match fs.filter fun f => d.faultClass f == c with
    | [] => d
    | f0 :: rest =>
      let f := rest.foldl min f0
      let pg := lowestPage xs f
      let inj := xs.any fun x => x.src == f && x.page == pg && x.inj
      let d := (d.setFld pFault (R.FAULT_BLK_FIRST_SRC b) f).setFld pFault (R.FAULT_BLK_FIRST_PAGE b) (pageNo pg)
      let d := (d.setFld pFault (R.FAULT_BLK_FIRST_CLASS b) c).setFlag pFault (R.FAULT_BLK_INJ b) inj
      let d := (d.setFld pFault (R.FAULT_BLK_T_TICK b) d.frame.tick).setFld pFault (R.FAULT_BLK_T_FRAME b) d.frame.frame
      d.setFld pFault (R.FAULT_BLK_VALID b) 1

/-! ### Reactions (R357 to R361) -/

/-- The engines that a trap of source `f`, raised in the page at `pg`, traps (R358). -/
def Dev.trapped (d : Dev) (pg : Nat) : List Nat :=
  match pageDefAt pg with
  | none => List.range 96
  | some p =>
    match p.blk with
    | .eng => [instOf p pg]
    | .bench => (List.range 8).map (8 * instOf p pg + ·)
    | .ch => d.engines.filter fun e => (Image.chans (d.active e)).any fun c => c.chan == instOf p pg
    | _ => List.range 96

/-- Is a reaction of block `b` in progress (R359)? -/
def Dev.reacting (d : Dev) (b : Nat) : Bool := d.fault.progress.any fun p => p.blk == b

/-- A reaction is noted as in progress. -/
def Dev.noteReaction (d : Dev) (p : InProgress) : Dev :=
  { d with fault := { d.fault with progress := d.fault.progress ++ [p] } }

/-- The reaction of block `b` for source `f` with the reaction set `r`: ERR_N, trap and block reset (R358). -/
def State.react (s : State) (xs : List FaultSig) (b f r : Nat) : State :=
  let pg := lowestPage xs f
  let s := if r.testBit 1 then s.onDev fun d => d.setFld pFault R.FAULT_STAT_ERR_N 1 else s
  let s :=
    if r.testBit 2 then
      let es := s.dev.trapped pg
      s.onDev fun d =>
        let d := (d.setFld pIrq R.IRQ_STAT_V0 1).touch 32
        let d := es.foldl (fun d e => d.trap e (if 16 ≤ f ∧ f < 112 ∧ f % 8 = 5 then 4 else 5)) d
        let run := es.filter fun e => d.engState e == 2
        if run.isEmpty then d else d.noteReaction { blk := b, engines := run, page := none }
    else s
  if r.testBit 3 then (s.softReset pg).onDev fun d => d.noteReaction { blk := b, engines := [], page := some pg } else s

/-- The sources of block `b` among those whose sticky bit rose, and the set that is taken: the highest level, or the union of the sets
that share it (R360). -/
def Dev.blockSet (d : Dev) (risen : List Nat) (b : Nat) : List Nat × Nat :=
  let fs := risen.filter fun f => f / 8 == b
  let top := fs.foldl (fun m f => max m (reactLevel (d.reactSet f))) 0
  let fs := fs.filter fun f => reactLevel (d.reactSet f) == top
  (fs, fs.foldl (fun r f => r ||| d.reactSet f) 0)

/-- Chip reset is asserted by a reaction, for 100 µs, or while CK_REF is absent (R23, R358). -/
def State.chipReset (s : State) : State :=
  s.enterReset.onDev fun d =>
    if d.pins.refHold then d else { d with pins := { d.pins with chipHold := true, cause := 4 } }

/-- One cycle of failing checks (R358 to R362). -/
def State.faultCycle (s : State) (xs : List FaultSig) : State :=
  let st := s.dev.standingFaults.map (·.1)
  let fs := (xs.map (·.src)).eraseDups
  let risen := fs.filter fun f => !st.contains f
  let blocks := (fs.map (· / 8)).eraseDups
  let s := s.onDev fun d => blocks.foldl (fun d b => d.firstFault xs b) (risen.foldl (fun d f => d.stickyRise xs f) (xs.foldl Dev.faultMark d))
  -- an uncorrectable bundle of a safe tail halts the engine (R141)
  let s := s.onDev fun d => xs.foldl (fun d x => if 16 ≤ x.src ∧ x.src < 112 ∧ x.src % 8 = 5 then d.tailFail ((x.page - pEng 0) / 0x1000) else d) d
  let merged := blocks.filter s.dev.reacting
  let s := s.onDev fun d => merged.foldl (fun d b =>
    (if d.flag pFault (R.FAULT_BLK_MERGED b) then d else d.raiseEvt pFault 1).setFld pFault (R.FAULT_BLK_MERGED b) 1) d
  let sets := (blocks.filter fun b => !merged.contains b).map fun b => (b, s.dev.blockSet risen b)
  if sets.any fun x => x.2.2.testBit 4 then
    let errn := sets.any fun x => x.2.2.testBit 4 && x.2.2.testBit 1
    (if errn then s.onDev fun d => d.setFld pFault R.FAULT_STAT_ERR_N 1 else s).chipReset
  else
    sets.foldl (fun s x => x.2.1.foldl (fun s f => s.react xs x.1 f (if x.2.1.length ≤ 1 then x.2.2 else s.dev.reactSet f ||| (x.2.2 &&& 3))) s) s

/-- Reactions that have ended leave the list (R359), and ACTIVE shows the rest. -/
def Dev.endReactions (d : Dev) : Dev :=
  let l := d.fault.progress.filter fun p =>
    p.engines.any (fun e => d.engState e == 2) || (match p.page with
      | some pg => d.resets.contains pg
      | none => false)
  let bs := d.fault.progress.map (·.blk)
  let d := { d with fault := { d.fault with progress := l } }
  bs.foldl (fun d b => d.setFlag pFault (R.FAULT_BLK_ACTIVE b) (d.reacting b)) d

/-- Cycles of failing checks until none is left. -/
def State.faultCycles : Nat → State → State
  | 0, s => s
  | n + 1, s =>
    let s := s.onDev Dev.relevel
    match s.dev.wires.faults with
    | [] => s
    | xs => State.faultCycles n (State.faultCycle (s.onDev fun d => { d with wires := { d.wires with faults := [] } }) xs)

/-! ### What follows -/

/-- Channels whose outgoing gate opens note it for the estimate of this frame (R112). -/
def Dev.noteGates (d o : Dev) : Dev :=
  if d.front.gates = o.front.gates then d
  else d.channels.foldl (fun d n => if d.outGates n then d.setCanc n { d.canceller n with gateSeen := true } else d) d

/-- A STATE record for each page whose REQ, EFF or DIVERGE changed from `o` (R322). -/
def Dev.sendStates (d o : Dev) (pgs : List Nat) : Dev :=
  pgs.foldl (fun d pg =>
    if (d.reg (pg + 0xC) &&& 0x1FF) == (o.reg (pg + 0xC) &&& 0x1FF) then d else d.sendState pg) d

/-- Everything tied to the counter's frame boundary runs once (R426), the frame that ends being accounted before the next begins
(log entry 44): the profile, frame time, the recorder's frame values, floors and cancellers, the noise account, haul and monitor, engines
and the counter sweep. -/
def Dev.boundaryWork (d : Dev) : Dev :=
  let d := { d with wires := { d.wires with boundary := false } }
  let d := (d.profileTake.timeBoundary).recFrame
  let d := d.channels.foldl (fun d n => (d.floorTake n).cancBoundary n) d
  (d.noiseBoundary.haulBoundary).monAge.engBoundary.obsSweep

/-- The end of a command that began with the device `o`. -/
def State.finish (o : Dev) (s : State) : State :=
  let s := if s.dev.wires.boundary then s.onDev Dev.boundaryWork else s
  let s := State.faultCycles 8 s
  if s.dev.pins.held then s.onDev fun d => { d with wires := .init }
  else
    let s := s.onDev fun d => ((d.endReactions).showStats).noteGates o
    let w := s.dev.wires
    let s := s.onDev fun d => d.sendStates o d.stirred
    let s := s.onDev fun d => if d.isMaster then d else (w.events.eraseDups).foldl Dev.sendEvent d
    let s := w.mail.foldl (fun s m => s.mailIn m.1 m.2) s
    let s := w.lost.foldl State.lostFrame s
    let s := s.drainFeeds.drainOut
    let s := s.onDev fun d => if d.frame.frame = o.frame.frame ∧ d.frame.hyper = o.frame.hyper then d else d.obsTime
    let s := if s.dev.wires.touched.isEmpty then s else s.msiAll
    s.onDev fun d => { d with wires := .init }

/-- The answer of every meaning: the next state, with the command settled. -/
def State.after (s : State) (f : State → State) : Host.Outcome State Fault Refusal := .next (State.finish s.dev (f s))

/-- The answer of a meaning that a device held in reset does not take (R12, R403). -/
def State.afterLive (s : State) (f : State → State) : Host.Outcome State Fault Refusal :=
  if s.dev.pins.held then .next s else s.after f

/-- The answer of a meaning inside the device that a device held in reset does not take. -/
def State.afterDev (s : State) (f : Dev → Dev) : Host.Outcome State Fault Refusal := s.afterLive fun s => s.onDev f

/-- The answer of a meaning that takes the running device and its host side: one in reset, or without its clocks yet, takes nothing
(R12, R416). -/
def State.afterRun (s : State) (f : State → State) : Host.Outcome State Fault Refusal :=
  if s.dev.reachable then s.after f else .next s

/-- The answer of a meaning inside the running device. -/
def State.afterTick (s : State) (f : Dev → Dev) : Host.Outcome State Fault Refusal := s.afterRun fun s => s.onDev f

end Sys2Proof.Machine
end

