-- ==== Sys2Proof/Machine/Access.lean ====
section
/-! DEFINITION. Register reads over a path (R8 to R11, R28, R40, R331): what an address holds, the fields the block forms as they are
read, what a read clears, and the latches of a path. Paths are numbered 0 PCI Express, 1 SPI, 2 queue records, 3 + d DMA channel d. -/

namespace Sys2Proof.Machine

open Sys2Proof

/-! ### Paths -/

/-- The number of a host path. -/
def pathNo : HostPath → Nat
  | .pcie => 0
  | .spi => 1
  | .queue => 2

/-- The access state of path `n`. -/
def State.path (s : State) (n : Nat) : PathSt := mat .init s.dev.paths n

/-- Change the access state of path `n`. -/
def State.setPath (s : State) (n : Nat) (p : PathSt) : State :=
  s.onDev fun d => { d with paths := mput .init d.paths n p }

/-- Does the device answer path `n` (R328, R399, R419)? -/
def Dev.answers (d : Dev) (n : Nat) : Bool := d.reachable && (n != 0 || (d.pins.pcieUp && d.pins.perstN))

/-! ### Addresses -/

/-- The lower offset of the R9 pair that offset `off` of a block belongs to. -/
def pairLow (b : Blk) (off : Nat) : Option Nat :=
  let among (l : List Nat) : Option Nat := l.find? fun x => x == off || x + 4 == off
  match b with
  | .frame => among [0x54]
  | .ch => among [0x80, 0xE0]
  | .eng => among [0x48, 0x50]
  | .fe => if (0x3800 ≤ off ∧ off < 0x4000) ∨ (0x4000 ≤ off ∧ off < 0x4900) then some (off / 8 * 8) else none
  | .mon => among [0x94]
  | .qmgr => among [0x44]
  | .xlat => among [0x44, 0x50]
  | .dma => among [0x48, 0x50, 0x60, 0x74]
  | .recorder => among [0x48, 0x5C]
  | .obs => if 0x1000 ≤ off then some (off / 8 * 8) else none
  | _ => none

/-- Is address `a` in the recorder's window onto its live copy (R386)? -/
def inRecWindow (a : Nat) : Bool := Nat.ble 0x3E1000 a && Nat.blt a 0x3F0000

/-- Is offset `off` of a page in the monitor's ring window (R258)? -/
def inMonWindow (b : Blk) (off : Nat) : Bool := b == .mon && Nat.ble 0x8000 off

/-- The row of a page at offset `off` of instance `i`: the registers of the whole cascade stand in HAUL_UP alone, those of all bias
outputs in the page of output 0 (R303, R270); elsewhere those offsets are reserved. -/
def rowIn (p : PageDef) (i off : Nat) : Option RegRow :=
  if p.blk = .haul ∧ i ≠ 0 ∧ 0x100 ≤ off ∧ off < 0x400 then none
  else if p.blk = .bias ∧ i ≠ 0 ∧ 0x80 ≤ off then none
  else rowAt p off

/-- The bits of a row that a read shows (Table 00-4). -/
def RegRow.readable (r : RegRow) : Nat := r.rw ||| r.ro ||| r.w1c ||| r.w1s ||| r.rc ||| r.rwc

/-! ### Fields formed as they are read -/

/-- PG_CAP of a page (Table 15-3). -/
def pageCap (p : PageDef) (i : Nat) : Nat :=
  let n := if p.blk = .recorder then 16 else p.span / 0x1000
  n + (p.rows.any fun r => r.rwc != 0).toNat * 2 ^ 8 + (canClaim p.blk).toNat * 2 ^ 9 + (fixedEn p.blk).toNat * 2 ^ 10 +
    firstSource p.blk i * 2 ^ 16

/-- Does a shadow field of the page differ from its effective value (Table 15-3)? -/
def Dev.shadowPending (d : Dev) (p : PageDef) (pg : Nat) : Bool :=
  ((spanOf d.regs pg (pg + p.span) ++ spanOf d.shadow pg (pg + p.span)).map (·.1)).any fun a =>
    (d.reg a &&& rwcMask a) != (d.shadowReg a &&& rwcMask a)

/-- The levels of GPIO pins from `lo` up to `hi`, as bits from 0. -/
def Dev.gpioWord (d : Dev) (lo hi : Nat) : Nat :=
  (List.range (hi - lo)).foldl (fun n i => if d.gpioLevel (lo + i) then n + 2 ^ i else n) 0

/-- Back-off seconds left, as a 16-bit field. -/
def Dev.backoffField (d : Dev) (k : Nat) : Nat := min (d.backoffLeft k) 0xFFFF

/-- The word of the trace ring at offset `off` of an ENG page (R147): the quarter that QTR selects. -/
def Dev.traceWord (d : Dev) (e off : Nat) : Nat :=
  let k := d.fld (pEng e) R.ENG_TRACE_CTL_QTR * 128 + (off - 0x800) / 16
  (mat 0 (d.engine e).trace k).toNat / 2 ^ (8 * (off % 16)) % 2 ^ 32

/-- The word at offset `off` of a page whose fields the block forms as they are read, where there is one. -/
def State.formed (s : State) (p : PageDef) (pg off : Nat) : Option Nat :=
  let d := s.dev
  let i := instOf p pg
  let w := (d.reg (pg + off)).toNat
  if off = 0 then some (p.typ * 2 ^ 24 + i * 2 ^ 12 + (Config.blockRev p.typ).toNat)
  else if off = 4 then some (pageCap p i)
  else if off = 0xC then some (w + (d.shadowPending p pg).toNat * 2 ^ 10)
  else if off = 0x18 then some (d.reg (pg + 0x10)).toNat
  else match p.blk with
    | .dev => if off = 0x50 then some (Config.uid.toNat % 2 ^ 32) else if off = 0x54 then some (Config.uid.toNat / 2 ^ 32) else none
    | .frame =>
      if off = 0x54 then some (d.frame.tick + d.frame.frame % 512 * 2 ^ 23)
      else if off = 0x58 then some (d.frame.frame / 512 + d.frame.hyper * 2) else none
    | .eng => if 0x800 ≤ off then some (d.traceWord i off) else none
    | .bias => if off = 0x48 then some (w / 2 ^ 16 * 2 ^ 16 + d.biasCode i) else none
    | .fe => if off = 0x20C8 then some (d.gpioWord 0 32) else if off = 0x20CC then some (d.gpioWord 32 48) else none
    | .prot =>
      if off = 0x74 then some (d.backoffField 192 + d.backoffField 193 * 2 ^ 16)
      else if off = 0x78 then some (d.backoffField 194)
      else if 0x400 ≤ off ∧ off % 8 = 0 ∧ off < 0xA00 then some (w % 2 ^ 16 + d.backoffField ((off - 0x400) / 8) * 2 ^ 16)
      else none
    | .qmgr => if off = 0x58 then some (w / 2 * 2 + d.qmRuns.toNat) else none
    | .xlat => if 0x60 ≤ off ∧ off < 0x70 then some (s.fifoWord ((off - 0x60) / 4)).toNat else none
    | .irq =>
      if off = 0x44 then some (w + d.irqN.toNat * 4)
      else if 0x100 ≤ off ∧ off < 0x180 then some (d.grpPend ((off - 0x100) / 4)) else none
    | .fault =>
      if off = 0x40 then some d.faultStat.toNat
      else if 0x80 ≤ off ∧ off < 0xA0 then some (d.stickyWord ((off - 0x80) / 4)) else none
    | .obs =>
      if 0x1000 ≤ off then
        let v := d.perfAt ((off - 0x1000) / 8)
        some (if off % 8 = 0 then v % 2 ^ 32 else v / 2 ^ 32)
      else none
    | _ => none

/-- The live word at offset `off` of the page at `pg`: RWC fields read the shadow, WO fields zero (Table 00-4). -/
def State.live (s : State) (p : PageDef) (pg off : Nat) : Word :=
  match rowIn p (instOf p pg) off with
  | none => 0
  | some r =>
    match s.formed p pg off with
    | some v => BitVec.ofNat 32 v
    | none =>
      let m := if inSetWindow p.blk off then 0 else BitVec.ofNat 32 r.rwc
      let a := pg + off
      ((s.dev.reg a &&& ~~~ m) ||| (s.dev.shadowReg a &&& m)) &&& BitVec.ofNat 32 r.readable

/-! ### The frame event table (R40) -/

/-- The staging copy of entry `n`: what its lower words hold until they are staged. -/
def Dev.staged (d : Dev) (n : Nat) : BitVec 96 :=
  mget (fun k => (mat 0 d.frame.events k).setWidth 96) d.frame.staging n

/-- Read word `w` of entry `n` on path `k`. -/
def State.entryWord (s : State) (k n w : Nat) : State × Word :=
  let e := mat 0 s.dev.frame.events n
  if w = 0 then (s.setPath k { s.path k with entry := some (n, (e >>> 32).setWidth 96) }, e.setWidth 32)
  else
    match (s.path k).entry with
    | some (m, l) => if m = n then (s, (l >>> (32 * (w - 1))).setWidth 32) else (s, (e >>> (32 * w)).setWidth 32)
    | none => (s, (e >>> (32 * w)).setWidth 32)

/-- Write one of the three lower words of entry `n` to its staging copy. -/
def Dev.entryStage (d : Dev) (n w : Nat) (x : Word) : Dev :=
  let keep : BitVec 96 := ~~~ ((0xFFFFFFFF : BitVec 96) <<< (32 * w))
  let v := (d.staged n &&& keep) ||| (x.setWidth 96 <<< (32 * w))
  { d with frame := { d.frame with staging := mset (fun k => (mat 0 d.frame.events k).setWidth 96) d.frame.staging n v } }

/-- Write the word at +0xC of entry `n`: the whole entry takes effect. -/
def Dev.entryTop (d : Dev) (n : Nat) (x : Word) : Dev :=
  let e : BitVec 128 := (d.staged n).setWidth 128 ||| (x.setWidth 128 <<< 96)
  { d with frame := { d.frame with staging := mdel d.frame.staging n, events := mput 0 d.frame.events n e } }

/-! ### Reads -/

/-- A refused access at address `a`: it is counted, and a read returns zero (R8, R28). -/
def State.badRead (s : State) (a : Nat) : State × Word := (s.onDev fun d => d.badAcc a, 0)

/-- Read the aligned register at address `a` on path `k`, with what the read clears, removes or latches. -/
def State.readReg (s : State) (k a : Nat) : State × Word :=
  if 0x4000000 ≤ a then s.badRead a
  else if inEventWindow a then s.entryWord k ((a - 0x80000) / 16) (a / 4 % 4)
  else if inRecWindow a then
    let r := s.dev.recWindow (a - 0x3E1000)
    (s.onDev fun _ => r.1, r.2)
  else match pageDefAt a with
    | none => s.badRead a
    | some p =>
      let off := offOf p a
      let pg := a - off
      if inMonWindow p.blk off then
        (s, mat 0 s.dev.mon.ring ((s.dev.fld pMon R.MON_RING_CTL_HALF * 0x8000 + (off - 0x8000)) / 4))
      else match rowIn p (instOf p pg) off with
        | none => (s, 0)
        | some r =>
          let v := s.live p pg off
          match pairLow p.blk off with
          | some lo =>
            if off = lo then (s.setPath k { s.path k with latch := some (a, s.live p pg (lo + 4)) }, v)
            else (s, match (s.path k).latch with
              | some (b, x) => if b = pg + lo then x else v
              | none => v)
          | none =>
            let s := if r.rc = 0 then s else s.onDev fun d => d.setReg a (d.reg a &&& ~~~ BitVec.ofNat 32 r.rc)
            (if p.blk = .xlat ∧ off = 0x6C then s.fifoPop else s, v)

/-- Note on path `k` how an access went: the word read, and whether it was counted bad. -/
def State.notePath (s : State) (k : Nat) (w : Word) : State :=
  s.setPath k { s.path k with rd := w, bad := s.dev.wires.bad }

/-- No bad access has been counted yet in this access. -/
def Dev.freshAcc (d : Dev) : Dev := { d with wires := { d.wires with bad := false } }

/-- A read of `n` bytes at address `a` over path `k` (R8). -/
def State.busRead (s : State) (k a n : Nat) : State × Word :=
  let s := s.onDev Dev.freshAcc
  let r := if n ≠ 4 ∨ a % 4 ≠ 0 then s.badRead a else s.readReg k a
  (r.1.notePath k r.2, r.2)

end Sys2Proof.Machine
end

