-- ==== Sys2Proof/Machine/RegWrite.lean ====
section
/-! DEFINITION. Register writes over a path (R8 to R11, R28, R331 to R338): the access codes, staging of R9 pairs, and what each
register with an effect of its own sets going. -/

namespace Sys2Proof.Machine

open Sys2Proof

/-! ### The access codes (Table 00-4) -/

/-- Store the bits of `w` that the row's codes store: RW and RWC take them, W1C clears; W1S and WO bits act elsewhere. -/
def Dev.storeReg (d : Dev) (r : RegRow) (a : Nat) (w : Word) : Dev :=
  let rw := BitVec.ofNat 32 r.rw
  let rwc := BitVec.ofNat 32 r.rwc
  let d := d.setReg a (((d.reg a &&& ~~~ rw) ||| (w &&& rw)) &&& ~~~ (w &&& BitVec.ofNat 32 r.w1c))
  if r.rwc = 0 then d else d.setShadow a ((d.shadowReg a &&& ~~~ rwc) ||| (w &&& rwc))

/-! ### The page header (R332 to R338, R364) -/

/-- PG_CTL has been written: COMMIT_AT_EVENT = 0 disarms the page, SOFT_RST resets it, COMMIT commits or arms it. -/
def State.ctlWritten (s : State) (pg : Nat) (w : Word) : State :=
  let s := if w.getLsbD 3 then s else s.onDev fun d => d.setFld pg R.PG_CTL_ARMED 0
  let s := if w.getLsbD 1 then s.softReset pg else s
  if w.getLsbD 2 then s.onDev fun d => d.commitWrite pg else s

/-- The PG_EVT bits a page has: Table 01-17 names those of a channel (R429). -/
def evtMask (b : Blk) : Nat := if b = .ch then 0x8000003F else 0xFFFFFFFF

/-- PG_EVT_SET has been written: each bit rises as if its event had occurred (R332). -/
def Dev.evtSet (d : Dev) (b : Blk) (pg w : Nat) : Dev :=
  ((List.range 32).filter (w &&& evtMask b).testBit).foldl (fun d i => d.raiseEvt pg i) d

/-- PG_FLT_INJ is written: a checker the page lacks is ignored and counted; any write clears DONE (R364). -/
def Dev.injectWrite (d : Dev) (p : PageDef) (pg : Nat) (w : Word) : Dev :=
  let d := d.setFld pg R.PG_FLT_INJ_DONE 0
  if checkers p.blk ≤ R.PG_FLT_INJ_CHK.get w then d.badAcc (pg + 0x20)
  else d.setReg (pg + 0x20) (w &&& 0x7F)

/-- The groups of both event sources of a page may have become pending. -/
def Dev.touchPage (d : Dev) (p : PageDef) (pg : Nat) : Dev :=
  let f := firstSource p.blk (instOf p pg)
  (d.touch (f / 32)).touch ((f + 1) / 32)

/-! ### Fault collection (R358, R362, R363) -/

/-- ERR_ACK: refused and counted while a fault whose reactions include ERR_N stands (R358). -/
def Dev.errAck (d : Dev) : Dev :=
  if d.standingFaults.any fun x => (d.reactSet x.1).testBit 1 then d.bump pFault R.FAULT_CNT_X_ACK_REF
  else d.setFld pFault R.FAULT_STAT_ERR_N 0

/-- FAULT_STICKY word `w`: a 1 clears the source in every page it covers (R363). -/
def Dev.stickyClear (d : Dev) (w bits : Nat) : Dev :=
  (d.standingFaults.filter fun x => x.1 / 32 == w && bits.testBit (x.1 % 32)).foldl (fun d x =>
    match faultRow x.1 with
    | some r => (d.setFld x.2 (R.PG_FLT_FLT.bit r.bit) 0).stir x.2
    | none => d) d

/-- FAULT_BLK(b).VALID: a 1 clears the record (R362). -/
def Dev.recordClear (d : Dev) (b : Nat) : Dev :=
  let a := pFault + (R.FAULT_BLK_VALID b).off
  (d.setReg a (d.reg a &&& (R.FAULT_BLK_ACTIVE b).mask)).setReg (a + 4) 0

/-! ### Protection, cascade, DMA (R184, R284, R304, R345 to R348) -/

/-- PROT_CLR (R184). -/
def Dev.protClear (d : Dev) (w : Word) : Dev :=
  let d := if R.PROT_CLR_CH_EN.get w = 1 ∧ R.PROT_CLR_CH.get w < 192 then d.clearChannel (R.PROT_CLR_CH.get w) else d
  let d := if R.PROT_CLR_ALL_CH.get w = 1 then (List.range 192).foldl Dev.clearChannel d else d
  let d := if R.PROT_CLR_DL.get w = 1 then d.clearDir false else d
  let d := if R.PROT_CLR_UL.get w = 1 then d.clearDir true else d
  if R.PROT_CLR_DEV.get w = 1 then d.clearDevice else d

/-- ENUM is set, with what it ends in the queue manager (R284, R325). -/
def State.enumGo (s : State) (keep : Bool) : State :=
  let ok := s.dev.isMaster && !s.dev.casc.enumBusy
  let s := s.onDev fun d => d.enumStart keep
  if ok && s.dev.qmRuns then s.enumAnswers else s

/-- DMA_CTL has been written: GO, RESUME and ABORT; the last two together are refused. -/
def State.dmaCtl (s : State) (c : Nat) (w : Word) : State :=
  let s := if w.getLsbD 0 then s.dmaGo c else s
  if w.getLsbD 1 && w.getLsbD 2 then s.onDev fun d => d.badAcc (pDma c + 0x40)
  else if w.getLsbD 1 then s.dmaResume c
  else if w.getLsbD 2 then s.dmaAbort c
  else s

/-! ### Interrupts (R352) -/

/-- IRQ_ACK re-arms vector `v`; a vector still pending sends its next message at once. -/
def Dev.irqAck (d : Dev) (v : Nat) : Dev := (d.setFld pIrq (fArmed v) 1).touch 0

/-- IRQ_GRP_CFG: a write of VEC = 0 is ignored and counted. -/
def Dev.grpCfg (d : Dev) (r : RegRow) (a : Nat) (w : Word) : Dev :=
  if w &&& 0x3F = 0 then d.badAcc a else (d.storeReg r a w).touch 0

/-! ### The recorder (R376, R380 to R382) -/

/-- REC_CTL has been written: FLUSH, CLEAR and ADOPT, with the scope of the same write. -/
def Dev.recCtl (d : Dev) (w : Word) : Dev :=
  let scope := R.REC_CTL_SCOPE.get w
  let d := if w.getLsbD 0 then d.requestFlush 2 0 else d
  let d := if w.getLsbD 1 then d.recClear scope else d
  if w.getLsbD 2 then d.recAdopt scope else d

/-! ### Calibration (R209, R214 to R216) -/

/-- CAL_CTL has been written; `frozen` is FREEZE_SETS before. -/
def Dev.calCtl (d : Dev) (frozen : Bool) (w : Word) : Dev :=
  let d := if w.getLsbD 0 then d.calBegin 1 else d
  let d := if w.getLsbD 1 then d.calBegin 2 else d
  let d := if w.getLsbD 2 then d.calBegin 3 else d
  let d := if w.getLsbD 3 then d.calAbortReq else d
  if w.getLsbD 4 = frozen then d else d.freezeSets (w.getLsbD 4)

/-! ### What a stored write sets going -/

/-- What follows inside the device once a write of `w` at offset `off` has been stored, from the device `o` before it. -/
def Dev.regWritten (d o : Dev) (p : PageDef) (pg off : Nat) (w : Word) : Dev :=
  let i := instOf p pg
  let n := w.toNat
  match p.blk with
  | .ch =>
    if off = 0xC4 then d.requestSwap i (R.CH_FIR_SWAP_BANK.get w) (R.CH_FIR_SWAP_K.get w)
    else if off = 0x39C then d.glUl i (w.getLsbD 0) (w.getLsbD 1)
    else d
  | .eng =>
    if off = 0x44 then
      let d := if w.getLsbD 0 then d.verify i else d
      let d := if w.getLsbD 1 then d.engRestart i else d
      if w.getLsbD 2 then d.invalidate i else d
    else d
  | .syn => if off = 0x40 && w.getLsbD 1 then d.synRecal i else d
  | .cal => if off = 0x40 then d.calCtl (o.flag pCal R.CAL_CTL_FREEZE_SETS) w else d
  | .fe =>
    if off < 0x80 then
      let g := (off - 0x40) / 16
      if off % 16 = 0 then d.setGrp g { d.grp g with marked := true } else d
    else if 0x1000 ≤ off ∧ off < 0x1400 ∧ off % 256 = 4 ∧ w.getLsbD 31 = true ∧ (R.FE_RFFE_CMD_KIND 0).get w < 6 then
      let m := (off - 0x1000) / 256
      d.rffeHost m ((R.FE_RFFE_CMD_KIND m).get w) ((R.FE_RFFE_CMD_N m).get w) ((R.FE_RFFE_CMD_USID m).get w)
        ((R.FE_RFFE_CMD_ADDR m).get w) (d.fld pFe (R.FE_RFFE_DATA_DATA m))
    else d
  | .mon => if off = 0x48 && w.getLsbD 31 then d.monTrigger (R.MON_CONV_CONV.get w) (R.MON_CONV_KIND.get w) else d
  | .bias =>
    if off = 0x80 then ((List.range 4).filter n.testBit).foldl (fun d g => d.biasStrobe g 0) d
    else if off = 0x48 && w.getLsbD 17 then d.levelOff 131 pg
    else d
  | .therm => if off = 0x54 then d.thermClear (R.THERM_CLR_EXT.get w) else d
  | .prot => if off = 0x7C then d.protClear w else d
  | .irq =>
    if off = 0x48 then d.irqAck (R.IRQ_ACK_VEC.get w)
    else if off = 0x44 then d
    else d.touch 0
  | .fault =>
    if off = 0x44 && w.getLsbD 0 then d.errAck
    else if 0x80 ≤ off ∧ off < 0xA0 then d.stickyClear ((off - 0x80) / 4) n
    else if 0x100 ≤ off ∧ off < 0x200 ∧ off % 8 = 0 ∧ w.getLsbD 31 = true then d.recordClear ((off - 0x100) / 8)
    else d
  | .recorder => if off = 0x40 then d.recCtl w else if off = 0x70 then d.hostInc (R.REC_HOST_INC_CTR.get w) else d
  | .obs =>
    if off = 0x5C then
      let d := d.perfFreeze (w.getLsbD 0)
      if w.getLsbD 1 then d.perfClear else d
    else d
  | _ => d

/-- What follows on the host-memory side and in the cascade. -/
def State.regWrittenHost (s : State) (o : Dev) (p : PageDef) (pg off : Nat) (w : Word) : State :=
  let i := instOf p pg
  match p.blk with
  | .haul =>
    if off = 0x100 then
      let s := if w.getLsbD 1 then s.enumGo (w.getLsbD 2) else s
      if w.getLsbD 3 then s.onDev Dev.syncStart else s
    else s
  | .qmgr => if off = 0x50 then s.doorbell (R.QMGR_DOORBELL_QUEUE.get w) else s
  | .xlat => if off = 0x58 && w.getLsbD 31 then s.xinv (R.XLAT_INV_CTL_SIZE.get w) (w.getLsbD 8) else s
  | .dma =>
    if off = 0x40 then s.dmaCtl i w
    else if off = 0x70 then s.dmaFeed i w
    else if off = 0x88 && o.flag pg R.DMA_SNAP_RUN && !w.getLsbD 12 then s.snapFlush i
    else s
  | _ => s

/-- Put `w` into the register at offset `off` of the page at `pg`, whose row is `r`. -/
def State.putReg (s : State) (p : PageDef) (r : RegRow) (pg off : Nat) (w : Word) : State :=
  let a := pg + off
  if off = 0x20 then s.onDev fun d => d.injectWrite p pg w
  else if inSetWindow p.blk off then s.onDev fun d => d.setWindow (off - 0x1000) w
  else if p.blk = .ch ∧ off = 0xC8 then
    s.onDev fun d => d.writeTaps (instOf p pg) (R.CH_FIR_NTAPS_NTAPS_A.get w) (R.CH_FIR_NTAPS_NTAPS_B.get w)
  else if p.blk = .ch ∧ 0x100 ≤ off ∧ off < 0x300 then
    s.onDev fun d => d.writeCoef (instOf p pg) ((off - 0x100) / 0x100) (off % 0x100 / 4) (w.toNat % 2 ^ 18)
  else if p.blk = .irq ∧ 0x80 ≤ off ∧ off < 0x100 then s.onDev fun d => d.grpCfg r a w
  else if p.blk = .fault ∧ 0x400 ≤ off ∧ off < 0x800 then
    let f := (off - 0x400) / 4
    if (faultRow f).isNone then s
    else s.onDev fun d => d.storeReg r a (w ||| BitVec.ofNat 32 (d.fld pFault (R.FAULT_REACT_FIXED f)))
  else if p.blk = .fault ∧ (off = 0x44 ∨ (0x80 ≤ off ∧ off < 0x200)) then s.onDev fun d => d.regWritten d p pg off w
  else
    let o := s.dev
    let s := s.onDev fun d => d.storeReg r a w
    if off = 8 then s.ctlWritten pg w
    else if off = 0x14 then s.onDev fun d => d.touchPage p pg
    else if off = 0x18 then s.onDev fun d => d.evtSet p.blk pg w.toNat
    else if off = 0x1C then s.onDev fun d => d.stir pg
    else if off < 0x40 then s
    else if p.blk = .recorder ∧ 0x80 ≤ off ∧ off < 0xA0 then s.onDev fun d => d.setReg a w
    else (s.onDev fun d => d.regWritten o p pg off w).regWrittenHost o p pg off w

/-! ### Writes over a path -/

/-- Write the aligned register at address `a` on path `k`: refused addresses and registers a write cannot change are counted, reserved
offsets ignored (R10, R11, R28), registers that stand in another instance alone are refused (R270, R312), pages under a block reset refuse their block registers (R338), lower halves of pairs are staged. -/
def State.writeReg (s : State) (k a : Nat) (w : Word) : State :=
  let bad := s.onDev fun d => d.badAcc a
  if 0x4000000 ≤ a then bad
  else if inEventWindow a then
    let n := (a - 0x80000) / 16
    s.onDev fun d => if a / 4 % 4 = 3 then d.entryTop n w else d.entryStage n (a / 4 % 4) w
  else if inRecWindow a then bad
  else match pageDefAt a with
    | none => bad
    | some p =>
      let off := offOf p a
      let pg := a - off
      if inMonWindow p.blk off then bad
      else if decide (0x40 ≤ off) && s.dev.resets.contains pg then bad
      else match rowIn p (instOf p pg) off with
        | none => if (rowAt p off).isSome then bad else s
        | some r =>
          if r.readable ||| r.wo = 0 then s
          else if r.writable = 0 then bad
          else match pairLow p.blk off with
            | none => s.putReg p r pg off w
            | some lo =>
              if off = lo then s.setPath k { s.path k with stage := some (a, w) }
              else
                match (s.path k).stage with
                | some (b, x) =>
                  if b = pg + lo then
                    let s := s.setPath k { s.path k with stage := none }
                    let s := match rowIn p (instOf p pg) lo with
                      | some q => s.putReg p q pg lo x
                      | none => s
                    s.putReg p r pg off w
                  else s.putReg p r pg off w
                | none => s.putReg p r pg off w

/-- A write of `n` bytes at address `a` over path `k` (R8). -/
def State.busWrite (s : State) (k a n : Nat) (w : Word) : State :=
  let s := s.onDev Dev.freshAcc
  let s := if n ≠ 4 ∨ a % 4 ≠ 0 then s.onDev fun d => d.badAcc a else s.writeReg k a w
  s.notePath k (s.path k).rd

/-- Would R8 or R28 reject an access of `n` bytes at address `a`? -/
def accessBad (a n : Nat) : Bool :=
  decide (n ≠ 4 ∨ a % 4 ≠ 0) || decide (0x4000000 ≤ a) || !(inEventWindow a || inRecWindow a || (pageDefAt a).isSome)

/-! ### Commands that are a register's write -/

/-- A host that reaches the device writes `w` to address `a`, over whichever path (R331). -/
def State.poke (s : State) (a w : Nat) : State := if s.dev.reachable then s.writeReg 2 a (BitVec.ofNat 32 w) else s

/-- A host writes the register at address `a` as it reads, but for the bits of `clear`, with those of `bits` set. -/
def State.strobe (s : State) (a clear bits : Nat) : State :=
  match pageDefAt a with
  | none => s
  | some p =>
    match rowAt p (offOf p a) with
    | none => s
    | some r =>
      let k := (s.live p (a - offOf p a) (offOf p a)).toNat &&& (r.rw ||| r.rwc)
      s.poke a ((k - (k &&& clear)) ||| bits)

end Sys2Proof.Machine
end

