-- ==== Sys2Proof/Machine/DmaBeat.lean ====
section
/-! DEFINITION. DMA beats (R345 to R349): which channel is granted the next beat, the beat of a transfer, the fetch of a chained descriptor,
and the ring records of the clients that never stall. -/

namespace Sys2Proof.Machine

open Sys2Proof

/-! ### Local memories (Table 15-11) -/

/-- A word with byte `i` replaced. -/
def putByte (w : Word) (i b : Nat) : Word :=
  (w &&& ~~~ ((0xFF : Word) <<< (8 * i))) ||| (BitVec.ofNat 32 (b % 256) <<< (8 * i))

/-- The byte at address `a` of bench `b`'s memory. -/
def Dev.benchByte (d : Dev) (b a : Nat) : Nat := (mat 0 (mat [] d.bench b) (a / 4)).toNat / 256 ^ (a % 4) % 256

/-- Write bytes at rising addresses of bench `b`'s memory. -/
def Dev.benchBytes (d : Dev) (b a : Nat) (bs : List Nat) : Dev :=
  let m := (bs.zipIdx a).foldl (fun (m : SMap Word) x => mupd 0 m (x.2 / 4) fun w => putByte w (x.2 % 4) x.1) (mat [] d.bench b)
  { d with bench := mput [] d.bench b m }

/-- Write bytes at rising addresses of engine `e`'s image port (R134). -/
def Dev.imageBytes (d : Dev) (e a : Nat) (bs : List Nat) : Dev :=
  (bs.zipIdx a).foldl (fun d x => d.imagePort e x.2 (putByte (mat 0 (d.shadowImg e) (x.2 / 4)) (x.2 % 4) x.1)) d

/-- Read `n` bytes of the register space from address `a`, as accesses of 32 bits (R345); `fuel` bounds them. -/
def State.regBytes (s : State) (k : Nat) : Nat → Nat → Nat → State × List Nat
  | 0, _, _ => (s, [])
  | fuel + 1, a, n =>
    if n = 0 then (s, [])
    else
      let m := min n 4
      let r := s.busRead k a m
      let t := State.regBytes r.1 k fuel (a + 4) (n - m)
      (t.1, le m r.2.toNat ++ t.2)

/-- Write bytes to the register space from address `a`, as accesses of 32 bits; a refused one is counted and the rest goes on
(R345). -/
def State.regStore (s : State) (k : Nat) : Nat → Nat → List Nat → State
  | 0, _, _ => s
  | fuel + 1, a, bs =>
    if bs.isEmpty then s
    else State.regStore (s.busWrite k a (min bs.length 4) (BitVec.ofNat 32 (bytesNum bs 0 4))) k fuel (a + 4) (bs.drop 4)

/-! ### The beat of a transfer (R346, R348) -/

/-- Bytes of the next beat of channel `c`: to the next 64-byte boundary of the destination. -/
def Dev.beatBytes (d : Dev) (c : Nat) : Nat :=
  let done := d.fld (pDma c) R.DMA_DONE_BYTES_BYTES
  min (64 - (d.dmaDst c + done) % 64) (d.fld (pDma c) R.DMA_LEN_LEN - done)

/-- Can the next beat of DESC channel `c` be issued now: a fetch, or data that is there (R345)? -/
def State.beatReady (s : State) (c : Nat) : Bool :=
  (s.dmaSt c).chain || dmaRegion (s.dev.dmaSrc c) != .feed ||
    (let done := s.dev.fld (pDma c) R.DMA_DONE_BYTES_BYTES
     decide ((done % 4 + s.dev.beatBytes c + 3) / 4 ≤ (s.dmaSt c).feed.length))

/-- The bytes of a beat from its source; a host source has been translated to `p`. -/
def State.beatRead (s : State) (c p n : Nat) : State × List Nat :=
  let done := s.dev.fld (pDma c) R.DMA_DONE_BYTES_BYTES
  match dmaRegion (s.dev.dmaSrc c) with
  | .host _ => (s, le n (s.hostNum p n))
  | .regs a => s.regBytes (3 + c) 17 (a + done) n
  | .bench b a => (s.onDev fun d => d.perf (1152 + 4 * b + 3) 1, (List.range n).map fun i => s.dev.benchByte b (a + done + i))
  | .feed =>
    let x := s.dmaSt c
    let bs := ((x.feed.flatMap fun w => le 4 w.toNat).drop (done % 4)).take n
    ((s.setDma c { x with feed := x.feed.drop ((done % 4 + n) / 4) }).showFeed c, bs)
  | _ => (s, [])

/-- Write the bytes of a beat to its destination; a host destination has been translated to `p`. -/
def State.beatWrite (s : State) (c p : Nat) (bs : List Nat) : State :=
  let done := s.dev.fld (pDma c) R.DMA_DONE_BYTES_BYTES
  match dmaRegion (s.dev.dmaDst c) with
  | .host _ => s.hostStore p bs
  | .regs a => s.regStore (3 + c) 17 (a + done) bs
  | .image e a => s.onDev fun d => d.imageBytes e (a + done) bs
  | .bench b a => s.onDev fun d => (d.benchBytes b (a + done) bs).perf (1152 + 4 * b + 3) 1
  | _ => s

/-- Translate a side of a beat that lies in host memory; a local side needs none. -/
def State.beatSide (s : State) (c a : Nat) (write readOk : Bool) : State × Option Nat :=
  if 2 ^ 63 ≤ a then (s, some 0)
  else
    let t := s.translate a write readOk
    match t.2 with
    | .phys p => (t.1, some p)
    | .bad k addr walk => (t.1.xfault c k addr (t.1.dev.fld (pDma c) R.DMA_BEAT_BEAT) write walk, none)

/-- The transfer of channel `c` has written its last byte: its event, and the chained descriptor or DONE (R347). -/
def State.transferEnd (s : State) (c : Nat) : State :=
  let s := s.onDev fun d => if d.flag (pDma c) R.DMA_FLAGS_IRQ_DONE then d.raiseEvt (pDma c) 0 else d
  if s.dev.flag (pDma c) R.DMA_FLAGS_CHAIN then s.setDma c { s.dmaSt c with chain := true }
  else s.onDev fun d => d.setDmaState c 4

/-- One beat of channel `c`'s transfer: host sides are translated first, and the beat is written once (R346, R348). -/
def State.transferBeat (s : State) (c : Nat) (r : ReadResult) : State :=
  let done := s.dev.fld (pDma c) R.DMA_DONE_BYTES_BYTES
  let n := s.dev.beatBytes c
  let src := s.dev.dmaSrc c + done
  let a := s.beatSide c src false (r != .walkFailed)
  match a.2 with
  | none => a.1
  | some p =>
    let b := a.1.beatSide c (s.dev.dmaDst c + done) true (r != .walkFailed)
    match b.2 with
    | none => b.1
    | some q =>
      if r = .dataFailed ∧ src < 2 ^ 63 then b.1.xfault c 7 (src % 2 ^ 48) (b.1.dev.fld (pDma c) R.DMA_BEAT_BEAT) false false
      else
        let m := b.1.beatRead c p n
        let s := (m.1.beatWrite c q m.2).onDev fun d =>
          ((d.setFld (pDma c) R.DMA_BEAT_BEAT (d.fld (pDma c) R.DMA_BEAT_BEAT + 1)).setFld (pDma c) R.DMA_DONE_BYTES_BYTES (done + n)).perf (1312 + c) 1
        if done + n < s.dev.fld (pDma c) R.DMA_LEN_LEN then s else s.transferEnd c

/-! ### Chained descriptors (R347) -/

/-- Read `n` bytes of host memory at a device address for a descriptor fetch, page by page; `fuel` bounds the pages. -/
def State.fetchBytes (s : State) (c : Nat) (r : ReadResult) : Nat → Nat → Nat → State × Option (List Nat)
  | 0, _, _ => (s, some [])
  | fuel + 1, a, n =>
    if n = 0 then (s, some [])
    else
      let m := min n (4096 - a % 4096)
      let t := s.translate a false (r != .walkFailed)
      match t.2 with
      | .bad k addr walk => (t.1.xfault c k addr 0x3FFFFFF false walk, none)
      | .phys p =>
        if r = .dataFailed then (t.1.xfault c 7 (a % 2 ^ 48) 0x3FFFFFF false false, none)
        else
          let u := State.fetchBytes t.1 c r fuel (a + m) (n - m)
          (u.1, u.2.map fun l => le m (t.1.hostNum p m) ++ l)

/-- Load a descriptor's 32 bytes into the registers of channel `c`. -/
def Dev.loadDesc (d : Dev) (c : Nat) (bs : List Nat) : Dev :=
  let word (i : Nat) : Nat := bytesNum bs (4 * i) 4
  let d := ((d.setFld (pDma c) R.DMA_SRC_LO_SRC (word 0)).setFld (pDma c) R.DMA_SRC_HI_SRC (word 1))
  let d := ((d.setFld (pDma c) R.DMA_DST_LO_DST (word 2)).setFld (pDma c) R.DMA_DST_HI_DST (word 3))
  let d := (d.setFld (pDma c) R.DMA_LEN_LEN (word 4)).setFld (pDma c) R.DMA_FLAGS_CHAIN (word 5 % 2)
  let d := d.setFld (pDma c) R.DMA_FLAGS_IRQ_DONE (word 5 / 2 % 2)
  (d.setFld (pDma c) R.DMA_NEXT_LO_NEXT (word 6)).setFld (pDma c) R.DMA_NEXT_HI_NEXT (word 7)

/-- Channel `c` fetches the descriptor at DMA_NEXT and continues with it; one that GO would refuse ends in ERROR. -/
def State.chainFetch (s : State) (c : Nat) (r : ReadResult) : State :=
  let f := s.fetchBytes c r 2 (s.dev.pair (pDma c) R.DMA_NEXT_LO_NEXT R.DMA_NEXT_HI_NEXT) 32
  match f.2 with
  | none => f.1
  | some bs =>
    let s := (f.1.setDma c { f.1.dmaSt c with chain := false }).onDev fun d => (d.loadDesc c bs).perf (1312 + c) 1
    s.onDev fun d => if d.transferOk c then d.transferStart c else d.setDmaState c 6

/-! ### Ring records (R349) -/

/-- The device address the next record of channel `c`'s ring goes to. -/
def Dev.ringAt (d : Dev) (c : Nat) : Nat :=
  d.pair (pDma c) R.DMA_RING_BASE_LO_BASE R.DMA_RING_BASE_HI_BASE + d.fld (pDma c) R.DMA_RING_WR_OFS

/-- A record of `n` bytes has been written to channel `c`'s ring: the write offset moves, with events at the half and at the wrap. -/
def Dev.ringStep (d : Dev) (c n : Nat) : Dev :=
  let old := d.fld (pDma c) R.DMA_RING_WR_OFS
  let new := (old + n) % d.dmaRing c
  let d := d.setFld (pDma c) R.DMA_RING_WR_OFS new
  let d := if 2 * old < d.dmaRing c ∧ d.dmaRing c ≤ 2 * new then d.raiseEvt (pDma c) 2 else d
  if new < old then d.raiseEvt (pDma c) 3 else d

/-- One record of a ring client's channel is written, as one beat. -/
def State.ringBeat (s : State) (c : Nat) (r : ReadResult) : State :=
  match (s.dmaSt c).queue with
  | [] => s
  | (addr, bs) :: rest =>
    let mon := s.dev.dmaClient c == 1
    let t := s.translate (if mon then addr else s.dev.ringAt c) true (r != .walkFailed)
    match t.2 with
    | .bad k a walk => t.1.xfault c k a (t.1.dev.fld (pDma c) R.DMA_BEAT_BEAT) true walk
    | .phys p =>
      let s := (t.1.hostStore p bs).setDma c { t.1.dmaSt c with queue := rest }
      let s := s.onDev fun d => (if mon then d else d.ringStep c bs.length).perf (1312 + c) 1
      if rest.isEmpty then s.onDev fun d => d.setDmaState c 0 else s

/-! ### The grant (R347) -/

/-- Does channel `c` ask for a beat? -/
def State.wantsBeat (s : State) (c : Nat) : Bool :=
  s.dev.dmaOn c && !s.dev.dmaFaulted c &&
    (match s.dev.dmaClient c with
      | 0 => (s.dev.dmaState c == 1 || s.dev.dmaState c == 2) && s.beatReady c
      | 4 => false
      | _ => !(s.dmaSt c).queue.isEmpty)

/-- The channel granted the next beat: highest priority, equal ones in turn after the channel granted last. -/
def State.grant (s : State) : Option Nat :=
  let cs := (((List.range 16).map fun i => (s.host.turn + 1 + i) % 16)).filter s.wantsBeat
  let prio (c : Nat) : Nat := s.dev.fld (pDma c) R.DMA_CTL_PRIO
  cs.find? fun c => cs.all fun e => decide (prio c ≤ prio e)

/-- One beat: the granted channel runs it, and the others that asked show PREEMPTED. -/
def State.dmaBeat (s : State) (r : ReadResult) : State :=
  match s.grant with
  | none => s
  | some c =>
    let lost := (List.range 16).filter fun e => e != c && s.wantsBeat e
    let s := { s with host := { s.host with turn := c } }
    let s := s.onDev fun d => lost.foldl (fun d e => d.setDmaState e 2) (d.setDmaState c 1)
    if s.dev.dmaClient c ≠ 0 then s.ringBeat c r
    else if (s.dmaSt c).chain then s.chainFetch c r
    else s.transferBeat c r

end Sys2Proof.Machine
end

