-- ==== Sys2Proof/Machine/ActionOps.lean ====
section
/-! DEFINITION. Frame actions as they execute (Table 02-9), the issue queue (R42, R45, R46), and the RFFE bus (R238). -/

namespace Sys2Proof.Machine

open Sys2Proof

/-! ### Actions (Table 02-9) -/

/-- An action of code `a` executes (Table 18-3). -/
def Dev.acted (d : Dev) (a : Nat) : Dev := d.perf (1328 + a) 1

/-- The page of a type code and an instance (Table 01-16). -/
def pageAt (typ inst : Nat) : Option Nat :=
  (pageDefs.find? fun p => p.typ == typ && decide (inst < p.count)).map fun p => p.base + inst * p.span

/-- COMMIT: an armed page applies its shadow (R336). -/
def State.doCommit (s : State) (cls inst : Nat) : State :=
  match pageAt cls inst with
  | some pg => s.commitAct pg
  | none => s

/-- PATH_STATE: REQ of group `g`; a code of 7 or above changes nothing and is counted (R224). -/
def Dev.doPath (d : Dev) (g st : Nat) : Dev :=
  if 7 ≤ st then d.bump pFe (R.FE_PG_CNT_BADREQ g) else d.pathRequest g st false

/-- RFFE_WR: a timed write of table entry `idx` enters the queue of master `m` (R238). -/
def Dev.doRffe (d : Dev) (m usid addr data : Nat) (long : Bool) (idx : Nat) : Dev :=
  d.rffePush m { usid := usid, addr := addr, data := data, long := long, src := 0, grp := 0, idx := idx, undo := false }

/-- IMG_SWAP: an engine's swap, or a bench's, is armed (R143). -/
def Dev.doSwap (d : Dev) (cls inst : Nat) : Dev := if cls = 0x12 then d.benchSwap inst else d.swapArm inst

/-- What an action finds that its cancellation would restore (Table 02-9). -/
def Dev.prevOf (d : Dev) (e : Entry) : Nat :=
  match e.action with
  | 4 => d.grpReq e.inst
  | 6 =>
    match (d.gpio e.inst).drive with
    | none => 0
    | some b => 1 + b.toNat
  | 9 =>
    let c := d.convSt ((if e.cls = 0x20 then 0 else 8) + e.inst)
    (!c.asleep || c.waking).toNat
  | _ => 0

/-- The effect of an action of table entry `idx` (Table 02-9). -/
def State.doAction (s : State) (idx : Nat) (e : Entry) (allowed : Bool) : State :=
  let g (lo hi : Nat) : Nat := bitsOf e.arg hi lo
  match e.action with
  | 1 => s.doCommit e.cls e.inst
  | 2 => s.onDev fun d => d.gateOpenAct e.inst (g 0 3) allowed
  | 3 => s.onDev fun d => d.gateCloseAct e.inst (g 0 3)
  | 4 => s.onDev fun d => d.doPath e.inst (g 0 3)
  | 5 => s.onDev fun d => d.doRffe e.inst (g 0 3) (g 4 19) (g 20 27) (g 37 37 == 1) idx
  | 6 => s.onDev fun d => d.gpioDrive e.inst (g 0 0 == 1) (g 1 1 == 1)
  | 7 => s.onDev fun d => d.biasStrobe e.inst (idx + 1)
  | 8 => s.onDev fun d => d.biasRamp e.inst e.lead (idx + 1)
  | 9 => s.onDev fun d => d.convWake ((if e.cls = 0x20 then 0 else 8) + e.inst) (g 0 0 == 1)
  | 10 => s.onDev fun d => d.monTrigger e.inst (g 0 1)
  | 11 => s.onDev fun d => d.requestSwap e.inst (g 0 0) (g 1 4)
  | 12 => s.onDev fun d => d.doSwap e.cls e.inst
  | 13 => s.onDev fun d => d.cancFreeze e.inst true
  | 14 => s.onDev fun d => d.cancFreeze e.inst false
  | 15 => s.onDev fun d => d.sieveSync (g 0 15)
  | 16 => s.onDev fun d => d.raiseEvt pFrame 15
  | _ => s

/-- The head of the issue queue is issued once its issue time has come, at most 16 in a tick; late ones are counted, and a governed
action that the map does not allow is removed (R42, R45, R46). What runs ahead of its target stays pending (R48). -/
def State.issueNext (s : State) : State :=
  match s.dev.frame.queue with
  | [] => s
  | a :: rest =>
    let now := s.dev.now
    if now < a.issue ∨ 16 ≤ s.dev.frame.issuedNow then s
    else
      let s := s.onDev fun d => { d with frame := { d.frame with queue := rest } }
      let ok := s.dev.actAllowed a.ent a.target
      if !ok then s
      else
        let s := s.onDev fun d => { d with frame := { d.frame with issuedNow := d.frame.issuedNow + 1 } }
        let late := decide (a.issue < now ∧ a.issue ≤ s.dev.frame.lastNow)
        let s := if late then s.onDev fun d => d.bump pFrame R.FRAME_CNT_A_LATE else s
        let p : Act := { a with issued := true, prev := s.dev.prevOf a.ent,
                                visible := a.ent.action == 4 || a.ent.action == 6 || a.ent.action == 7 || a.ent.action == 8 }
        let s := (s.doAction a.idx a.ent ok).onDev fun d => d.acted a.ent.action
        if now < a.target then s.onDev fun d => { d with frame := { d.frame with pend := d.frame.pend ++ [p] } } else s

/-! ### The RFFE bus (R238) -/

/-- The first timed write of master `m` starts on an idle bus: an action's write becomes visible at its first SCLK edge. -/
def Dev.busStart (d : Dev) (m : Nat) : Dev :=
  let s := d.rffe m
  if s.run.isSome || s.hostRun then d
  else match s.queue with
    | [] => d
    | w :: rest =>
      let d := d.setRffe m { s with queue := rest, run := some w }
      if w.src = 0 ∧ w.undo = false then
        { d with frame := { d.frame with
          pend := d.frame.pend.map fun a => if a.ent.action = 5 ∧ a.ent.inst = m ∧ a.idx = w.idx then { a with visible := true } else a } }
      else d

/-- The command on the bus of master `m` ends: a timed write has reached its slave and completes its sequence step; a host command
answers (R234, R238, R239). -/
def Dev.busEnd (d : Dev) (m rd : Nat) (perr : Bool) : Dev :=
  let s := d.rffe m
  match s.run with
  | some w =>
    let d := d.setRffe m ({ s with run := none }.slaveWrite w.usid w.addr w.data 1)
    let again := s.queue.any fun x => x.src == 1 && x.grp == w.grp && x.idx == w.idx
    if w.src = 1 ∧ (d.grp w.grp).seqRun = some (w.idx / 8, w.idx % 8) ∧ again = false then d.seqAdvance w.grp true else d
  | none => if s.hostRun then d.rffeHostEnd m rd perr else d

end Sys2Proof.Machine
end

