-- ==== Sys2Proof/Machine/AccessExec.lean ====
section
/-! DEFINITION. Host accesses to registers (R8 to R12, R28, R40) and the SPI port (R330). -/

namespace Sys2Proof.Machine

open Sys2Proof

/-! ### Accesses over a path -/

/-- A read over `path`; a device that the path does not reach returns nothing. -/
def State.hostRead (s : State) (path : HostPath) (a n : Nat) : State :=
  if s.dev.answers (pathNo path) then (s.busRead (pathNo path) a n).1
  else s.onDev fun d => { d with paths := mput .init d.paths (pathNo path) { mat .init d.paths (pathNo path) with rd := 0xFFFFFFFF } }

/-- A write over `path`. -/
def State.hostWrite (s : State) (path : HostPath) (a n : Nat) (w : Word) : State :=
  if s.dev.answers (pathNo path) then s.busWrite (pathNo path) a n w else s

/-- The address of word `w` of event-table entry `n` (Table 01-16, R40). -/
def entryAddr (n w : Nat) : Nat := 0x80000 + 16 * n + 4 * w

/-- A register write (R10). -/
def execRegisterWrite (path : HostPath) (addr : BitVec 32) (bytes : Nat) (data : Word) (s : State) : Host.Outcome State Fault Refusal :=
  s.afterLive fun s => s.hostWrite path addr.toNat bytes data

/-- A read of a register with RC fields (R10). -/
def execReadClear (path : HostPath) (addr : BitVec 32) (s : State) : Host.Outcome State Fault Refusal :=
  s.afterLive fun s => s.hostRead path addr.toNat 4

/-- A read of the lower register of a pair (R9). -/
def execPairLowerRead (path : HostPath) (addr : BitVec 32) (s : State) : Host.Outcome State Fault Refusal :=
  s.afterLive fun s => s.hostRead path addr.toNat 4

/-- A read of the upper register of a pair (R9). -/
def execPairUpperRead (path : HostPath) (addr : BitVec 32) (s : State) : Host.Outcome State Fault Refusal :=
  s.afterLive fun s => s.hostRead path addr.toNat 4

/-- A write of the lower register of a pair (R9). -/
def execPairLowerWrite (path : HostPath) (addr : BitVec 32) (data : Word) (s : State) : Host.Outcome State Fault Refusal :=
  s.afterLive fun s => s.hostWrite path addr.toNat 4 data

/-- A write of the upper register of a pair (R9). -/
def execPairUpperWrite (path : HostPath) (addr : BitVec 32) (data : Word) (s : State) : Host.Outcome State Fault Refusal :=
  s.afterLive fun s => s.hostWrite path addr.toNat 4 data

/-- A write of one of the lower words of an event-table entry (R40). -/
def execEventEntryStageWrite (path : HostPath) (n : Fin 32768) (w : Fin 3) (data : Word) (s : State) : Host.Outcome State Fault Refusal :=
  s.afterLive fun s => s.hostWrite path (entryAddr n.val w.val) 4 data

/-- A write of the word at +0xC of an event-table entry (R40). -/
def execEventEntryTopWrite (path : HostPath) (n : Fin 32768) (data : Word) (s : State) : Host.Outcome State Fault Refusal :=
  s.afterLive fun s => s.hostWrite path (entryAddr n.val 3) 4 data

/-- A read of the word at +0x0 of an event-table entry (R40). -/
def execEventEntryLatchRead (path : HostPath) (n : Fin 32768) (s : State) : Host.Outcome State Fault Refusal :=
  s.afterLive fun s => s.hostRead path (entryAddr n.val 0) 4

/-- A read of another width or alignment, or of an address in no listed page (R8, R28). -/
def execBadAccessRead (path : HostPath) (addr : BitVec 32) (bytes : Nat) (s : State) : Host.Outcome State Fault Refusal :=
  s.afterLive fun s => s.hostRead path addr.toNat bytes

/-! ### The SPI port (R330) -/

/-- The address after `a` in a transaction: it wraps from 0x3FF_FFFC to 0. -/
def spiNext (a : Nat) : Nat := if a < 0x4000000 then (a + 4) % 0x4000000 else (a + 4) % 2 ^ 32

/-- A transaction with command `cmd` begins at address `a`. -/
def State.spiBegin (s : State) (cmd a : Nat) : State :=
  s.onDev fun d => { d with spi := { cmd := cmd, addr := a, ignored := false, partial' := false, active := true, out := [] } }

/-- Each complete word of a write is one access. -/
def State.spiWrite : List Word → State → State
  | [], s => s
  | w :: ws, s =>
    let a := s.dev.spi.addr
    let s := s.busWrite 1 a 4 w
    State.spiWrite ws (s.onDev fun d => { d with spi := { d.spi with addr := spiNext a } })

/-- Each word of a read: a token, then four bytes, least significant first. -/
def State.spiRead : Nat → State → State
  | 0, s => s
  | n + 1, s =>
    let a := s.dev.spi.addr
    let r := s.busRead 1 a 4
    State.spiRead n (r.1.onDev fun d =>
      { d with spi := { d.spi with addr := spiNext a, out := d.spi.out ++ 0xA5 :: le 4 r.2.toNat } })

/-- A write transaction; a register space that does not answer takes nothing. -/
def State.spiWrites (s : State) (cmd a : Nat) (ws : List Word) : State :=
  let s := s.spiBegin cmd a
  if s.dev.answers 1 then State.spiWrite ws s else s

/-- A read transaction; while the register space does not answer, every byte reads 0xFF (R419). -/
def State.spiReads (s : State) (cmd a n : Nat) : State :=
  let s := s.spiBegin cmd a
  if s.dev.answers 1 then State.spiRead n s
  else s.onDev fun d => { d with spi := { d.spi with out := List.replicate (5 * n) 0xFF } }

/-- The STATUS byte (Table 15-2). -/
def State.spiStatus (s : State) : Nat :=
  s.dev.irqN.toNat + 2 * (s.dev.flag pFault R.FAULT_STAT_ERR_N).toNat + 4 * (s.path 1).bad.toNat

/-- SPI_CS_N rises: a word cut short is discarded and counted. -/
def Dev.spiEnd (d : Dev) (inWord : Bool) : Dev :=
  let d := if inWord && d.spi.active && !d.spi.ignored && d.answers 1 then d.badAcc d.spi.addr else d
  { d with spi := { d.spi with active := false, ignored := false, partial' := inWord } }

/-- An undefined command: the rest of the transaction is ignored and counted once; it names no address, so LAST_PAGE is free. -/
def Dev.spiUndefined (d : Dev) (cmd : Nat) : Dev :=
  if [0x02, 0x03, 0x32, 0x6B, 0x05].contains cmd then d
  else
    let d := { d with spi := { cmd := cmd, addr := 0, ignored := true, partial' := false, active := true, out := [] } }
    if d.answers 1 then
      let f := d.freeBits 14
      f.2.badAcc (0x1000 * f.1)
    else d

/-- SPI WRITE. -/
def execWrite (addr : BitVec 32) (words : List Word) (s : State) : Host.Outcome State Fault Refusal :=
  s.afterLive fun s => s.spiWrites 0x02 addr.toNat words

/-- SPI READ. -/
def execRead (addr : BitVec 32) (n : Nat) (s : State) : Host.Outcome State Fault Refusal :=
  s.afterLive fun s => s.spiReads 0x03 addr.toNat n

/-- SPI QWRITE. -/
def execQwrite (addr : BitVec 32) (words : List Word) (s : State) : Host.Outcome State Fault Refusal :=
  s.afterLive fun s => s.spiWrites 0x32 addr.toNat words

/-- SPI QREAD. -/
def execQread (addr : BitVec 32) (n : Nat) (s : State) : Host.Outcome State Fault Refusal :=
  s.afterLive fun s => s.spiReads 0x6B addr.toNat n

/-- SPI STATUS. -/
def execStatus (s : State) : Host.Outcome State Fault Refusal :=
  s.afterLive fun s =>
    let b := if s.dev.answers 1 then s.spiStatus else 0xFF
    s.onDev fun d => { d with spi := { cmd := 0x05, addr := 0, ignored := false, partial' := false, active := true, out := [b] } }

/-- SPI_CS_N rises (R330). -/
def execSpiCsRise (inWord : Bool) (s : State) : Host.Outcome State Fault Refusal := s.afterDev fun d => d.spiEnd inWord

/-- An undefined SPI command (R330). -/
def execSpiUndefinedCommand (cmd : BitVec 8) (s : State) : Host.Outcome State Fault Refusal :=
  s.afterDev fun d => d.spiUndefined cmd.toNat

end Sys2Proof.Machine
end

