-- ==== Sys2Proof/Machine/ConvExec.lean ====
section
/-! DEFINITION. Converters, synthesisers and calibration (09). -/

namespace Sys2Proof.Machine

open Sys2Proof

/-! ### Synthesisers (R199 to R201) -/

/-- SYN_CTL.RECAL is written (R200). -/
def execSynRecal (syn : Fin 2) (s : State) : Host.Outcome State Fault Refusal := s.afterRun fun s => s.strobe (pSyn syn.val + 0x40) 0 2

/-- A calibration declares lock (R199). -/
def execSynLock (syn : Fin 2) (band : BitVec 6) (cp : BitVec 8) (us : BitVec 16) (s : State) : Host.Outcome State Fault Refusal :=
  s.afterTick fun d => d.synLock syn.val band.toNat cp.toNat us.toNat

/-- A calibration fails (R199). -/
def execSynCalFail (syn : Fin 2) (band : BitVec 6) (cp : BitVec 8) (us : BitVec 16) (s : State) : Host.Outcome State Fault Refusal :=
  s.afterTick fun d => d.synFail syn.val band.toNat cp.toNat us.toNat

/-- Lock is lost without a request (R201). -/
def execSynUnlock (syn : Fin 2) (s : State) : Host.Outcome State Fault Refusal := s.afterTick fun d => d.synUnlock syn.val

/-- Lock returns by itself (R201). -/
def execSynSelfRelock (syn : Fin 2) (s : State) : Host.Outcome State Fault Refusal := s.afterTick fun d => d.synSelf syn.val

/-- 10 µs pass without relock (R201). -/
def execSynRelockWaitExpiry (syn : Fin 2) (s : State) : Host.Outcome State Fault Refusal := s.afterTick fun d => d.synWaitEnd syn.val

/-- A failed relock calibration is repeated (R201). -/
def execSynRecalRetry (syn : Fin 2) (s : State) : Host.Outcome State Fault Refusal := s.afterTick fun d => d.synRetry syn.val

/-! ### Slices (R203 to R206) -/

/-- The rotation timer of an ADC starts a step (R203). -/
def execRotationStep (adc : Fin 8) (s : State) : Host.Outcome State Fault Refusal := s.afterTick fun d => d.rotate adc.val

/-- The spare's verify window ends (R204). -/
def execSpareHandover (adc : Fin 8) (m : SpareMeas) (s : State) : Host.Outcome State Fault Refusal :=
  s.afterTick fun d => d.handover adc.val m

/-! ### Calibration runs (R209, R214 to R216) -/

/-- CAL_CTL.START is written (R214). -/
def execCalStart (s : State) : Host.Outcome State Fault Refusal := s.afterRun fun s => s.strobe (pCal + 0x40) 0 1

/-- CAL_CTL.LOAD is written (R216). -/
def execCalLoad (s : State) : Host.Outcome State Fault Refusal := s.afterRun fun s => s.strobe (pCal + 0x40) 0 2

/-- CAL_CTL.LEVEL is written (R209). -/
def execCalLevel (s : State) : Host.Outcome State Fault Refusal := s.afterRun fun s => s.strobe (pCal + 0x40) 0 4

/-- CAL_CTL.ABORT is written (R214). -/
def execCalAbort (s : State) : Host.Outcome State Fault Refusal := s.afterRun fun s => s.strobe (pCal + 0x40) 0 8

/-- A step of a run ends (R214, R216). -/
def execCalStepEnd (m : CalMeas) (s : State) : Host.Outcome State Fault Refusal := s.afterTick fun d => d.calStepDone m

/-- A level check ends (R209). -/
def execLevelCheckDone (ms : List LevelMeas) (s : State) : Host.Outcome State Fault Refusal := s.afterTick fun d => d.levelDone ms

/-- CAL_CTL.FREEZE_SETS is written (R215). -/
def execFreezeSets (on : Bool) (s : State) : Host.Outcome State Fault Refusal :=
  s.afterRun fun s => s.strobe (pCal + 0x40) 16 (16 * on.toNat)

/-- CAL_SIG becomes current (R215). -/
def execCalSigReady (s : State) : Host.Outcome State Fault Refusal := s.afterTick Dev.calSig

/-- The set window is written (R216). -/
def execCalSetWindowWrite (off : BitVec 13) (data : Word) (s : State) : Host.Outcome State Fault Refusal :=
  s.afterRun fun s => s.poke (pCal + 0x1000 + off.toNat / 4 * 4) data.toNat

end Sys2Proof.Machine
end

