-- ==== Sys2Proof/Machine/FaultExec.lean ====
section
/-! DEFINITION. Fault collection (16), interrupts (15.9) and what a failing checker does to the data it guards (Table 16-2). -/

namespace Sys2Proof.Machine

open Sys2Proof

/-! ### Failing checkers -/

/-- Does source `f` rise in the page at `pg` (Table 16-2)? -/
def sourceAt (f pg : Nat) : Bool :=
  match faultRow f with
  | none => false
  | some r =>
    match pageDefAt pg with
    | none => false
    | some p =>
      let i := instOf p pg
      let at' (b : Blk) : Bool := p.blk == b && offOf p pg == 0
      if offOf p pg ≠ 0 then false
      else if f = 7 then canClaim p.blk
      else if f = 120 then at' .adc || at' .dac
      else match r.blk with
        | some b =>
          at' b && (if 16 ≤ f ∧ f < 112 then (if b = .bench then i == (f - 16) / 8 else i / 8 == (f - 16) / 8)
            else if 152 ≤ f ∧ f < 176 then i == (f - 152) / 8 else true)
        | none => false

/-- A free choice among the members of a list. -/
def Dev.pick {α : Type} (d : Dev) (l : List α) : Dev × Option α :=
  if l.isEmpty then (d, none)
  else
    let f := d.freeBits 32
    (f.2, l[f.1 % l.length]?)

/-- The stream blocks in the memory of bench `b` that wait to be read: one of them, which the command does not name, is delivered as spoil. -/
def Dev.benchLoss (d : Dev) (b : Nat) : Dev :=
  let ss := (d.engines.filter fun e => e / 8 == b).flatMap fun e =>
    (Image.streamList (d.active e)).filter fun s => !s.out && (d.strm s.chan s.j).unread
  match d.pick ss with
  | (d, some s) =>
    let st := d.strm s.chan s.j
    d.setStrm s.chan s.j { st with last := st.last.map fun (w : SampleWord) => { w with spoil := true } }
  | (d, none) => d

/-- The head of the issue queue is dropped and counted in MISSED (source 10). -/
def Dev.queueLoss (d : Dev) : Dev :=
  match d.frame.queue with
  | [] => d
  | _ :: rest => { d with frame := { d.frame with queue := rest } }.missed

/-- A timed write of a master, which the command does not name, is dropped (source 128); a sequence step it belonged to completes
(log entry 20). -/
def Dev.timedLoss (d : Dev) : Dev :=
  match d.pick ((List.range 4).filter fun m => !(d.rffe m).queue.isEmpty) with
  | (d, some m) =>
    match (d.rffe m).queue with
    | [] => d
    | w :: rest =>
      let d := (d.setRffe m { d.rffe m with queue := rest }).bump pFe (R.FE_RFFE_CNT_DROP m)
      let d := d.raiseEvt pFe (8 + m)
      if w.src = 1 ∧ (d.grp w.grp).seqRun = some (w.idx / 8, w.idx % 8) then d.seqAdvance w.grp true else d
  | (d, none) => d

/-- A monitor record is dropped (source 130, R259). -/
def Dev.monLoss (d : Dev) : Dev :=
  ({ d with mon := { d.mon with gap := d.mon.gap + 1 } }.bump pMon R.MON_CNT_B_DROP).raiseEvt pMon 5

/-- The scopes whose protection state failed, which the command does not name, latch as after a fourth trip (source 144, R182). -/
def Dev.protLoss (d : Dev) : Dev :=
  let f := d.freeBits 195
  let d := f.2
  let d := ((List.range 192).filter f.1.testBit).foldl (fun d n => (d.setFld pProt (R.PROT_CH_STAT_ATTEMPT n) 3).tripChannel n 10) d
  let d := if f.1.testBit 192 then (d.setFld pProt R.PROT_DIR_DL_ATTEMPT 3).tripDir false else d
  let d := if f.1.testBit 193 then (d.setFld pProt R.PROT_DIR_UL_ATTEMPT 3).tripDir true else d
  if f.1.testBit 194 then (d.setFld pProt R.PROT_DIR_DEV_ATTEMPT 3).tripDevice else d

/-- A word of playout memory of port `h`, which the command does not name, is poisoned (source 155, R308). -/
def Dev.playLoss (d : Dev) (h : Nat) : Dev :=
  match d.pick (List.range (d.port h).play.length) with
  | (d, some k) =>
    let s := d.port h
    d.setPort h { s with play := s.play.zipIdx.map fun (p : PlayWord × Nat) => if p.2 = k then { p.1 with poison := true } else p.1 }
  | (d, none) => d

/-- A MGMT frame in the receive buffer of port `h` is discarded and its credit returned (source 157). -/
def Dev.mgmtLoss (d : Dev) (h : Nat) : Dev :=
  match (List.range 3).find? fun q => (d.port q).out.any fun m => m.port == h with
  | some q =>
    let s := d.port q
    (d.setPort q { s with out := s.out.eraseIdx (s.out.findIdx fun m => m.port == h) }).freeUnits h
  | none => d

/-- A trace record is dropped (source 208, R390). -/
def Dev.obsLoss (d : Dev) : Dev :=
  match d.obs.fifo with
  | [] => d
  | _ :: rest => { d with obs := { d.obs with fifo := rest, dropped := d.obs.dropped + 1 } }

/-- What the failure of source `f` in the page at `pg` does to the data the checker guards (Table 16-2). -/
def Dev.checkLoss (d : Dev) (f pg : Nat) : Dev :=
  if 16 ≤ f ∧ f < 112 ∧ f % 8 = 1 then d.benchLoss ((f - 16) / 8)
  else if 152 ≤ f ∧ f < 176 ∧ f % 8 = 3 then d.playLoss ((f - 152) / 8)
  else if 152 ≤ f ∧ f < 176 ∧ f % 8 = 5 then d.mgmtLoss ((f - 152) / 8)
  else match f with
    | 5 =>
      let x := d.freeBits 14
      x.2.badAcc (0x1000 * x.1)
    | 9 => d.missed
    | 10 => d.queueLoss
    | 115 => d.firBreak ((pg - pCh 0) / 0x1000)
    | 120 => d.slip (if pg < pDac 0 then (pg - pAdc 0) / 0x1000 else 8 + (pg - pDac 0) / 0x1000)
    | 124 => d.levelOn 124 pCal
    | 128 => d.timedLoss
    | 130 => d.monLoss
    | 144 => d.protLoss
    | 202 => d.sramDamage
    | 208 => d.obsLoss
    | _ => d

/-- What it does on the host-memory side: ready bits set, an outstanding entry lost, a cached translation discarded (sources 178,
179, 184). -/
def State.checkLossHost (s : State) (f : Nat) : State :=
  let x := s.dev.freeBits 32
  match f with
  | 178 =>
    let s := s.onDev fun _ => x.2
    ((List.range 64).map (64 * (x.1 % 16384) + ·)).foldl State.setReady s
  | 179 =>
    let l := s.host.qm.outst
    if l.isEmpty then s
    else
      let k := x.1 % l.length
      (s.onDev fun _ => x.2).setQm { s.host.qm with
        outst := l.zipIdx.map fun (o : Outst × Nat) => if o.2 = k then { o.1 with lost := true } else o.1 }
  | 184 =>
    let l := s.host.xlat.cache
    if l.isEmpty then s else (s.onDev fun _ => x.2).setXlat { s.host.xlat with cache := l.eraseIdx (x.1 % l.length) }
  | _ => s

/-- One checker that fails in this cycle. An injected one acts only where an injection is armed, and is shown as done (R364, R365). -/
def State.checkFails (s : State) (x : FaultHit) : State :=
  let f := x.src.toNat
  let pg := 0x1000 * x.page.toNat
  if !sourceAt f pg then s
  else if x.inj && s.dev.fld pg R.PG_FLT_INJ_MODE == 0 then s
  else
    let s := if x.inj then s.onDev fun d => d.injDone pg else s
    let s := (s.onDev fun d => d.checkLoss f pg).checkLossHost f
    s.onDev fun d => if f = 124 ∨ f = 115 then d else d.raiseFault f pg x.inj

/-- Checkers fail together in one cycle (R354, R358). -/
def execFaultRaise (fs : List FaultHit) (s : State) : Host.Outcome State Fault Refusal :=
  s.afterRun fun s => fs.foldl State.checkFails s

/-- The 100 µs of a chip reset end (R358). -/
def execChipResetRelease (s : State) : Host.Outcome State Fault Refusal := s.after fun s => s.onDev Dev.chipRelease

/-! ### Registers -/

/-- FAULT_CTL.ERR_ACK is written (R358). -/
def execErrAck (s : State) : Host.Outcome State Fault Refusal := s.afterRun fun s => s.poke (pFault + 0x44) 1

/-- FAULT_STICKY word `w` is written (R363). -/
def execFaultStickyClear (w : Fin 8) (bits : Word) (s : State) : Host.Outcome State Fault Refusal :=
  s.afterRun fun s => s.poke (pFault + 0x80 + 4 * w.val) bits.toNat

/-- FAULT_BLK(b).VALID is written with 1 (R362). -/
def execFaultRecordClear (b : Fin 32) (s : State) : Host.Outcome State Fault Refusal :=
  s.afterRun fun s => s.poke (pFault + 0x100 + 8 * b.val) (2 ^ 31)

/-- IRQ_ACK is written (R352). -/
def execIrqAck (v : BitVec 6) (s : State) : Host.Outcome State Fault Refusal := s.afterRun fun s => s.poke (pIrq + 0x48) v.toNat

end Sys2Proof.Machine
end

