-- ==== Sys2Proof/Machine/FrontExec.lean ====
section
/-! DEFINITION. Front-end sequencing and the RFFE buses (10). -/

namespace Sys2Proof.Machine

open Sys2Proof

/-- A path group begins a step (R225). -/
def execPathStepStart (g : Fin 4) (s : State) : Host.Outcome State Fault Refusal := s.afterTick fun d => d.stepStart g.val

/-- The hardware part of a step is done (R225). -/
def execPathStepComplete (g : Fin 4) (s : State) : Host.Outcome State Fault Refusal := s.afterTick fun d => d.stepHw g.val

/-- A step of an entry sequence, other than one waiting on a bus, completes (R234). -/
def execSequenceStepDone (g : Fin 4) (s : State) : Host.Outcome State Fault Refusal := s.afterTick fun d => d.seqAdvance g.val false

/-- RET_DLY after a burst has passed (R232). -/
def execAutoReturn (g : Fin 4) (s : State) : Host.Outcome State Fault Refusal := s.afterTick fun d => d.pathReturn g.val

/-- A waking converter delivers (R427). -/
def execConverterWakeDone (conv : Fin 16) (s : State) : Host.Outcome State Fault Refusal := s.afterTick fun d => d.convWoken conv.val

/-- A timed write starts on the bus (R238). -/
def execTimedWriteStart (m : Fin 4) (s : State) : Host.Outcome State Fault Refusal := s.afterTick fun d => d.busStart m.val

/-- The command on a bus ends (R238, R239). -/
def execRffeCommandEnd (m : Fin 4) (rd : Word) (perr : Bool) (s : State) : Host.Outcome State Fault Refusal :=
  s.afterTick fun d => d.busEnd m.val rd.toNat perr

/-- A host command of a kind is written to FE_RFFE_CMD of master `m`, the data of a write command to FE_RFFE_DATA before it (R239,
Table 10-4). -/
def State.rffeCommand (s : State) (m kind : Nat) (c : RffeCmd) : State :=
  let a := pFe + 0x1000 + 0x100 * m
  let w := (R.FE_RFFE_CMD_N m).put (BitVec.ofNat 32 kind) c.n.toNat
  let w := (R.FE_RFFE_CMD_ADDR m).put ((R.FE_RFFE_CMD_USID m).put w c.usid.toNat) c.addr.toNat
  let s := if kind < 3 then s.poke (a + 8) c.data.toNat else s
  s.poke (a + 4) (w.toNat ||| 2 ^ 31)

/-- A register write command (R239). -/
def execRffeRegisterWrite (m : Fin 4) (c : RffeCmd) (s : State) : Host.Outcome State Fault Refusal :=
  s.afterRun fun s => s.rffeCommand m.val 0 c

/-- An extended register write command (R239). -/
def execRffeExtRegisterWrite (m : Fin 4) (c : RffeCmd) (s : State) : Host.Outcome State Fault Refusal :=
  s.afterRun fun s => s.rffeCommand m.val 1 c

/-- An extended register write long command (R239). -/
def execRffeExtRegisterWriteLong (m : Fin 4) (c : RffeCmd) (s : State) : Host.Outcome State Fault Refusal :=
  s.afterRun fun s => s.rffeCommand m.val 2 c

/-- A register read command (R239). -/
def execRffeRegisterRead (m : Fin 4) (c : RffeCmd) (s : State) : Host.Outcome State Fault Refusal :=
  s.afterRun fun s => s.rffeCommand m.val 3 c

/-- An extended register read command (R239). -/
def execRffeExtRegisterRead (m : Fin 4) (c : RffeCmd) (s : State) : Host.Outcome State Fault Refusal :=
  s.afterRun fun s => s.rffeCommand m.val 4 c

/-- An extended register read long command (R239). -/
def execRffeExtRegisterReadLong (m : Fin 4) (c : RffeCmd) (s : State) : Host.Outcome State Fault Refusal :=
  s.afterRun fun s => s.rffeCommand m.val 5 c

/-- A pending host command starts (R239). -/
def execRffeHostCmdStart (m : Fin 4) (s : State) : Host.Outcome State Fault Refusal := s.afterTick fun d => d.rffeHostStart m.val

end Sys2Proof.Machine
end

