-- ==== Sys2Proof/Machine/HaulExec.lean ====
section
/-! DEFINITION. Haul links and the cascade (13). -/

namespace Sys2Proof.Machine

open Sys2Proof

/-- A frame as numbers. -/
def frameNums (f : List Byte) : List Nat := f.map (·.toNat)

/-- Block lock is reached (R311). -/
def execLinkBlockLock (h : Fin 3) (s : State) : Host.Outcome State Fault Refusal := s.afterTick fun d => d.blockLock h.val

/-- Lanes are aligned; `orderOk` says that their order is right (R311). -/
def execLinkAlign (h : Fin 3) (orderOk : Bool) (s : State) : Host.Outcome State Fault Refusal :=
  s.afterTick fun d => d.linkAligned h.val orderOk

/-- A link fails with a cause of Table 13-7 (R311). -/
def execLinkDown (h : Fin 3) (cause : BitVec 4) (s : State) : Host.Outcome State Fault Refusal :=
  s.afterTick fun d => if d.linkState h.val = 0 then d else d.linkFail h.val cause.toNat

/-- A haul period begins (R287). -/
def execHaulPeriodStart (h : Fin 3) (s : State) : Host.Outcome State Fault Refusal := s.afterTick fun d => d.periodBegin h.val

/-- A frame position begins (R288). -/
def execHaulFramePosition (h : Fin 3) (sub : Fin 32) (s : State) : Host.Outcome State Fault Refusal :=
  s.afterTick fun d => d.sendFrame h.val sub.val

/-- A CTRL frame arrives (R301). -/
def execCtrlFrameRx (h : Fin 3) (frame : List Byte) (sub : Fin 32) (s : State) : Host.Outcome State Fault Refusal :=
  s.afterTick fun d => d.ctrlIn h.val (frameNums frame) sub.val

/-- A MGMT frame arrives; `cut` says that forwarding has begun before its CRC (R305, R308). -/
def execMgmtFrameRx (h : Fin 3) (frame : List Byte) (cut : Bool) (s : State) : Host.Outcome State Fault Refusal :=
  s.afterTick fun d => d.mgmtIn h.val (frameNums frame) cut

/-- A sample frame arrives (R292, R308). -/
def execSampleFrameRx (h : Fin 3) (frame : List Byte) (s : State) : Host.Outcome State Fault Refusal :=
  s.afterTick fun d => d.sampleIn h.val (frameNums frame)

/-- An EMPTY frame arrives (R306). -/
def execEmptyFrameRx (h : Fin 3) (frame : List Byte) (s : State) : Host.Outcome State Fault Refusal :=
  s.afterTick fun d => d.emptyIn h.val (frameNums frame)

/-- A frame of an undefined type, or of one not allowed at its position, is discarded and counted (R288). -/
def execHaulFrameFail (h : Fin 3) (frame : List Byte) (s : State) : Host.Outcome State Fault Refusal :=
  s.afterTick fun d =>
    let f := frameNums frame
    if decide (2 ≤ d.linkState h.val) && (!frameOk f || !typeAllowed (frameType f) (framePos f)) then d.frameFail h.val else d

/-- The take period of a schedule (R293). -/
def execScheduleTake (h : Fin 3) (s : State) : Host.Outcome State Fault Refusal := s.afterTick fun d => d.schedTake h.val

/-- A haul word is released to the junction (R296). -/
def execPlayoutRelease (h : Fin 3) (s : State) : Host.Outcome State Fault Refusal := s.afterTick fun d => d.playRelease h.val

/-- HAUL_CASC_CTL.ENUM is written with KEEP = 0 (R284). -/
def execEnumFull (s : State) : Host.Outcome State Fault Refusal := s.afterRun fun s => s.strobe (pHaul 0 + 0x100) 4 2

/-- HAUL_CASC_CTL.ENUM is written with KEEP = 1 (R284). -/
def execEnumKeep (s : State) : Host.Outcome State Fault Refusal := s.afterRun fun s => s.strobe (pHaul 0 + 0x100) 0 6

/-- An enumeration completes (R284). -/
def execEnumDone (s : State) : Host.Outcome State Fault Refusal := s.afterTick Dev.enumEnd

/-- HAUL_CASC_CTL.SYNC_GO is written (R304). -/
def execSyncGo (s : State) : Host.Outcome State Fault Refusal := s.afterRun fun s => s.strobe (pHaul 0 + 0x100) 0 8

/-- The target time of a cascade-wide SIEVE_SYNC comes (R304). -/
def execHaulSyncApply (s : State) : Host.Outcome State Fault Refusal := s.afterTick Dev.syncApply

end Sys2Proof.Machine
end

