-- ==== Sys2Proof/Machine/HostExec.lean ====
section
/-! DEFINITION. Translation and DMA (15). -/

namespace Sys2Proof.Machine

open Sys2Proof

/-- XLAT_INV_CTL.GO is written with ALL = 0 (R342). -/
def execXlatInvRange (size : BitVec 6) (s : State) : Host.Outcome State Fault Refusal :=
  s.afterRun fun s => s.poke (pXlat + 0x58) (size.toNat + 2 ^ 31)

/-- XLAT_INV_CTL.GO is written with ALL = 1 (R342). -/
def execXlatInvAll (s : State) : Host.Outcome State Fault Refusal := s.afterRun fun s => s.poke (pXlat + 0x58) (0x100 + 2 ^ 31)

/-- An invalidation completes (R342). -/
def execInvalidationComplete (s : State) : Host.Outcome State Fault Refusal := s.afterRun State.xinvDone

/-- XLAT_FIFO(3) is read (R343). -/
def execFaultFifoPop (s : State) : Host.Outcome State Fault Refusal := s.afterRun State.fifoPop

/-- DMA_CTL.GO is written (R346). -/
def execDmaGo (d : Fin 16) (s : State) : Host.Outcome State Fault Refusal := s.afterRun fun s => s.strobe (pDma d.val + 0x40) 0 1

/-- DMA_CTL.RESUME is written (R348). -/
def execDmaResume (d : Fin 16) (s : State) : Host.Outcome State Fault Refusal := s.afterRun fun s => s.strobe (pDma d.val + 0x40) 0 2

/-- DMA_CTL.ABORT is written (R348). -/
def execDmaAbort (d : Fin 16) (s : State) : Host.Outcome State Fault Refusal := s.afterRun fun s => s.strobe (pDma d.val + 0x40) 0 4

/-- The channel whose turn it is moves a beat (R345, R347, R348). -/
def execDmaBeat (r : ReadResult) (s : State) : Host.Outcome State Fault Refusal := s.afterRun fun s => s.dmaBeat r

/-- DMA_FEED is written (R345). -/
def execDmaFeed (d : Fin 16) (w : Word) (s : State) : Host.Outcome State Fault Refusal :=
  s.afterRun fun s => s.poke (pDma d.val + 0x70) w.toNat

/-- A data read of host memory has not completed after 50 ms (R348). -/
def execDataReadTimeout (d : Fin 16) (s : State) : Host.Outcome State Fault Refusal := s.afterRun fun s => s.dmaReadTimeout d.val

end Sys2Proof.Machine
end

