-- ==== Sys2Proof/Machine/LoopExec.lean ====
section
/-! DEFINITION. The Sieve, cancellation, loop engines and gain loops (03 to 07). -/

namespace Sys2Proof.Machine

open Sys2Proof

/-! ### The Sieve -/

/-- An M buffer slips (R22). -/
def execMBufferSlip (conv : Fin 16) (s : State) : Host.Outcome State Fault Refusal :=
  s.afterTick fun d => if (d.convSt conv.val).runs then (d.slip conv.val).raiseFault 120 (pConv conv.val) false else d

/-- The fills of a channel's chains end (R65). -/
def execFillEnd (ch : Fin 192) (s : State) : Host.Outcome State Fault Refusal :=
  s.afterTick fun d => if d.chOn ch.val then d.fillOut ch.val else d

/-- Does receive chain `j` of channel `n` deliver valid coarse values by now (R69)? -/
def Dev.coarseOk (d : Dev) (n j : Nat) : Bool :=
  let c := d.rxChain n j
  !c.restart && decide (c.coarseFrom < (d.convSt (d.rxConv n j)).count / gridStep (d.fld (pCh n) R.CH_DEF_RATE_K))

/-- A coarse value in dB from the sum of squares and the peak of its eight tap samples in Q0.17 (R68 to R70). -/
def coarseOf (sum peak : Nat) (valid : Bool) : Coarse :=
  if valid then { power := dbOf sum (2 ^ 35), peak := dbOf (peak * peak) (2 ^ 32), valid := true }
  else { power := -32768, peak := -32768, valid := false }

/-- The coarse value that chain `j` of channel `n` has formed is shown and reaches its consumers (R68, R117, R155). -/
def Dev.coarseOut (d : Dev) (n j : Nat) : Dev :=
  let c := d.rxChain n j
  match c.coarseOut with
  | none => d
  | some (sum, peak, valid) =>
    let v := coarseOf sum peak valid
    let d := d.setRx n j { c with coarseOut := none }
    let d := (d.setS (pCh n) (R.CH_SV_COARSE_POWER j) v.power).setS (pCh n) (R.CH_SV_COARSE_PEAK j) v.peak
    let d := d.setFlag (pCh n) R.CH_SV_STAT_COARSE_VALID ((List.range (d.chRank n)).all (d.coarseOk n))
    (d.cancCoarse n j v).fastGain n v

/-- A coarse value is delivered (R68). -/
def execCoarseValue (ch : Fin 192) (j : Fin 4) (s : State) : Host.Outcome State Fault Refusal :=
  s.afterTick fun d => if d.chOn ch.val && decide (j.val < d.chRank ch.val) then d.coarseOut ch.val j.val else d

/-- CH_FIR_SWAP is written (R82). -/
def execChFirSwap (ch : Fin 192) (bank : Bool) (k : BitVec 4) (s : State) : Host.Outcome State Fault Refusal :=
  s.afterRun fun s => s.poke (pCh ch.val + 0xC4) (bank.toNat + 2 * k.toNat)

/-- A coefficient or CH_FIR_NTAPS is written (R79). -/
def execFirBankWrite (ch : Fin 192) (w : FirWrite) (s : State) : Host.Outcome State Fault Refusal :=
  s.afterRun fun s =>
    match w with
    | .coef bank i v => s.poke (pCh ch.val + 0x100 + 0x100 * bank.toNat + 4 * i.val) v.toNat
    | .ntaps a b => s.poke (pCh ch.val + 0xC8) (a.toNat + 2 ^ 8 * b.toNat)

/-- A cross-fade reaches its length (R83). -/
def execFadeEnd (ch : Fin 192) (s : State) : Host.Outcome State Fault Refusal := s.afterTick fun d => d.fadeFinish ch.val

/-! ### Cancellation and gain -/

/-- An update instant of a canceller (R106). -/
def execCancUpdate (ch : Fin 192) (s : State) : Host.Outcome State Fault Refusal := s.afterTick fun d => d.cancUpdate ch.val

/-- The gain stage takes a word (R138). -/
def execGainStageTake (ch : Fin 192) (j : Fin 4) (s : State) : Host.Outcome State Fault Refusal :=
  s.afterTick fun d => if decide (j.val < d.chRank ch.val) then d.stageTake ch.val j.val else d

/-- The uplink gating hang expires (R187). -/
def execUlgHangExpiry (ch : Fin 192) (s : State) : Host.Outcome State Fault Refusal := s.afterTick fun d => d.ulgListen ch.val

/-- SENSE_HOLD seconds without a valid reading pair (R162). -/
def execSenseHoldExpiry (s : State) : Host.Outcome State Fault Refusal := s.afterTick Dev.senseExpire

/-- The port-power loop of a DAC (R159). -/
def execPortPowerUpdate (dac : Fin 8) (s : State) : Host.Outcome State Fault Refusal := s.afterTick fun d => d.portPower dac.val

/-- CH_GL_UL.HOLD is written (R168). -/
def execUlHold (ch : Fin 192) (s : State) : Host.Outcome State Fault Refusal := s.afterRun fun s => s.poke (pCh ch.val + 0x39C) 1

/-- CH_GL_UL.RELEASE is written (R168). -/
def execUlRelease (ch : Fin 192) (s : State) : Host.Outcome State Fault Refusal := s.afterRun fun s => s.poke (pCh ch.val + 0x39C) 2

/-! ### Engines -/

/-- Are the bench islands powered: a device power state of WARM or above (R24, Table 01-12), which the thermal latch rules out (R279)? -/
def Dev.engClock (d : Dev) : Bool := decide (2 ≤ d.fld pDev R.DEV_PWR_EFF)

/-- A block of a stream completes (R136). -/
def execStreamBlockComplete (ch : Fin 192) (j : Fin 4) (s : State) : Host.Outcome State Fault Refusal :=
  s.afterTick fun d => d.blockComplete ch.val j.val

/-- An engine issues a bundle (R130). -/
def execBundleIssue (e : Fin 96) (s : State) : Host.Outcome State Fault Refusal :=
  s.afterTick fun d => if d.engClock then d.issue e.val else d

/-- The APPLY value due first reaches its target (R139). -/
def execApplyDelivery (s : State) : Host.Outcome State Fault Refusal := s.afterTick Dev.applyNext

/-- An engine's period starts (R127). -/
def execEnginePeriodStart (e : Fin 96) (s : State) : Host.Outcome State Fault Refusal :=
  s.afterTick fun d => if d.engClock then d.periodStart e.val else d

/-- A tail has issued 1,024 bundles without HALT (R141). -/
def execTailIssueLimit (e : Fin 96) (s : State) : Host.Outcome State Fault Refusal := s.afterTick fun d => d.tailLimit e.val

/-- ENG_CTL.VERIFY is written (R134). -/
def execVerify (e : Fin 96) (s : State) : Host.Outcome State Fault Refusal := s.afterRun fun s => s.strobe (pEng e.val + 0x44) 0 1

/-- Verification finishes (R134). -/
def execVerifyDone (e : Fin 96) (s : State) : Host.Outcome State Fault Refusal := s.afterTick fun d => d.verifyEnd e.val

/-- ENG_CTL.RESTART is written (R142). -/
def execEngineRestart (e : Fin 96) (s : State) : Host.Outcome State Fault Refusal := s.afterRun fun s => s.strobe (pEng e.val + 0x44) 0 2

/-- ENG_CTL.INVALIDATE is written (R148). -/
def execInvalidate (e : Fin 96) (s : State) : Host.Outcome State Fault Refusal := s.afterRun fun s => s.strobe (pEng e.val + 0x44) 0 4

/-- An idle engine starts (R142). -/
def execEngineStart (e : Fin 96) (s : State) : Host.Outcome State Fault Refusal :=
  s.afterTick fun d => if d.engClock then d.engStart e.val else d

/-- An armed swap is taken (R143). -/
def execSwapTake (e : Fin 96) (s : State) : Host.Outcome State Fault Refusal := s.afterTick fun d => d.swapTake e.val

end Sys2Proof.Machine
end

