-- ==== Sys2Proof/Machine/MonitorExec.lean ====
section
/-! DEFINITION. Monitor converters, bias outputs and thermal protection (11, 12). -/

namespace Sys2Proof.Machine

open Sys2Proof

/-! ### Monitor converters -/

/-- MON_CONV.GO is written (R246). -/
def execMonConvGo (conv : BitVec 2) (kind : BitVec 2) (s : State) : Host.Outcome State Fault Refusal :=
  s.afterRun fun s => s.poke (pMon + 0x48) (kind.toNat + 4 * conv.toNat + 2 ^ 31)

/-- An edge on the MON_TRIG pin (R246). -/
def Dev.monPin (d : Dev) (rising : Bool) : Dev :=
  if d.flag pMon R.MON_CTL_PIN_EN && d.flag pMon R.MON_CTL_PIN_EDGE != rising then
    d.monTrigger (d.fld pMon R.MON_CTL_PIN_CONV) (d.fld pMon R.MON_CTL_PIN_KIND)
  else d

/-- An edge on the MON_TRIG pin (R246). -/
def execMonTrigPinEdge (rising : Bool) (s : State) : Host.Outcome State Fault Refusal := s.afterTick fun d => d.monPin rising

/-- Comparator `n` trips (R253). -/
def Dev.comparator (d : Dev) (n : Nat) : Dev :=
  let act := d.fld pMon (R.MON_CMP_ACT n)
  if act = 0 then d
  else
    let d := ((d.setFld pMon (R.MON_CMP_TRIPPED n) 1).raiseEvt pMon 4).bump pMon R.MON_CNT_B_CMP_TRIPS
    if act = 2 then d.monTrigger (n / 2) (if d.monCompat (n / 2) then 1 else d.fld pMon (R.MON_CMP_KIND n)) else d

/-- A comparator trips on a rising crossing (R253). -/
def execComparatorTrip (n : Fin 4) (s : State) : Host.Outcome State Fault Refusal := s.afterTick fun d => d.comparator n.val

/-- The conversion of converter `c` ends with a code (R247 to R251, R256 to R259). -/
def Dev.conversionEnd (d : Dev) (c code : Nat) : Dev :=
  match (d.monSt c).conv with
  | none => d
  | some cv =>
    let d := d.monResult c cv code
    if d.mon.waitOn.contains c then (d.monIdle c).monApply else d.monNext c cv.src cv.entry

/-- A conversion ends (R257). -/
def execConversionEnd (c : Fin 2) (code : BitVec 12) (s : State) : Host.Outcome State Fault Refusal :=
  s.afterTick fun d => d.conversionEnd c.val code.toNat

/-- The reference's fixed time has passed (R254): an external reference outside its range is bad and does not settle. -/
def Dev.refSettle (d : Dev) (extOk : Bool) : Dev :=
  if !d.flag pMon R.PG_CTL_EN then d
  else if d.fld pMon R.MON_CTL_REF == 1 && !extOk then
    ((d.setFld pMon R.MON_STAT_REF_SETTLED 0).setFld pMon R.MON_STAT_REF_BAD 1).levelOn 129 pMon
  else
    let was := d.flag pMon R.MON_STAT_REF_SETTLED
    let d := ((d.setFld pMon R.MON_STAT_REF_SETTLED 1).setFld pMon R.MON_STAT_REF_BAD 0).levelOff 129 pMon
    if was then d else d.raiseEvt pMon 3

/-- The reference settles; `extOk` says that VREF_EXT lies in its range (R254). -/
def execRefSettled (extOk : Bool) (s : State) : Host.Outcome State Fault Refusal := s.afterTick fun d => d.refSettle extOk

/-! ### Bias outputs -/

/-- BIAS_GRP_LD is written (R262). -/
def execBiasGrpLd (groups : BitVec 4) (s : State) : Host.Outcome State Fault Refusal :=
  s.afterRun fun s => s.poke (pBias 0 + 0x80) groups.toNat

/-- BIAS_LD_N falls (R262). -/
def execBiasLdNFall (s : State) : Host.Outcome State Fault Refusal :=
  s.afterTick fun d => ((List.range 4).filter (d.fld (pBias 0) R.BIAS_LDPIN_MASK).testBit).foldl (fun d g => d.biasStrobe g 0) d

/-- BIAS_CLR_N is asserted (R266). -/
def execBiasClrNAssert (s : State) : Host.Outcome State Fault Refusal :=
  s.after fun s => s.onDev fun d => { d with pins := { d.pins with clrN := false } }.biasClearAll

/-- BIAS_CLR_N is released (R266). -/
def execBiasClrNRelease (s : State) : Host.Outcome State Fault Refusal :=
  s.after fun s => s.onDev fun d => { d with pins := { d.pins with clrN := true } }

/-- A ramp or unwind reaches its code (R263). -/
def execBiasRampEnd (n : Fin 16) (s : State) : Host.Outcome State Fault Refusal := s.afterTick fun d => d.biasLineEnd n.val

/-- A deglitch hold ends (R264). -/
def execBiasDeglitchEnd (n : Fin 16) (s : State) : Host.Outcome State Fault Refusal := s.afterTick fun d => d.biasHoldEnd n.val

/-- A range-change interval ends: the output holds the clear code of the new range (R268). -/
def execBiasRangeChangeEnd (n : Fin 16) (s : State) : Host.Outcome State Fault Refusal :=
  s.afterTick fun d =>
    if d.flag (pBias n.val) R.BIAS_STAT_RANGE_CHG then (d.setFlag (pBias n.val) R.BIAS_STAT_RANGE_CHG false).biasClear n.val else d

/-- The current limit of a voltage range has acted for 10 µs (R269). -/
def execBiasShortCircuit (n : Fin 16) (s : State) : Host.Outcome State Fault Refusal :=
  s.afterTick fun d =>
    if d.fld (pBias n.val) R.BIAS_CTL_RANGE < 2 then
      (((d.setFld (pBias n.val) R.BIAS_STAT_SC 1).bump (pBias n.val) R.BIAS_CNT_SC_EVENTS).raiseEvt (pBias n.val) 0).levelOn 131 (pBias n.val)
    else d

/-- The load of a current range needs more than 3.0 V (R269). -/
def execBiasCompliance (n : Fin 16) (s : State) : Host.Outcome State Fault Refusal :=
  s.afterTick fun d =>
    if 2 ≤ d.fld (pBias n.val) R.BIAS_CTL_RANGE then (d.setFld (pBias n.val) R.BIAS_STAT_COMPLY 1).raiseEvt (pBias n.val) 1 else d

/-! ### Thermal protection -/

/-- The die and the external sensors are read, the ladder and the shutdown judged, and trims follow the die (R211, R271 to R279). -/
def Dev.dieReading (d : Dev) (t fault : Nat) : Dev :=
  let d := (List.range 8).foldl Dev.readExt (d.readDie t fault)
  let d := d.ladderSet
  let d := if d.tooHot then d.thermShut else d
  let d := d.shedAll
  d.trimStep (if d.flag pTherm R.THERM_DIE_BROKEN then none else some (d.sfld pTherm R.THERM_DIE_T))

/-- A die reading of `t`, signed Q8.8 °C, or a fault the diode interface detects: 1 open, 2 short (R271, Table 12-1). -/
def execDieReading (t : BitVec 16) (fault : Fin 3) (s : State) : Host.Outcome State Fault Refusal :=
  s.afterTick fun d => d.dieReading t.toNat fault.val

/-- THERM_CLR is written (R278). -/
def execThermClr (ext : BitVec 8) (s : State) : Host.Outcome State Fault Refusal :=
  s.afterRun fun s => s.poke (pTherm + 0x54) (2 * ext.toNat)

end Sys2Proof.Machine
end

