-- ==== Sys2Proof/Machine/PageExec.lean ====
section
/-! DEFINITION. The page header's commands: commits, block resets, events and injected faults (R332 to R338, R364), and the registers of
fault collection, interrupts and the recorder whose write is a command. -/

namespace Sys2Proof.Machine

open Sys2Proof

/-- The address of a page number that is a block instance's first page. -/
def pageBaseOf (page : Nat) : Option Nat :=
  match pageDefAt (0x1000 * page) with
  | some p => if offOf p (0x1000 * page) = 0 then some (0x1000 * page) else none
  | none => none

/-- A register of a page header is written; a page number that is no block instance's first page has none. -/
def State.pokeHead (s : State) (page off w : Nat) : State :=
  match pageBaseOf page with
  | some pg => s.poke (pg + off) w
  | none => s

/-- PG_CTL is written as it reads, but for the bits of `clear`, with those of `bits` set. -/
def State.pokeCtl (s : State) (page clear bits : Nat) : State :=
  match pageBaseOf page with
  | some pg => s.strobe (pg + 8) clear bits
  | none => s

/-- PG_CTL.COMMIT with COMMIT_AT_EVENT = 0 (R335). -/
def execPageCommit (page : BitVec 14) (s : State) : Host.Outcome State Fault Refusal := s.afterLive fun s => s.pokeCtl page.toNat 8 4

/-- PG_CTL.COMMIT with COMMIT_AT_EVENT = 1 (R336). -/
def execCommitArm (page : BitVec 14) (s : State) : Host.Outcome State Fault Refusal := s.afterLive fun s => s.pokeCtl page.toNat 0 12

/-- A commit in progress completes (R335). -/
def execCommitComplete (page : BitVec 14) (s : State) : Host.Outcome State Fault Refusal :=
  s.afterLive fun s =>
    match pageBaseOf page.toNat with
    | some pg => s.commitDone pg
    | none => s

/-- PG_CTL.SOFT_RST (R338). -/
def execSoftRst (page : BitVec 14) (s : State) : Host.Outcome State Fault Refusal := s.afterLive fun s => s.pokeCtl page.toNat 0 2

/-- A block reset completes (R338). -/
def execSoftResetDone (page : BitVec 14) (s : State) : Host.Outcome State Fault Refusal :=
  s.afterDev fun d =>
    match pageBaseOf page.toNat with
    | some pg => d.softResetDone pg
    | none => d

/-- PG_EVT_SET is written (R332). -/
def execPgEvtSet (page : BitVec 14) (bits : Word) (s : State) : Host.Outcome State Fault Refusal :=
  s.afterLive fun s => s.pokeHead page.toNat 0x18 bits.toNat

/-- PG_FLT_INJ is written (R364). -/
def execFaultInjectArm (page : BitVec 14) (data : Word) (s : State) : Host.Outcome State Fault Refusal :=
  s.afterLive fun s => s.pokeHead page.toNat 0x20 data.toNat

/-- A committed or released profile takes effect (R26). -/
def execProfileTakeEffect (s : State) : Host.Outcome State Fault Refusal := s.afterDev Dev.profileTake

/-- REQ and EFF of a page, or of a path group of FE, have differed for 1 ms (R189). -/
def execDivergeTimeout (page : BitVec 14) (g : Fin 4) (s : State) : Host.Outcome State Fault Refusal :=
  s.afterDev fun d =>
    match pageBaseOf page.toNat with
    | some pg => d.divergeSet pg g.val
    | none => d

end Sys2Proof.Machine
end

