-- ==== Sys2Proof/Machine/PowerExec.lean ====
section
/-! DEFINITION. Supply, clock and reset events (Tables 01-10, 19-7 and 20-1). Every event already says that its time has passed (log entry 9). -/

namespace Sys2Proof.Machine

open Sys2Proof

/-- Power-on reset is released (R416). -/
def execPowerOnResetRelease (p : PorInputs) (s : State) : Host.Outcome State Fault Refusal :=
  s.after fun s => s.onDev fun d => d.porRelease p

/-- The PLLs lock and FABRIC sets (R416). -/
def execFabricReady (s : State) : Host.Outcome State Fault Refusal := s.afterDev Dev.fabricUp

/-- The recorder has restored and REC_DONE sets (R379, R416). -/
def execRecorderRestoreDone (usable : Bool) (slots : Fin 257) (foreign : Bool) (ms : BitVec 16) (s : State) :
    Host.Outcome State Fault Refusal :=
  s.afterLive fun s => s.onDev fun d =>
    if d.flag pDev R.DEV_BOOT_FABRIC then d.restore usable slots.val foreign ms.toNat else d

/-- CK_REF is declared lost (R23). -/
def execCkRefLoss (s : State) : Host.Outcome State Fault Refusal := s.after fun s => s.onDev Dev.refLoss

/-- CK_REF has been present for 1 ms (R23). -/
def execCkRefReturn (s : State) : Host.Outcome State Fault Refusal := s.after fun s => s.onDev Dev.refReturn

/-- RESET_N has been low for 1 µs (R399). -/
def execResetNAssert (s : State) : Host.Outcome State Fault Refusal := s.after State.resetAssert

/-- RESET_N is released (R399). -/
def execResetNRelease (s : State) : Host.Outcome State Fault Refusal := s.after fun s => s.onDev Dev.resetRelease

/-- PERST_N is asserted (R399). -/
def execPerstNAssert (s : State) : Host.Outcome State Fault Refusal := s.after fun s => s.onDev Dev.perstAssert

/-- PERST_N is released: link training may begin once FABRIC is set (R419). -/
def execPerstNRelease (s : State) : Host.Outcome State Fault Refusal :=
  s.after fun s => s.onDev fun d => { d with pins := { d.pins with perstN := true } }

/-- A Function Level Reset (R329, R420). -/
def execFunctionLevelReset (s : State) : Host.Outcome State Fault Refusal := s.after State.flr

/-- A rail other than VAON and VDD_NVM dips (R404). -/
def execSupplyDip (rail : Fin 12) (s : State) : Host.Outcome State Fault Refusal := s.after fun s => s.supplyDip rail.val

/-- VAON dips, `lost` when it fell below 1.40 V (R404). -/
def execVaonLow (lost : Bool) (s : State) : Host.Outcome State Fault Refusal := s.after fun s => s.vaonLow lost

/-- VDD_NVM leaves its range (R404, R405). -/
def execNvmSupplyLoss (s : State) : Host.Outcome State Fault Refusal := s.after fun s => s.onDev Dev.nvmLoss

/-- VDD_NVM returns at a level (R405). -/
def execNvmSupplyReturn (code : BitVec 2) (s : State) : Host.Outcome State Fault Refusal :=
  s.after fun s => s.onDev fun d => d.nvmReturn code.toNat

/-- The core PLL unlocks (R357). -/
def execCorePllUnlock (s : State) : Host.Outcome State Fault Refusal :=
  s.afterDev fun d => if d.flag pDev R.DEV_CLK_STAT_CORE_LOCK then d.pllUnlock 1 else d

/-- The system PLL unlocks (R357). -/
def execSystemPllUnlock (s : State) : Host.Outcome State Fault Refusal :=
  s.afterDev fun d => if d.flag pDev R.DEV_CLK_STAT_SYS_LOCK then d.pllUnlock 2 else d

/-- The haul PLL unlocks (R311, R354). -/
def execHaulPllUnlock (s : State) : Host.Outcome State Fault Refusal :=
  s.afterDev fun d => if d.flag pDev R.DEV_CLK_STAT_HAUL_LOCK then d.haulPll else d

/-- The haul PLL regains lock (R354). -/
def execHaulPllRelock (s : State) : Host.Outcome State Fault Refusal :=
  s.afterDev fun d => if d.flag pDev R.DEV_BOOT_FABRIC then d.haulLock else d

/-- The PCI Express reference clock stops (R354). -/
def execPcieRefclkLoss (s : State) : Host.Outcome State Fault Refusal :=
  s.afterDev fun d => if d.flag pDev R.DEV_BOOT_FABRIC then d.pcieRef false else d

/-- The PCI Express reference clock returns (R354). -/
def execPcieRefclkReturn (s : State) : Host.Outcome State Fault Refusal :=
  s.afterDev fun d => if d.flag pDev R.DEV_BOOT_FABRIC then d.pcieRef true else d

/-- The PCI Express link goes down (R354). -/
def execPcieLinkDown (s : State) : Host.Outcome State Fault Refusal := s.afterDev Dev.linkLost

/-- PCI Express link training completes (R329). -/
def execPcieLinkUp (s : State) : Host.Outcome State Fault Refusal := s.afterDev Dev.linkTrained

end Sys2Proof.Machine
end

