-- ==== Sys2Proof/Machine/ProtExec.lean ====
section
/-! DEFINITION. Network protection (08). -/

namespace Sys2Proof.Machine

open Sys2Proof

/-- A 1 ms emission window ends with the estimate `est`, signed Q8.8 dB (R176). -/
def execOobeWindowEnd (ch : Fin 192) (est : BitVec 16) (s : State) : Host.Outcome State Fault Refusal :=
  s.afterTick fun d => d.judgeOobe ch.val est.toInt

/-- A scope's back-off ends (R185). -/
def execBackoffExpiry (scope : Scope) (s : State) : Host.Outcome State Fault Refusal :=
  s.afterTick fun d =>
    match scope with
    | .channel n => d.chRestart n.val
    | .downlink => d.dirRestart false
    | .uplink => d.dirRestart true
    | .device => d.devRestart

/-- A scope's count of trips returns to 0 after RESET_S seconds of clean relay (R182). -/
def Dev.attemptReset (d : Dev) (scope : Scope) : Dev :=
  match scope with
  | .channel n => if d.muted n.val then d else d.setFld pProt (R.PROT_CH_STAT_ATTEMPT n.val) 0
  | .downlink => if d.dirOff false then d else d.setFld pProt R.PROT_DIR_DL_ATTEMPT 0
  | .uplink => if d.dirOff true then d else d.setFld pProt R.PROT_DIR_UL_ATTEMPT 0
  | .device => if d.rfOff then d else d.setFld pProt R.PROT_DIR_DEV_ATTEMPT 0

/-- ATTEMPT returns to 0 (R182). -/
def execAttemptReset (scope : Scope) (s : State) : Host.Outcome State Fault Refusal := s.afterTick fun d => d.attemptReset scope

/-- CLK_A or CLK_B ends (R183). -/
def execClkVerdictEnd (syn : Fin 2) (s : State) : Host.Outcome State Fault Refusal := s.afterTick fun d => d.clkEnd syn.val

/-- PROT_CLR with CH_EN (R184). -/
def execProtClrChannel (ch : BitVec 8) (s : State) : Host.Outcome State Fault Refusal :=
  s.afterRun fun s => s.poke (pProt + 0x7C) (ch.toNat + 0x100)

/-- PROT_CLR with ALL_CH (R184). -/
def execProtClrAllChannels (s : State) : Host.Outcome State Fault Refusal := s.afterRun fun s => s.poke (pProt + 0x7C) 0x200

/-- PROT_CLR with DL (R184). -/
def execProtClrDownlink (s : State) : Host.Outcome State Fault Refusal := s.afterRun fun s => s.poke (pProt + 0x7C) 0x400

/-- PROT_CLR with UL (R184). -/
def execProtClrUplink (s : State) : Host.Outcome State Fault Refusal := s.afterRun fun s => s.poke (pProt + 0x7C) 0x800

/-- PROT_CLR with DEV (R184). -/
def execProtClrDevice (s : State) : Host.Outcome State Fault Refusal := s.afterRun fun s => s.poke (pProt + 0x7C) 0x1000

end Sys2Proof.Machine
end

