-- ==== Sys2Proof/Machine/RecordExec.lean ====
section
/-! DEFINITION. Management queues: doorbell, scheduler, the records a device executes, and those it sends (14). -/

namespace Sys2Proof.Machine

open Sys2Proof

/-- Can records of host queue `q` execute at this device: it is reached, and no upload of that queue is in progress (R318, R326)? -/
def State.recRuns (s : State) (q : Nat) : Bool := s.dev.answers 2 && !(s.host.qm.uploads.any fun u => u.q == q)

/-- A record's access at address `a`, of `span` bytes, refused with error 2 where R8 or R28 rejects it (R318, R319). -/
def State.recAccess (s : State) (q op tag a span : Nat) (cpl : Bool) (kind : Nat) (f : State → State × Nat) : State :=
  if !s.recRuns q then s
  else
    let s := s.takeExec q op tag
    if a % span ≠ 0 || accessBad a 4 then s.onDev fun d => (d.badAcc a).complete q tag kind 2 0 cpl
    else
      let r := f s
      r.1.onDev fun d => d.complete q tag kind 0 r.2 cpl

/-- A record of host queue `q` that makes no register access. -/
def State.recOther (s : State) (q op tag : Nat) (f : State → State) : State :=
  if s.recRuns q then f (s.takeExec q op tag) else s

/-- An RD32 of a PG_STAT also produces a STATE record (R322). -/
def Dev.statRead (d : Dev) (a : Nat) : Dev :=
  match pageDefAt a with
  | some p => if offOf p a = 0xC then d.sendState (a - 0xC) else d
  | none => d

/-- WR32 (R318). -/
def execWr32 (q : Fin 8) (cpl : Bool) (tag : BitVec 16) (addr : BitVec 26) (data : Word) (s : State) : Host.Outcome State Fault Refusal :=
  s.afterLive fun s => s.recAccess q.val 1 tag.toNat addr.toNat 4 cpl 0x82 fun s => (s.busWrite 2 addr.toNat 4 data, 0)

/-- WR64: the lower register, then the upper (R319). -/
def execWr64 (q : Fin 8) (cpl : Bool) (tag : BitVec 16) (addr : BitVec 26) (data : BitVec 64) (s : State) :
    Host.Outcome State Fault Refusal :=
  s.afterLive fun s => s.recAccess q.val 2 tag.toNat addr.toNat 8 cpl 0x82 fun s =>
    ((s.busWrite 2 addr.toNat 4 (data.setWidth 32)).busWrite 2 (addr.toNat + 4) 4 ((data >>> 32).setWidth 32), 0)

/-- RD32 (R318, R322). -/
def execRd32 (q : Fin 8) (tag : BitVec 16) (addr : BitVec 26) (s : State) : Host.Outcome State Fault Refusal :=
  s.afterLive fun s =>
    let ok := s.recRuns q.val && !accessBad addr.toNat 4
    let s := s.recAccess q.val 3 tag.toNat addr.toNat 4 true 0x81 fun s =>
      let r := s.busRead 2 addr.toNat 4
      (r.1, r.2.toNat)
    if ok then s.onDev fun d => d.statRead addr.toNat else s

/-- RD64: the lower register, then the latched upper (R319). -/
def execRd64 (q : Fin 8) (tag : BitVec 16) (addr : BitVec 26) (s : State) : Host.Outcome State Fault Refusal :=
  s.afterLive fun s => s.recAccess q.val 4 tag.toNat addr.toNat 8 true 0x81 fun s =>
    let l := s.busRead 2 addr.toNat 4
    let h := l.1.busRead 2 (addr.toNat + 4) 4
    (h.1, l.2.toNat + 2 ^ 32 * h.2.toNat)

/-- FENCE (R318). -/
def execFence (q : Fin 8) (cpl : Bool) (tag : BitVec 16) (s : State) : Host.Outcome State Fault Refusal :=
  s.afterLive fun s =>
    if s.fenceFree q.val tag.toNat then
      s.recOther q.val 5 tag.toNat fun s => s.onDev fun d => d.complete q.val tag.toNat 0x82 0 0 cpl
    else s

/-- UPLOAD_TRACE (R326). -/
def execUploadTrace (q : Fin 8) (tag : BitVec 16) (addr : BitVec 26) (buf : BitVec 48) (len : BitVec 16) (s : State) :
    Host.Outcome State Fault Refusal :=
  s.afterLive fun s => s.recOther q.val 6 tag.toNat fun s => s.upTrace q.val tag.toNat addr.toNat buf.toNat len.toNat

/-- UPLOAD_REC (R326, R385). -/
def execUploadRec (q : Fin 8) (tag : BitVec 16) (buf : BitVec 48) (len : BitVec 16) (s : State) : Host.Outcome State Fault Refusal :=
  s.afterLive fun s => s.recOther q.val 7 tag.toNat fun s => s.upRec q.val tag.toNat buf.toNat len.toNat

/-- An upload completes (R326). -/
def execUploadDone (s : State) : Host.Outcome State Fault Refusal := s.afterLive State.upDone

/-- NOP (Table 14-3). -/
def execDescNop (q : Fin 8) (cpl : Bool) (tag : BitVec 16) (s : State) : Host.Outcome State Fault Refusal :=
  s.afterLive fun s => s.recOther q.val 8 tag.toNat fun s => s.onDev fun d => d.complete q.val tag.toNat 0x82 0 0 cpl

/-- A record with an undefined OP or nonzero reserved bits is answered with BADOP (R325). -/
def execBadop (q : Fin 8) (desc : BitVec 128) (s : State) : Host.Outcome State Fault Refusal :=
  s.afterLive fun s =>
    if descOk desc then s
    else s.recOther q.val (desc.toNat % 256) (descTag desc) fun s => s.onDev fun d => d.produce (8 + q.val / 2) 0x86 1 (descTag desc) 0

/-- A doorbell is written (R315). -/
def execQmgrDoorbell (q : BitVec 20) (s : State) : Host.Outcome State Fault Refusal :=
  s.afterLive fun s => if s.dev.reachable then s.doorbell q.toNat else s

/-- The scheduler serves an address (R316). -/
def execSchedulerTurn (s : State) : Host.Outcome State Fault Refusal := s.afterLive State.schedTurn

/-- The master receives a record for a device-to-host index of an address (R323). -/
def execDeviceRecordRx (addr : BitVec 16) (idx : Fin 8) (rec : BitVec 128) (s : State) : Host.Outcome State Fault Refusal :=
  s.afterLive fun s => s.recordRx addr.toNat (8 + idx.val) rec

/-- The oldest outstanding record has had no completion for QMGR_TMO (R325). -/
def execQmgrTimeout (s : State) : Host.Outcome State Fault Refusal := s.afterLive State.timeout

end Sys2Proof.Machine
end

