-- ==== Sys2Proof/Machine/RecorderExec.lean ====
section
/-! DEFINITION. The event recorder, the observation port and the test access port (17, 18). -/

namespace Sys2Proof.Machine

open Sys2Proof

/-! ### The recorder -/

/-- An operating second passes (R367). -/
def execOperatingSecond (s : State) : Host.Outcome State Fault Refusal :=
  s.after fun s => s.onDev fun d => if d.fld pDev R.DEV_PWR_EFF = 0 then d else d.second

/-- REC_CTL.FLUSH is written (R376). -/
def execFlush (s : State) : Host.Outcome State Fault Refusal := s.afterRun fun s => s.strobe (pRec + 0x40) 0 1

/-- A flash operation ends (R377, R378, R383). While the device is held in reset only the tail writer goes on (R378). -/
def execFlashOperationDone (r : FlashResult) (s : State) : Host.Outcome State Fault Refusal :=
  s.after fun s => s.onDev fun d => if d.pins.held then d.tailHeld (r == .good) else d.flashDone r

/-- A flash operation exceeds twice its declared time: the interface stops (R373, R383). -/
def execFlashTimeout (s : State) : Host.Outcome State Fault Refusal :=
  s.after fun s => s.onDev fun d => if d.pins.held then d.tailHeld false else d.flashStop 2

/-- FAULT_GAP ends (R376). -/
def execFaultGapExpiry (s : State) : Host.Outcome State Fault Refusal := s.afterTick Dev.gapExpire

/-- PFAIL_N is asserted (R378): its logic is always on, so a device in chip reset writes a tail that stands ready; one in power-on
reset has no recorder to write it. -/
def Dev.pfail (d : Dev) : Dev :=
  let st := d.fld pRec R.REC_STAT_STATE
  let ready := d.flag pRec R.REC_STAT_TAIL_READY && (st == 1 || st == 2)
  if d.pins.porHold || (d.pins.held && !ready) then { d with pins := { d.pins with pfailN := false } } else d.powerFail

/-- PFAIL_N is asserted (R378). -/
def execPfailAssert (s : State) : Host.Outcome State Fault Refusal := s.after fun s => s.onDev Dev.pfail

/-- PFAIL_N is released (R378). -/
def execPfailRelease (s : State) : Host.Outcome State Fault Refusal := s.after fun s => s.onDev Dev.powerBack

/-- REC_CTL.CLEAR is written (R381). -/
def execClear (scope : BitVec 3) (s : State) : Host.Outcome State Fault Refusal :=
  s.afterRun fun s => s.strobe (pRec + 0x40) 0x70 (2 + 16 * scope.toNat)

/-- REC_CTL.ADOPT is written (R382). -/
def execAdopt (scope : BitVec 3) (s : State) : Host.Outcome State Fault Refusal :=
  s.afterRun fun s => s.strobe (pRec + 0x40) 0x70 (4 + 16 * scope.toNat)

/-- REC_HOST_INC is written (R371). -/
def execRecHostInc (c : BitVec 4) (s : State) : Host.Outcome State Fault Refusal := s.afterRun fun s => s.poke (pRec + 0x70) c.toNat

/-! ### The observation port -/

/-- A packet boundary (R389). -/
def execObsPacketSlot (s : State) : Host.Outcome State Fault Refusal := s.afterTick Dev.obsPacket

/-- OBS_PC_CTL.FREEZE is written with 1 (R392). -/
def execCounterFreeze (s : State) : Host.Outcome State Fault Refusal := s.afterRun fun s => s.strobe (pObs + 0x5C) 0 1

/-- OBS_PC_CTL.FREEZE is written with 0 (R392). -/
def execCounterUnfreeze (s : State) : Host.Outcome State Fault Refusal := s.afterRun fun s => s.strobe (pObs + 0x5C) 1 0

/-- OBS_PC_CTL.CLEAR is written (R392). -/
def execCounterClear (s : State) : Host.Outcome State Fault Refusal := s.afterRun fun s => s.strobe (pObs + 0x5C) 0 2

/-! ### The test access port (R394) -/

/-- BYPASS. -/
def execBypass (s : State) : Host.Outcome State Fault Refusal := s.after fun s => s.onDev Dev.scanBypass

/-- IDCODE. -/
def execIdcode (s : State) : Host.Outcome State Fault Refusal := s.after fun s => s.onDev Dev.scanIdcode

/-- SAMPLE/PRELOAD. -/
def execSamplePreload (load : Option (List Bool)) (s : State) : Host.Outcome State Fault Refusal :=
  s.after fun s => s.onDev fun d => d.scanSample load

/-- EXTEST. -/
def execExtest (s : State) : Host.Outcome State Fault Refusal := s.after fun s => s.onDev Dev.scanExtest

/-- CLAMP. -/
def execJtagClamp (s : State) : Host.Outcome State Fault Refusal := s.after fun s => s.onDev Dev.scanClamp

/-- HIGHZ. -/
def execHighz (s : State) : Host.Outcome State Fault Refusal := s.after fun s => s.onDev Dev.scanHighz

/-- JTAG_TRST_N is asserted. -/
def execJtagTrstNAssert (s : State) : Host.Outcome State Fault Refusal := s.after fun s => s.onDev Dev.scanReset

end Sys2Proof.Machine
end

