-- ==== Sys2Proof/Machine/TimeExec.lean ====
section
/-! DEFINITION. Frame time, its sources, side control, and the frame actions (02). -/

namespace Sys2Proof.Machine

open Sys2Proof

/-! ### Cycles of CK_FRAME (R29, R30, R56, R426) -/

/-- A word leaves receive chain `j` of channel `n`: the canceller sees it, its block grows, the gain stage is owed it, and snapshots
take it (R106, R135, R138, R349). -/
def Dev.deliver (d : Dev) (n j : Nat) (w : SampleWord) : Dev :=
  let c := d.canceller n
  let d := if d.hasCanc n then d.setCanc n { c with x := mput .init c.x j w } else d
  let s := d.strm n j
  (d.setStrm n j { s with cur := s.cur ++ [w], waiting := s.waiting + 1 }).snapPush n j 0 w

/-- The samples of one cycle pass the converters and every chain. -/
def Dev.samples (d : Dev) (adc : AdcIn) : Dev :=
  let r := d.rxTick adc
  let d := r.2.foldl (fun d x => d.deliver x.1 x.2.1 x.2.2) r.1
  d.dacTicks.convTicks adc

/-- One cycle in which the counter advances by as many ticks as `k` says. -/
def Dev.cycle (d : Dev) (k : Dev → Nat × Dev) (adc : AdcIn) : Dev :=
  let r := k d.gatherCorr
  (r.2.advance r.1).samples adc

/-- One CK_FRAME cycle (R29). -/
def execTick (adc : AdcIn) (s : State) : Host.Outcome State Fault Refusal :=
  s.afterTick fun d => d.cycle (fun d => (1, d)) adc

/-- A cycle in which the frequency correction may act (R30). -/
def execFreqCorrAdjust (adc : AdcIn) (s : State) : Host.Outcome State Fault Refusal :=
  s.afterTick fun d => d.cycle Dev.corrAdvance adc

/-- A cycle in which slewing may act (R30). -/
def execSlewAdjust (adc : AdcIn) (s : State) : Host.Outcome State Fault Refusal :=
  s.afterTick fun d => d.cycle Dev.slewAdvance adc

/-- The counter reaches the next frame boundary (R29, R426). -/
def execFrameBoundary (adc : AdcIn) (s : State) : Host.Outcome State Fault Refusal :=
  s.afterTick fun d => d.toBoundary.samples adc

/-- STEP_GUARD clears (R50). -/
def execStepGuardClear (s : State) : Host.Outcome State Fault Refusal :=
  s.afterTick fun d => d.setFld pFrame R.FRAME_STAT_STEP_GUARD 0

/-! ### Sources (R31 to R33) -/

/-- An acquirer detects its cell (R32). -/
def execTaDetection (ta : Fin 8) (pbch : Bool) (sfn : BitVec 10) (tick16 : BitVec 27) (s : State) : Host.Outcome State Fault Refusal :=
  s.afterTick fun d => d.taDetect ta.val pbch sfn.toNat tick16.toNat

/-- Four sync periods without detection (R33). -/
def execTaDetectionTimeout (ta : Fin 8) (s : State) : Host.Outcome State Fault Refusal := s.afterTick fun d => d.setTa ta.val 0

/-- A PPS_IN edge (R31). -/
def execPpsInEdge (sub : Fin 16) (s : State) : Host.Outcome State Fault Refusal := s.afterTick fun d => d.ppsEdge sub.val

/-- PPS edges fail to come, twice in succession (R33). -/
def execPpsEdgeTimeout (s : State) : Host.Outcome State Fault Refusal := s.afterTick Dev.ppsTimeout

/-- A source of higher priority takes over (R33). -/
def execSourceTakeover (s : State) : Host.Outcome State Fault Refusal := s.afterTick Dev.takeover

/-! ### Side control (R36 to R39, R240) -/

/-- A TIME message (R36). -/
def execTime (sfn : BitVec 10) (ago : BitVec 16) (s : State) : Host.Outcome State Fault Refusal :=
  s.afterTick fun d => d.scTime sfn.toNat ago.toNat

/-- A SLOTS message (R36, R38). -/
def execSlots (frame : BitVec 10) (scs : Fin 3) (codes : BitVec 80) (s : State) : Host.Outcome State Fault Refusal :=
  s.afterTick fun d => d.scSlots frame.toNat scs.val codes.toNat

/-- A BEAM message (R240). -/
def execBeam (frame : BitVec 10) (slot : BitVec 6) (grp : BitVec 4) (idx : BitVec 8) (s : State) : Host.Outcome State Fault Refusal :=
  s.afterTick fun d => d.scBeam frame.toNat slot.toNat grp.toNat idx.toNat

/-- An ONOFF message (R36, R38). -/
def execOnoff (frame : BitVec 10) (on : Bool) (s : State) : Host.Outcome State Fault Refusal :=
  s.afterTick fun d => d.scOnOff frame.toNat on

/-- A message fails its CRC or its framing (R36). -/
def execScMessageFail (msg : BitVec 128) (fsHigh : Bool) (s : State) : Host.Outcome State Fault Refusal :=
  s.afterTick fun d => if fsHigh || !scCrcOk msg then d.scFail else d

/-- A message passes its check and its type is undefined, or it is a SLOTS message with SCS = 3 (R36). -/
def execScMessageDiscard (msg : BitVec 128) (s : State) : Host.Outcome State Fault Refusal :=
  s.afterTick fun d =>
    let t := bitsOf msg.toNat 127 124
    if scCrcOk msg && (t == 0 || decide (4 < t) || (t == 2 && bitsOf msg.toNat 105 104 == 3)) then d.scDiscard else d

/-- SC loss (R39). -/
def execScLoss (s : State) : Host.Outcome State Fault Refusal := s.afterTick Dev.scLose

/-! ### The event table (R42, R46) -/

/-- The dispatcher reaches an entry (R42). -/
def execDispatcherEntryRead (n : Fin 32768) (s : State) : Host.Outcome State Fault Refusal := s.afterTick fun d => d.entryRead n.val

/-- A queued action reaches its issue time (R46). -/
def execActionIssue (s : State) : Host.Outcome State Fault Refusal := s.afterRun State.issueNext

/-! ### Frame actions as such (Table 02-9; log entry 41) -/

/-- An action of code `a` acts at its target time, outside the table: tag 0. -/
def State.act (s : State) (a : Nat) (f : State → State) : Host.Outcome State Fault Refusal :=
  s.afterRun fun s => (f s).onDev fun d => d.acted a

/-- NOP. -/
def execNop (s : State) : Host.Outcome State Fault Refusal := s.act 0 id

/-- COMMIT (R336). -/
def execCommit (cls : BitVec 9) (inst : BitVec 12) (s : State) : Host.Outcome State Fault Refusal :=
  s.act 1 fun s => s.doCommit cls.toNat inst.toNat

/-- GATE_OPEN (R47): S-TX gates belong to group 1, D-TX gates to group 3. -/
def execGateOpen (dtx : Bool) (mask : BitVec 4) (gov : Option (Fin 4)) (s : State) : Host.Outcome State Fault Refusal :=
  s.act 2 fun s => s.onDev fun d =>
    let ok := match gov with
      | some g => d.slotAllows g.val d.now
      | none => true
    d.gateOpenAct (if dtx then 3 else 1) mask.toNat ok

/-- GATE_CLOSE (R42). -/
def execGateClose (dtx : Bool) (mask : BitVec 4) (s : State) : Host.Outcome State Fault Refusal :=
  s.act 3 fun s => s.onDev fun d => d.gateCloseAct (if dtx then 3 else 1) mask.toNat

/-- PATH_STATE (R224). -/
def execPathState (g : Fin 4) (st : BitVec 4) (s : State) : Host.Outcome State Fault Refusal :=
  s.act 4 fun s => s.onDev fun d => d.doPath g.val st.toNat

/-- RFFE_WR (R238). -/
def execRffeWr (m : Fin 4) (usid : BitVec 4) (addr : BitVec 16) (data : BitVec 8) (long : Bool) (s : State) :
    Host.Outcome State Fault Refusal :=
  s.act 5 fun s => s.onDev fun d => d.doRffe m.val usid.toNat addr.toNat data.toNat long 0

/-- GPIO_SET (R241). -/
def execGpioSet (n : Fin 48) (level highz : Bool) (s : State) : Host.Outcome State Fault Refusal :=
  s.act 6 fun s => s.onDev fun d => d.gpioDrive n.val level highz

/-- BIAS_LOAD (R262). -/
def execBiasLoad (grp : Fin 4) (s : State) : Host.Outcome State Fault Refusal :=
  s.act 7 fun s => s.onDev fun d => d.biasStrobe grp.val 0

/-- BIAS_RAMP (R263). -/
def execBiasRamp (grp : Fin 4) (lead : BitVec 15) (s : State) : Host.Outcome State Fault Refusal :=
  s.act 8 fun s => s.onDev fun d => d.biasRamp grp.val lead.toNat 0

/-- CONV_WAKE (R427). -/
def execConvWake (conv : Fin 16) (wake : Bool) (s : State) : Host.Outcome State Fault Refusal :=
  s.act 9 fun s => s.onDev fun d => d.convWake conv.val wake

/-- MON_TRIG (R246). -/
def execMonTrig (inst : Fin 3) (kind : Fin 4) (s : State) : Host.Outcome State Fault Refusal :=
  s.act 10 fun s => s.onDev fun d => d.monTrigger inst.val kind.val

/-- COEF_SWAP (R82). -/
def execCoefSwap (ch : Fin 192) (bank : Bool) (k : BitVec 4) (s : State) : Host.Outcome State Fault Refusal :=
  s.act 11 fun s => s.onDev fun d => d.requestSwap ch.val bank.toNat k.toNat

/-- IMG_SWAP (R143). -/
def execImgSwap (tgt : SwapTarget) (s : State) : Host.Outcome State Fault Refusal :=
  s.act 12 fun s => s.onDev fun d =>
    match tgt with
    | .eng e => d.swapArm e.val
    | .bench b => d.benchSwap b.val

/-- CANC_FREEZE (R108). -/
def execCancFreeze (ch : Fin 192) (s : State) : Host.Outcome State Fault Refusal :=
  s.act 13 fun s => s.onDev fun d => d.cancFreeze ch.val true

/-- CANC_RELEASE (R108). -/
def execCancRelease (ch : Fin 192) (s : State) : Host.Outcome State Fault Refusal :=
  s.act 14 fun s => s.onDev fun d => d.cancFreeze ch.val false

/-- SIEVE_SYNC (R63). -/
def execSieveSync (mask : BitVec 16) (s : State) : Host.Outcome State Fault Refusal :=
  s.act 15 fun s => s.onDev fun d => d.sieveSync mask.toNat

/-- USER (R45). -/
def execUser (s : State) : Host.Outcome State Fault Refusal := s.act 16 fun s => s.onDev fun d => d.raiseEvt pFrame 15

/-- A BEAM entry is issued (R240). -/
def execBeamWriteIssue (s : State) : Host.Outcome State Fault Refusal := s.afterTick Dev.beamDue

end Sys2Proof.Machine
end

