-- ==== Sys2Proof/Machine/Dispatch.lean ====
section
/-! DEFINITION. One arm per command: each calls its meaning. -/

namespace Sys2Proof.Machine

open Sys2Proof

def exec (i : Instr) (s : State) : Host.Outcome State Fault Refusal :=
  match i with
  | .powerOnResetRelease p => Sys2Proof.Machine.execPowerOnResetRelease p s
  | .fabricReady => Sys2Proof.Machine.execFabricReady s
  | .recorderRestoreDone usable slots foreign ms => Sys2Proof.Machine.execRecorderRestoreDone usable slots foreign ms s
  | .ckRefLoss => Sys2Proof.Machine.execCkRefLoss s
  | .ckRefReturn => Sys2Proof.Machine.execCkRefReturn s
  | .resetNAssert => Sys2Proof.Machine.execResetNAssert s
  | .resetNRelease => Sys2Proof.Machine.execResetNRelease s
  | .perstNAssert => Sys2Proof.Machine.execPerstNAssert s
  | .functionLevelReset => Sys2Proof.Machine.execFunctionLevelReset s
  | .supplyDip rail => Sys2Proof.Machine.execSupplyDip rail s
  | .vaonLow lost => Sys2Proof.Machine.execVaonLow lost s
  | .nvmSupplyLoss => Sys2Proof.Machine.execNvmSupplyLoss s
  | .corePllUnlock => Sys2Proof.Machine.execCorePllUnlock s
  | .systemPllUnlock => Sys2Proof.Machine.execSystemPllUnlock s
  | .haulPllUnlock => Sys2Proof.Machine.execHaulPllUnlock s
  | .pcieRefclkLoss => Sys2Proof.Machine.execPcieRefclkLoss s
  | .pcieLinkDown => Sys2Proof.Machine.execPcieLinkDown s
  | .registerWrite path addr bytes data => Sys2Proof.Machine.execRegisterWrite path addr bytes data s
  | .readClear path addr => Sys2Proof.Machine.execReadClear path addr s
  | .pairLowerRead path addr => Sys2Proof.Machine.execPairLowerRead path addr s
  | .pairUpperRead path addr => Sys2Proof.Machine.execPairUpperRead path addr s
  | .pairLowerWrite path addr data => Sys2Proof.Machine.execPairLowerWrite path addr data s
  | .pairUpperWrite path addr data => Sys2Proof.Machine.execPairUpperWrite path addr data s
  | .eventEntryStageWrite path n w data => Sys2Proof.Machine.execEventEntryStageWrite path n w data s
  | .eventEntryTopWrite path n data => Sys2Proof.Machine.execEventEntryTopWrite path n data s
  | .eventEntryLatchRead path n => Sys2Proof.Machine.execEventEntryLatchRead path n s
  | .pageCommit page => Sys2Proof.Machine.execPageCommit page s
  | .commitArm page => Sys2Proof.Machine.execCommitArm page s
  | .commitComplete page => Sys2Proof.Machine.execCommitComplete page s
  | .softRst page => Sys2Proof.Machine.execSoftRst page s
  | .softResetDone page => Sys2Proof.Machine.execSoftResetDone page s
  | .pgEvtSet page bits => Sys2Proof.Machine.execPgEvtSet page bits s
  | .faultInjectArm page data => Sys2Proof.Machine.execFaultInjectArm page data s
  | .profileTakeEffect => Sys2Proof.Machine.execProfileTakeEffect s
  | .tick adc => Sys2Proof.Machine.execTick adc s
  | .freqCorrAdjust adc => Sys2Proof.Machine.execFreqCorrAdjust adc s
  | .slewAdjust adc => Sys2Proof.Machine.execSlewAdjust adc s
  | .frameBoundary adc => Sys2Proof.Machine.execFrameBoundary adc s
  | .stepGuardClear => Sys2Proof.Machine.execStepGuardClear s
  | .taDetection ta pbch sfn tick16 => Sys2Proof.Machine.execTaDetection ta pbch sfn tick16 s
  | .taDetectionTimeout ta => Sys2Proof.Machine.execTaDetectionTimeout ta s
  | .ppsInEdge sub => Sys2Proof.Machine.execPpsInEdge sub s
  | .ppsEdgeTimeout => Sys2Proof.Machine.execPpsEdgeTimeout s
  | .sourceTakeover => Sys2Proof.Machine.execSourceTakeover s
  | .time sfn ago => Sys2Proof.Machine.execTime sfn ago s
  | .slots frame scs codes => Sys2Proof.Machine.execSlots frame scs codes s
  | .beam frame slot grp idx => Sys2Proof.Machine.execBeam frame slot grp idx s
  | .onoff frame on => Sys2Proof.Machine.execOnoff frame on s
  | .scMessageFail msg fsHigh => Sys2Proof.Machine.execScMessageFail msg fsHigh s
  | .scLoss => Sys2Proof.Machine.execScLoss s
  | .dispatcherEntryRead n => Sys2Proof.Machine.execDispatcherEntryRead n s
  | .actionIssue => Sys2Proof.Machine.execActionIssue s
  | .nop => Sys2Proof.Machine.execNop s
  | .commit cls inst => Sys2Proof.Machine.execCommit cls inst s
  | .gateOpen dtx mask gov => Sys2Proof.Machine.execGateOpen dtx mask gov s
  | .gateClose dtx mask => Sys2Proof.Machine.execGateClose dtx mask s
  | .pathState g st => Sys2Proof.Machine.execPathState g st s
  | .rffeWr m usid addr data long => Sys2Proof.Machine.execRffeWr m usid addr data long s
  | .gpioSet n level highz => Sys2Proof.Machine.execGpioSet n level highz s
  | .biasLoad grp => Sys2Proof.Machine.execBiasLoad grp s
  | .biasRamp grp lead => Sys2Proof.Machine.execBiasRamp grp lead s
  | .convWake conv wake => Sys2Proof.Machine.execConvWake conv wake s
  | .monTrig inst kind => Sys2Proof.Machine.execMonTrig inst kind s
  | .coefSwap ch bank k => Sys2Proof.Machine.execCoefSwap ch bank k s
  | .imgSwap tgt => Sys2Proof.Machine.execImgSwap tgt s
  | .cancFreeze ch => Sys2Proof.Machine.execCancFreeze ch s
  | .cancRelease ch => Sys2Proof.Machine.execCancRelease ch s
  | .sieveSync mask => Sys2Proof.Machine.execSieveSync mask s
  | .user => Sys2Proof.Machine.execUser s
  | .mBufferSlip conv => Sys2Proof.Machine.execMBufferSlip conv s
  | .fillEnd ch => Sys2Proof.Machine.execFillEnd ch s
  | .coarseValue ch j => Sys2Proof.Machine.execCoarseValue ch j s
  | .chFirSwap ch bank k => Sys2Proof.Machine.execChFirSwap ch bank k s
  | .firBankWrite ch w => Sys2Proof.Machine.execFirBankWrite ch w s
  | .fadeEnd ch => Sys2Proof.Machine.execFadeEnd ch s
  | .cancUpdate ch => Sys2Proof.Machine.execCancUpdate ch s
  | .streamBlockComplete ch j => Sys2Proof.Machine.execStreamBlockComplete ch j s
  | .gainStageTake ch j => Sys2Proof.Machine.execGainStageTake ch j s
  | .ulgHangExpiry ch => Sys2Proof.Machine.execUlgHangExpiry ch s
  | .bundleIssue e => Sys2Proof.Machine.execBundleIssue e s
  | .applyDelivery => Sys2Proof.Machine.execApplyDelivery s
  | .enginePeriodStart e => Sys2Proof.Machine.execEnginePeriodStart e s
  | .senseHoldExpiry => Sys2Proof.Machine.execSenseHoldExpiry s
  | .portPowerUpdate dac => Sys2Proof.Machine.execPortPowerUpdate dac s
  | .ulHold ch => Sys2Proof.Machine.execUlHold ch s
  | .ulRelease ch => Sys2Proof.Machine.execUlRelease ch s
  | .tailIssueLimit e => Sys2Proof.Machine.execTailIssueLimit e s
  | .verify e => Sys2Proof.Machine.execVerify e s
  | .verifyDone e => Sys2Proof.Machine.execVerifyDone e s
  | .engineRestart e => Sys2Proof.Machine.execEngineRestart e s
  | .invalidate e => Sys2Proof.Machine.execInvalidate e s
  | .engineStart e => Sys2Proof.Machine.execEngineStart e s
  | .swapTake e => Sys2Proof.Machine.execSwapTake e s
  | .oobeWindowEnd ch est => Sys2Proof.Machine.execOobeWindowEnd ch est s
  | .backoffExpiry scope => Sys2Proof.Machine.execBackoffExpiry scope s
  | .attemptReset scope => Sys2Proof.Machine.execAttemptReset scope s
  | .clkVerdictEnd syn => Sys2Proof.Machine.execClkVerdictEnd syn s
  | .protClrChannel ch => Sys2Proof.Machine.execProtClrChannel ch s
  | .protClrAllChannels => Sys2Proof.Machine.execProtClrAllChannels s
  | .protClrDownlink => Sys2Proof.Machine.execProtClrDownlink s
  | .protClrUplink => Sys2Proof.Machine.execProtClrUplink s
  | .protClrDevice => Sys2Proof.Machine.execProtClrDevice s
  | .divergeTimeout page g => Sys2Proof.Machine.execDivergeTimeout page g s
  | .synRecal syn => Sys2Proof.Machine.execSynRecal syn s
  | .synLock syn band cp us => Sys2Proof.Machine.execSynLock syn band cp us s
  | .synCalFail syn band cp us => Sys2Proof.Machine.execSynCalFail syn band cp us s
  | .synUnlock syn => Sys2Proof.Machine.execSynUnlock syn s
  | .synRelockWaitExpiry syn => Sys2Proof.Machine.execSynRelockWaitExpiry syn s
  | .synRecalRetry syn => Sys2Proof.Machine.execSynRecalRetry syn s
  | .rotationStep adc => Sys2Proof.Machine.execRotationStep adc s
  | .spareHandover adc m => Sys2Proof.Machine.execSpareHandover adc m s
  | .calStart => Sys2Proof.Machine.execCalStart s
  | .calLoad => Sys2Proof.Machine.execCalLoad s
  | .calLevel => Sys2Proof.Machine.execCalLevel s
  | .calAbort => Sys2Proof.Machine.execCalAbort s
  | .calStepEnd m => Sys2Proof.Machine.execCalStepEnd m s
  | .levelCheckDone ms => Sys2Proof.Machine.execLevelCheckDone ms s
  | .freezeSets on => Sys2Proof.Machine.execFreezeSets on s
  | .calSigReady => Sys2Proof.Machine.execCalSigReady s
  | .calSetWindowWrite off data => Sys2Proof.Machine.execCalSetWindowWrite off data s
  | .pathStepStart g => Sys2Proof.Machine.execPathStepStart g s
  | .pathStepComplete g => Sys2Proof.Machine.execPathStepComplete g s
  | .sequenceStepDone g => Sys2Proof.Machine.execSequenceStepDone g s
  | .autoReturn g => Sys2Proof.Machine.execAutoReturn g s
  | .converterWakeDone conv => Sys2Proof.Machine.execConverterWakeDone conv s
  | .timedWriteStart m => Sys2Proof.Machine.execTimedWriteStart m s
  | .rffeCommandEnd m rd perr => Sys2Proof.Machine.execRffeCommandEnd m rd perr s
  | .rffeRegisterWrite m c => Sys2Proof.Machine.execRffeRegisterWrite m c s
  | .rffeExtRegisterWrite m c => Sys2Proof.Machine.execRffeExtRegisterWrite m c s
  | .rffeExtRegisterWriteLong m c => Sys2Proof.Machine.execRffeExtRegisterWriteLong m c s
  | .rffeRegisterRead m c => Sys2Proof.Machine.execRffeRegisterRead m c s
  | .rffeExtRegisterRead m c => Sys2Proof.Machine.execRffeExtRegisterRead m c s
  | .rffeExtRegisterReadLong m c => Sys2Proof.Machine.execRffeExtRegisterReadLong m c s
  | .rffeHostCmdStart m => Sys2Proof.Machine.execRffeHostCmdStart m s
  | .beamWriteIssue => Sys2Proof.Machine.execBeamWriteIssue s
  | .monConvGo conv kind => Sys2Proof.Machine.execMonConvGo conv kind s
  | .monTrigPinEdge rising => Sys2Proof.Machine.execMonTrigPinEdge rising s
  | .comparatorTrip n => Sys2Proof.Machine.execComparatorTrip n s
  | .conversionEnd c code => Sys2Proof.Machine.execConversionEnd c code s
  | .refSettled extOk => Sys2Proof.Machine.execRefSettled extOk s
  | .biasGrpLd groups => Sys2Proof.Machine.execBiasGrpLd groups s
  | .biasLdNFall => Sys2Proof.Machine.execBiasLdNFall s
  | .biasClrNAssert => Sys2Proof.Machine.execBiasClrNAssert s
  | .biasClrNRelease => Sys2Proof.Machine.execBiasClrNRelease s
  | .biasRampEnd n => Sys2Proof.Machine.execBiasRampEnd n s
  | .biasDeglitchEnd n => Sys2Proof.Machine.execBiasDeglitchEnd n s
  | .biasRangeChangeEnd n => Sys2Proof.Machine.execBiasRangeChangeEnd n s
  | .biasShortCircuit n => Sys2Proof.Machine.execBiasShortCircuit n s
  | .biasCompliance n => Sys2Proof.Machine.execBiasCompliance n s
  | .dieReading t fault => Sys2Proof.Machine.execDieReading t fault s
  | .thermClr ext => Sys2Proof.Machine.execThermClr ext s
  | .linkBlockLock h => Sys2Proof.Machine.execLinkBlockLock h s
  | .linkAlign h orderOk => Sys2Proof.Machine.execLinkAlign h orderOk s
  | .linkDown h cause => Sys2Proof.Machine.execLinkDown h cause s
  | .haulPeriodStart h => Sys2Proof.Machine.execHaulPeriodStart h s
  | .haulFramePosition h sub => Sys2Proof.Machine.execHaulFramePosition h sub s
  | .ctrlFrameRx h frame sub => Sys2Proof.Machine.execCtrlFrameRx h frame sub s
  | .mgmtFrameRx h frame cut => Sys2Proof.Machine.execMgmtFrameRx h frame cut s
  | .sampleFrameRx h frame => Sys2Proof.Machine.execSampleFrameRx h frame s
  | .emptyFrameRx h frame => Sys2Proof.Machine.execEmptyFrameRx h frame s
  | .scheduleTake h => Sys2Proof.Machine.execScheduleTake h s
  | .playoutRelease h => Sys2Proof.Machine.execPlayoutRelease h s
  | .enumFull => Sys2Proof.Machine.execEnumFull s
  | .enumKeep => Sys2Proof.Machine.execEnumKeep s
  | .enumDone => Sys2Proof.Machine.execEnumDone s
  | .syncGo => Sys2Proof.Machine.execSyncGo s
  | .haulSyncApply => Sys2Proof.Machine.execHaulSyncApply s
  | .qmgrDoorbell q => Sys2Proof.Machine.execQmgrDoorbell q s
  | .schedulerTurn => Sys2Proof.Machine.execSchedulerTurn s
  | .wr32 q cpl tag addr data => Sys2Proof.Machine.execWr32 q cpl tag addr data s
  | .wr64 q cpl tag addr data => Sys2Proof.Machine.execWr64 q cpl tag addr data s
  | .rd32 q tag addr => Sys2Proof.Machine.execRd32 q tag addr s
  | .rd64 q tag addr => Sys2Proof.Machine.execRd64 q tag addr s
  | .fence q cpl tag => Sys2Proof.Machine.execFence q cpl tag s
  | .uploadTrace q tag addr buf len => Sys2Proof.Machine.execUploadTrace q tag addr buf len s
  | .uploadRec q tag buf len => Sys2Proof.Machine.execUploadRec q tag buf len s
  | .uploadDone => Sys2Proof.Machine.execUploadDone s
  | .descNop q cpl tag => Sys2Proof.Machine.execDescNop q cpl tag s
  | .deviceRecordRx addr idx rec => Sys2Proof.Machine.execDeviceRecordRx addr idx rec s
  | .qmgrTimeout => Sys2Proof.Machine.execQmgrTimeout s
  | .write addr words => Sys2Proof.Machine.execWrite addr words s
  | .read addr n => Sys2Proof.Machine.execRead addr n s
  | .qwrite addr words => Sys2Proof.Machine.execQwrite addr words s
  | .qread addr n => Sys2Proof.Machine.execQread addr n s
  | .status => Sys2Proof.Machine.execStatus s
  | .spiCsRise inWord => Sys2Proof.Machine.execSpiCsRise inWord s
  | .xlatInvRange size => Sys2Proof.Machine.execXlatInvRange size s
  | .xlatInvAll => Sys2Proof.Machine.execXlatInvAll s
  | .invalidationComplete => Sys2Proof.Machine.execInvalidationComplete s
  | .faultFifoPop => Sys2Proof.Machine.execFaultFifoPop s
  | .dmaGo d => Sys2Proof.Machine.execDmaGo d s
  | .dmaResume d => Sys2Proof.Machine.execDmaResume d s
  | .dmaAbort d => Sys2Proof.Machine.execDmaAbort d s
  | .dmaBeat r => Sys2Proof.Machine.execDmaBeat r s
  | .dmaFeed d w => Sys2Proof.Machine.execDmaFeed d w s
  | .irqAck v => Sys2Proof.Machine.execIrqAck v s
  | .faultRaise fs => Sys2Proof.Machine.execFaultRaise fs s
  | .chipResetRelease => Sys2Proof.Machine.execChipResetRelease s
  | .errAck => Sys2Proof.Machine.execErrAck s
  | .faultStickyClear w bits => Sys2Proof.Machine.execFaultStickyClear w bits s
  | .faultRecordClear b => Sys2Proof.Machine.execFaultRecordClear b s
  | .operatingSecond => Sys2Proof.Machine.execOperatingSecond s
  | .flush => Sys2Proof.Machine.execFlush s
  | .flashOperationDone r => Sys2Proof.Machine.execFlashOperationDone r s
  | .flashTimeout => Sys2Proof.Machine.execFlashTimeout s
  | .faultGapExpiry => Sys2Proof.Machine.execFaultGapExpiry s
  | .pfailAssert => Sys2Proof.Machine.execPfailAssert s
  | .pfailRelease => Sys2Proof.Machine.execPfailRelease s
  | .clear scope => Sys2Proof.Machine.execClear scope s
  | .adopt scope => Sys2Proof.Machine.execAdopt scope s
  | .recHostInc c => Sys2Proof.Machine.execRecHostInc c s
  | .obsPacketSlot => Sys2Proof.Machine.execObsPacketSlot s
  | .counterFreeze => Sys2Proof.Machine.execCounterFreeze s
  | .counterUnfreeze => Sys2Proof.Machine.execCounterUnfreeze s
  | .counterClear => Sys2Proof.Machine.execCounterClear s
  | .bypass => Sys2Proof.Machine.execBypass s
  | .idcode => Sys2Proof.Machine.execIdcode s
  | .samplePreload load => Sys2Proof.Machine.execSamplePreload load s
  | .extest => Sys2Proof.Machine.execExtest s
  | .jtagClamp => Sys2Proof.Machine.execJtagClamp s
  | .highz => Sys2Proof.Machine.execHighz s
  | .badAccessRead path addr bytes => Sys2Proof.Machine.execBadAccessRead path addr bytes s
  | .scMessageDiscard msg => Sys2Proof.Machine.execScMessageDiscard msg s
  | .haulFrameFail h frame => Sys2Proof.Machine.execHaulFrameFail h frame s
  | .badop q desc => Sys2Proof.Machine.execBadop q desc s
  | .spiUndefinedCommand cmd => Sys2Proof.Machine.execSpiUndefinedCommand cmd s
  | .perstNRelease => Sys2Proof.Machine.execPerstNRelease s
  | .pcieLinkUp => Sys2Proof.Machine.execPcieLinkUp s
  | .pcieRefclkReturn => Sys2Proof.Machine.execPcieRefclkReturn s
  | .haulPllRelock => Sys2Proof.Machine.execHaulPllRelock s
  | .nvmSupplyReturn code => Sys2Proof.Machine.execNvmSupplyReturn code s
  | .dataReadTimeout d => Sys2Proof.Machine.execDataReadTimeout d s
  | .synSelfRelock syn => Sys2Proof.Machine.execSynSelfRelock syn s
  | .jtagTrstNAssert => Sys2Proof.Machine.execJtagTrstNAssert s

end Sys2Proof.Machine
end

