-- ==== Sys2Proof/Safety.lean ====
section
/-! DEFINITION. What counts as a safe run: the invariant every step keeps, the commands that a device in reset takes, and the states in
which nothing waits to follow a command. -/

namespace Sys2Proof.Machine

open Sys2Proof

/-- No signal waits between commands, and host memory stands in its canonical form. -/
def State.Inv (s : State) : Prop := s.dev.wires = .init ∧ Memory.wf s.host.mem = true

/-- The commands that a device held in a reset takes: supplies and resets, CK_REF, the pins whose logic is always on (BIAS_CLR_N, PFAIL_N),
the operating clock, the flash interface with its tail writer, and the test access port (R12, R23, R266, R378, R394, R399, R403, R404). -/
def actsInReset : Instr → Bool
  | .powerOnResetRelease _ => true
  | .ckRefLoss => true
  | .ckRefReturn => true
  | .resetNAssert => true
  | .resetNRelease => true
  | .perstNAssert => true
  | .perstNRelease => true
  | .functionLevelReset => true
  | .supplyDip _ => true
  | .vaonLow _ => true
  | .nvmSupplyLoss => true
  | .nvmSupplyReturn _ => true
  | .biasClrNAssert => true
  | .biasClrNRelease => true
  | .chipResetRelease => true
  | .operatingSecond => true
  | .flashOperationDone _ => true
  | .flashTimeout => true
  | .pfailAssert => true
  | .pfailRelease => true
  | .bypass => true
  | .idcode => true
  | .samplePreload _ => true
  | .extest => true
  | .jtagClamp => true
  | .highz => true
  | .jtagTrstNAssert => true
  | _ => false

/-- Nothing follows a command that leaves the device so: it is in no reset, raised no signal but that of a bad access, no level fault
stands, no reaction is in progress, no page has a state to show, and nothing waits for a ring or a record. -/
def Dev.quiet (d : Dev) : Bool :=
  !d.pins.held && decide ({ d.wires with bad := false } = Wires.init) && d.fault.standing.isEmpty && d.fault.progress.isEmpty &&
    d.stirred.isEmpty && d.snapFeed.isEmpty && d.traceFeed.isEmpty && d.monFeed.isEmpty && d.outbox.isEmpty

/-- The two states show the same frame, and the same gates are open. -/
def Dev.sameFrame (d o : Dev) : Bool :=
  d.frame.frame == o.frame.frame && d.frame.hyper == o.frame.hyper && d.front.gates == o.front.gates

/-- Nothing of the device differs from `o` but the registers at the addresses of `l`, and what waits on its wires. -/
def Dev.onlyRegs (d o : Dev) (l : List Nat) : Prop :=
  { d with regs := o.regs, wires := o.wires } = o ∧ ∀ a, a ∉ l → d.reg a = o.reg a

/-- Nothing of the block differs from `s` but the registers at the addresses of `l`, and what waits on the device's wires. -/
def State.onlyRegs (u s : State) (l : List Nat) : Prop := u.dev.onlyRegs s.dev l ∧ u.host = s.host ∧ u.pending = s.pending

/-- Nothing outside the device differs from `s`. -/
def State.onlyDev (u s : State) : Prop := u.host = s.host ∧ u.pending = s.pending

/-- The registers outside the addresses of `l` read as in `o`, in effect and in the shadow. -/
def Dev.regsBut (d o : Dev) (l : List Nat) : Prop := ∀ a, a ∉ l → d.reg a = o.reg a ∧ d.shadowReg a = o.shadowReg a

end Sys2Proof.Machine
end

