-- ==== Sys2Proof/Certificates/Slice0/Obligations.lean ====
section
/-! DEFINITION. What the provers are asked to show of the block: one statement after another, family by family. `exec c s = .next (State.finish
s.dev u)` says that the command `c` completes in the state `s`: `u` is the block with the command's own effect, and `State.finish` adds what
every command settles at its end (a frame boundary's work, failing checks and their reactions, page states, records, packets). -/

open Sys2Proof Sys2Proof.Machine

/-! ### The machine as a whole -/

/-- The block takes the command at the front of its queue: a step runs it with the rest of the queue waiting (model; log entry 42). -/
def Sys2Proof.StepRunsFront : Prop :=
  ∀ (c : Instr) (s : State) (rest : List Instr), s.pending = c :: rest → step s = exec c { s with pending := rest }

/-- With nothing waiting the block idles (the model's choice, log entry 42), and no word spells a command: the table gives no bits. -/
def Sys2Proof.EmptyQueueIdles : Prop :=
  (∀ s : State, s.pending = [] → step s = .next s) ∧
    (∀ nbits w : Nat, decodeTableWord nbits w = none) ∧ ∀ (s : State) (nbits w : Nat), s.withFetchWord nbits w = s

/-- A step runs the command at the front of the queue with the rest waiting; with nothing waiting the block idles (the model's choice, log entry
42), and no word spells a command. -/
def Obligations.QueueOrder : Prop := StepRunsFront ∧ EmptyQueueIdles

/-- Every command answers a next state in every state, and leaves the commands that wait behind it as they were. -/
def Obligations.EveryCommandAnswers : Prop :=
  ∀ (c : Instr) (s : State), ∃ t, exec c s = .next t ∧ t.pending = s.pending

/-- A step keeps the invariant: nothing waits on the wires between commands, and host memory stands in its canonical form; the queue
loses the command that was run. -/
def Obligations.StepKeepsInv : Prop :=
  ∀ s t : State, s.Inv → step s = .next t → t.Inv ∧ t.pending = s.pending.tail

/-- The invariant holds after reset. -/
def Sys2Proof.ResetMeetsInv : Prop := State.reset.Inv

/-- After power-on reset every register of the map reads its Reset value, in effect and in the shadow (R12); the counter stands at zero,
the event table and every other memory of the block hold nothing, no gate is open, and no command waits. -/
def Sys2Proof.ResetState : Prop :=
  (∀ a : Nat, State.reset.dev.reg a = resetReg a ∧ State.reset.dev.shadowReg a = resetReg a) ∧
    State.reset.dev.now = 0 ∧ State.reset.dev.front.gates = 0 ∧ State.reset.dev.frame.events = [] ∧ State.reset.dev.pins.porHold = true ∧
    (∀ p ∈ pageDefs, ∀ r ∈ p.rows, resetReg (p.base + r.off) = BitVec.ofNat 32 ((specialReset p.blk r.off).getD r.reset)) ∧
    State.reset.host.mem = [] ∧ State.reset.pending = []

/-- After reset: the invariant holds, and every register and memory stands as the spec says (R12). -/
def Obligations.AfterReset : Prop := ResetMeetsInv ∧ ResetState

/-- A device held in a reset takes no command but those of supplies, resets, clocks, the always-on pins, the flash interface and the test
access port: every other one leaves the whole state as it was (R12, R403, R416). -/
def Obligations.HeldDeviceTakesNothing : Prop :=
  ∀ (c : Instr) (s : State), s.dev.pins.held = true → actsInReset c = false → exec c s = .next s

/-- A command whose effect leaves the device quiet, in its frame and with the same gates open, settles to that effect alone. -/
def Obligations.QuietCommandSettles : Prop :=
  ∀ (o : Dev) (s : State), s.dev.quiet = true → s.dev.sameFrame o = true →
    State.finish o s = s.onDev fun d => { d with wires := .init }

/-! ### Registers and their fields -/

/-- A field written reads back modulo its width; every field at other bits of the register, every other register and everything that is
no register stay as they were. -/
def Obligations.FieldWrite : Prop :=
  ∀ (d : Dev) (pg v : Nat) (F : Fld), F.lo + F.w ≤ 32 →
    (d.setFld pg F v).fld pg F = v % 2 ^ F.w ∧
      (∀ G : Fld, G.off = F.off → (F.lo + F.w ≤ G.lo ∨ G.lo + G.w ≤ F.lo) → (d.setFld pg F v).fld pg G = d.fld pg G) ∧
      (d.setFld pg F v).onlyRegs d [pg + F.off] ∧ (d.setFld pg F v).wires = d.wires

/-! ### Accesses over a path (R8 to R11, R28, R40, R331) -/

/-- What a counted bad access at address `a` leaves: COUNT one higher, up to its largest value, LAST_PAGE the page of the address; no other
register, nothing of any other part of the block but path `k`'s own account of the access. -/
def Sys2Proof.countedBad (u s : State) (k a : Nat) : Prop :=
  u.dev.fld pDev R.DEV_BAD_ACC_CNT_COUNT = min (s.dev.fld pDev R.DEV_BAD_ACC_CNT_COUNT + 1) (2 ^ R.DEV_BAD_ACC_CNT_COUNT.w - 1) ∧
    u.dev.fld pDev R.DEV_BAD_ACC_CNT_LAST_PAGE = pageNo a ∧ (u.path k).bad = true ∧
    u.dev.regsBut s.dev [pDev + R.DEV_BAD_ACC_CNT_COUNT.off] ∧
    { u.dev with regs := s.dev.regs, wires := s.dev.wires, paths := s.dev.paths } = s.dev ∧ u.onlyDev s

/-- An access of another width or alignment, or at an address in no listed page, does nothing but count: a write has no effect, a read
returns zero, and DEV_BAD_ACC_CNT increments (R8, R28). -/
def Sys2Proof.BadAccessCounts : Prop :=
  ∀ (s : State) (path : HostPath) (addr : BitVec 32) (bytes : Nat) (data : Word), s.dev.answers (pathNo path) = true →
    accessBad addr.toNat bytes = true →
    (∃ u, exec (.registerWrite path addr bytes data) s = .next (State.finish s.dev u) ∧ countedBad u s (pathNo path) addr.toNat) ∧
      ∃ u, exec (.badAccessRead path addr bytes) s = .next (State.finish s.dev u) ∧ countedBad u s (pathNo path) addr.toNat ∧
        (u.path (pathNo path)).rd = 0

/-- A write to a register that no write changes is ignored and counted (R10). -/
def Sys2Proof.UnwritableWriteCounts : Prop :=
  ∀ (s : State) (path : HostPath) (p : PageDef) (n off : Nat) (r : RegRow) (data : Word), s.dev.answers (pathNo path) = true →
    p ∈ pageDefs → n < p.count → off < p.span → off % 4 = 0 → rowIn p n off = some r → r.readable ||| r.wo ≠ 0 → r.writable = 0 →
    inMonWindow p.blk off = false → inRecWindow (p.base + n * p.span + off) = false →
    (off < 0x40 ∨ s.dev.resets.contains (p.base + n * p.span) = false) →
    ∃ u, exec (.registerWrite path (BitVec.ofNat 32 (p.base + n * p.span + off)) 4 data) s = .next (State.finish s.dev u) ∧
      countedBad u s (pathNo path) (p.base + n * p.span + off)

/-- Accesses that are turned away are counted and change nothing else (R8, R10, R28). -/
def Obligations.RefusedAccesses : Prop := BadAccessCounts ∧ UnwritableWriteCounts

/-- A write to a block register of a page without strobes acts on each field by its access code (R10, R11, R335): RW fields take the
written bits, W1C bits clear where a 1 is written, RWC fields go to the shadow, RO, RC and reserved bits stay, and no other register of
the block changes. -/
def Sys2Proof.PlainWriteByCode : Prop :=
  ∀ (s : State) (path : HostPath) (p : PageDef) (n off : Nat) (r : RegRow) (data : Word), s.dev.answers (pathNo path) = true →
    p ∈ pageDefs → p.blk ∈ [Blk.dev, Blk.frame, Blk.bench, Blk.adc, Blk.dac, Blk.pin] → n < p.count → 0x40 ≤ off → off < p.span →
    off % 4 = 0 → rowAt p off = some r → r.writable ≠ 0 → pairLow p.blk off = none →
    s.dev.resets.contains (p.base + n * p.span) = false →
    ∃ u, exec (.registerWrite path (BitVec.ofNat 32 (p.base + n * p.span + off)) 4 data) s = .next (State.finish s.dev u) ∧
      u.dev.reg (p.base + n * p.span + off) =
        ((s.dev.reg (p.base + n * p.span + off) &&& ~~~ BitVec.ofNat 32 r.rw) ||| (data &&& BitVec.ofNat 32 r.rw)) &&&
          ~~~ (data &&& BitVec.ofNat 32 r.w1c) ∧
      u.dev.shadowReg (p.base + n * p.span + off) =
        (s.dev.shadowReg (p.base + n * p.span + off) &&& ~~~ BitVec.ofNat 32 r.rwc) ||| (data &&& BitVec.ofNat 32 r.rwc) ∧
      u.dev.regsBut s.dev [p.base + n * p.span + off] ∧
      { u.dev with regs := s.dev.regs, shadow := s.dev.shadow, wires := s.dev.wires, paths := s.dev.paths } = s.dev ∧ u.onlyDev s

/-- A read of a register with RC fields returns their value and clears them to zero; nothing else changes (R10). -/
def Sys2Proof.ReadClears : Prop :=
  ∀ (s : State) (path : HostPath) (p : PageDef) (n off : Nat) (r : RegRow), s.dev.answers (pathNo path) = true → p ∈ pageDefs →
    n < p.count → off < p.span → off % 4 = 0 → rowIn p n off = some r → r.rc ≠ 0 → pairLow p.blk off = none →
    inMonWindow p.blk off = false → inRecWindow (p.base + n * p.span + off) = false → ¬ (p.blk = .xlat ∧ off = 0x6C) →
    ∃ u, exec (.readClear path (BitVec.ofNat 32 (p.base + n * p.span + off))) s = .next (State.finish s.dev u) ∧
      (u.path (pathNo path)).rd = (s.onDev Dev.freshAcc).live p (p.base + n * p.span) off ∧
      u.dev.reg (p.base + n * p.span + off) = s.dev.reg (p.base + n * p.span + off) &&& ~~~ BitVec.ofNat 32 r.rc ∧
      u.dev.regsBut s.dev [p.base + n * p.span + off] ∧
      { u.dev with regs := s.dev.regs, wires := s.dev.wires, paths := s.dev.paths } = s.dev ∧ u.onlyDev s

/-- Registers answer reads and writes by their access codes (R10). -/
def Obligations.RegistersByCode : Prop := PlainWriteByCode ∧ ReadClears

/-- A read of the lower register of a pair latches the upper half on its path, and the next read of the upper register returns what was
latched (R9, R331). -/
def Sys2Proof.PairRead : Prop :=
  ∀ (s : State) (path : HostPath) (p : PageDef) (n lo : Nat) (r q : RegRow) (x : Word), s.dev.answers (pathNo path) = true →
    p ∈ pageDefs → n < p.count → lo + 4 < p.span → lo % 4 = 0 → pairLow p.blk lo = some lo → pairLow p.blk (lo + 4) = some lo →
    rowIn p n lo = some r → rowIn p n (lo + 4) = some q → inMonWindow p.blk lo = false → inMonWindow p.blk (lo + 4) = false →
    inRecWindow (p.base + n * p.span + lo) = false → inRecWindow (p.base + n * p.span + (lo + 4)) = false →
    (∃ u, exec (.pairLowerRead path (BitVec.ofNat 32 (p.base + n * p.span + lo))) s = .next (State.finish s.dev u) ∧
        (u.path (pathNo path)).rd = (s.onDev Dev.freshAcc).live p (p.base + n * p.span) lo ∧
        (u.path (pathNo path)).latch = some (p.base + n * p.span + lo, (s.onDev Dev.freshAcc).live p (p.base + n * p.span) (lo + 4)) ∧
        { u.dev with wires := s.dev.wires, paths := s.dev.paths } = s.dev ∧ u.onlyDev s) ∧
      ((s.path (pathNo path)).latch = some (p.base + n * p.span + lo, x) →
        ∃ u, exec (.pairUpperRead path (BitVec.ofNat 32 (p.base + n * p.span + (lo + 4)))) s = .next (State.finish s.dev u) ∧
          (u.path (pathNo path)).rd = x ∧ { u.dev with wires := s.dev.wires, paths := s.dev.paths } = s.dev ∧ u.onlyDev s)

/-- A write of the lower register of a pair waits; a write of the upper register takes both halves at once (R9). -/
def Sys2Proof.PairWrite : Prop :=
  ∀ (s : State) (path : HostPath) (n lo : Nat) (x data : Word), s.dev.answers (pathNo path) = true → n < 192 → lo = 0x80 ∨ lo = 0xE0 →
    s.dev.resets.contains (pCh n) = false →
    (∃ u, exec (.pairLowerWrite path (BitVec.ofNat 32 (pCh n + lo)) data) s = .next (State.finish s.dev u) ∧
        (u.path (pathNo path)).stage = some (pCh n + lo, data) ∧
        { u.dev with wires := s.dev.wires, paths := s.dev.paths } = s.dev ∧ u.onlyDev s) ∧
      ((s.path (pathNo path)).stage = some (pCh n + lo, x) →
        ∃ u, exec (.pairUpperWrite path (BitVec.ofNat 32 (pCh n + lo + 4)) data) s = .next (State.finish s.dev u) ∧
          u.dev.shadowReg (pCh n + lo) = x ∧ u.dev.shadowReg (pCh n + lo + 4) &&& 0xFFFF = data &&& 0xFFFF ∧
          (u.path (pathNo path)).stage = none ∧ u.dev.regsBut s.dev [pCh n + lo, pCh n + lo + 4] ∧
          { u.dev with regs := s.dev.regs, shadow := s.dev.shadow, wires := s.dev.wires, paths := s.dev.paths } = s.dev ∧ u.onlyDev s)

/-- Register pairs are read and written as wholes (R9). -/
def Obligations.PairsAreWhole : Prop := PairRead ∧ PairWrite

/-- Event-table entries (R40): a write of one of the three lower words goes to the staging copy alone; a write of the word at +0xC makes
the whole entry take effect; a read of the word at +0x0 latches the other three on its path. No other entry changes. -/
def Sys2Proof.EventEntryAccess : Prop :=
  ∀ (s : State) (path : HostPath) (n : Fin 32768) (w : Fin 3) (data : Word), s.dev.answers (pathNo path) = true →
    (∃ u, exec (.eventEntryStageWrite path n w data) s = .next (State.finish s.dev u) ∧
        ((u.dev.staged n.val) >>> (32 * w.val)).setWidth 32 = data ∧
        (∀ v : Fin 3, v ≠ w → ((u.dev.staged n.val) >>> (32 * v.val)).setWidth 32 = (((s.dev.staged n.val) >>> (32 * v.val)).setWidth 32 : Word)) ∧
        (∀ m, m ≠ n.val → u.dev.staged m = s.dev.staged m) ∧ u.dev.frame.events = s.dev.frame.events ∧ u.dev.regsBut s.dev [] ∧
        u.onlyDev s) ∧
      (∃ u, exec (.eventEntryTopWrite path n data) s = .next (State.finish s.dev u) ∧
        mat 0 u.dev.frame.events n.val = (s.dev.staged n.val).setWidth 128 ||| (data.setWidth 128 <<< 96) ∧
        (∀ m, m ≠ n.val → mat 0 u.dev.frame.events m = mat 0 s.dev.frame.events m) ∧ u.dev.regsBut s.dev [] ∧ u.onlyDev s) ∧
      ∃ u, exec (.eventEntryLatchRead path n) s = .next (State.finish s.dev u) ∧
        (u.path (pathNo path)).rd = (mat 0 s.dev.frame.events n.val).setWidth 32 ∧
        (u.path (pathNo path)).entry = some (n.val, (mat 0 s.dev.frame.events n.val >>> 32).setWidth 96) ∧
        { u.dev with wires := s.dev.wires, paths := s.dev.paths } = s.dev ∧ u.onlyDev s

/-- Transactions of the SPI port (R330, R419, Table 15-2). A write is one access for each complete word, the address moving on by 4; each
word read is preceded by its own token 0xA5; while the register space does not answer, every byte reads 0xFF and nothing is written;
STATUS puts out one byte; an undefined command makes the rest of the transaction ignored and is counted once; SPI_CS_N rising inside
a word discards and counts that word. -/
def Sys2Proof.SpiTransactions : Prop :=
  ∀ (s : State) (addr : BitVec 32) (w : Word) (n : Nat) (cmd : BitVec 8), s.dev.pins.held = false →
    (s.dev.answers 1 = true →
      exec (.write addr [w]) s = .next (State.finish s.dev
        (((s.spiBegin 0x02 addr.toNat).busWrite 1 addr.toNat 4 w).onDev fun d =>
          { d with spi := { d.spi with addr := spiNext addr.toNat } })) ∧
      exec (.qwrite addr [w]) s = .next (State.finish s.dev
        (((s.spiBegin 0x32 addr.toNat).busWrite 1 addr.toNat 4 w).onDev fun d =>
          { d with spi := { d.spi with addr := spiNext addr.toNat } })) ∧
      (∃ u, exec (.read addr (n + 1)) s = .next (State.finish s.dev u) ∧ u.dev.spi.out.length = 5 * (n + 1) ∧ u.dev.spi.out.head? = some 0xA5) ∧
      (∃ u, exec (.qread addr (n + 1)) s = .next (State.finish s.dev u) ∧ u.dev.spi.out.length = 5 * (n + 1) ∧
        u.dev.spi.out.head? = some 0xA5) ∧
      (∃ u, exec .status s = .next (State.finish s.dev u) ∧ u.dev.spi.out = [s.spiStatus] ∧
        { u.dev with spi := s.dev.spi } = s.dev ∧ u.onlyDev s) ∧
      (cmd.toNat ∉ [0x02, 0x03, 0x32, 0x6B, 0x05] →
        ∃ u, exec (.spiUndefinedCommand cmd) s = .next (State.finish s.dev u) ∧ u.dev.spi.ignored = true ∧
          u.dev.fld pDev R.DEV_BAD_ACC_CNT_COUNT = min (s.dev.fld pDev R.DEV_BAD_ACC_CNT_COUNT + 1) (2 ^ R.DEV_BAD_ACC_CNT_COUNT.w - 1) ∧
          u.dev.regsBut s.dev [pDev + R.DEV_BAD_ACC_CNT_COUNT.off] ∧ u.onlyDev s)) ∧
    (s.dev.answers 1 = false →
      (∃ u, exec (.write addr [w]) s = .next (State.finish s.dev u) ∧ { u.dev with spi := s.dev.spi } = s.dev ∧ u.onlyDev s) ∧
      ∃ u, exec (.read addr n) s = .next (State.finish s.dev u) ∧ u.dev.spi.out = List.replicate (5 * n) 0xFF ∧
        { u.dev with spi := s.dev.spi } = s.dev ∧ u.onlyDev s) ∧
    (s.dev.answers 1 = true → s.dev.spi.active = true → s.dev.spi.ignored = false →
      ∃ u, exec (.spiCsRise true) s = .next (State.finish s.dev u) ∧ u.dev.spi.active = false ∧
        u.dev.fld pDev R.DEV_BAD_ACC_CNT_COUNT = min (s.dev.fld pDev R.DEV_BAD_ACC_CNT_COUNT + 1) (2 ^ R.DEV_BAD_ACC_CNT_COUNT.w - 1) ∧
        u.dev.fld pDev R.DEV_BAD_ACC_CNT_LAST_PAGE = pageNo s.dev.spi.addr ∧ u.dev.regsBut s.dev [pDev + R.DEV_BAD_ACC_CNT_COUNT.off] ∧
        u.onlyDev s) ∧
    ∃ u, exec (.spiCsRise false) s = .next (State.finish s.dev u) ∧ u.dev.spi.active = false ∧
      { u.dev with spi := s.dev.spi } = s.dev ∧ u.onlyDev s

/-- The event table's entries (R40) and the SPI port (R330). -/
def Obligations.TableAndPort : Prop := EventEntryAccess ∧ SpiTransactions

/-! ### Pages: commits, block resets, events, injected faults (R26, R189, R332 to R338, R364) -/

/-- COMMIT with COMMIT_AT_EVENT = 0 begins one commit of the page, with the whole shadow of the page as it stands: BUSY rises and the page
is not armed (R335). While a commit of the page is in progress one more is held behind it. -/
def Sys2Proof.CommitBegins : Prop :=
  ∀ (s : State) (page : BitVec 14) (p : PageDef) (pg : Nat), s.dev.reachable = true → pageBaseOf page.toNat = some pg →
    pageDefAt pg = some p →
    ∃ u, exec (.pageCommit page) s = .next (State.finish s.dev u) ∧ u.dev.flag pg R.PG_CTL_ARMED = false ∧ u.onlyDev s ∧
      u.dev.regsBut s.dev [pg + R.PG_CTL_ARMED.off, pg + R.PG_STAT_BUSY.off] ∧
      ((s.dev.commits.any fun x => x.page == pg) = false →
        u.dev.fld pg R.PG_STAT_BUSY = 1 ∧ ∃ x, u.dev.commits = s.dev.commits ++ [x] ∧ x.page = pg ∧ x.held = false ∧
          ∀ a, pg ≤ a → a < pg + p.span → mget resetReg x.snap a = s.dev.shadowReg a) ∧
      ((s.dev.commits.any fun x => x.page == pg) = true →
        u.dev.commits = s.dev.commits.map fun x => if x.page = pg then { x with held := true } else x)

/-- COMMIT with COMMIT_AT_EVENT = 1 sets ARMED and begins no commit (R336). -/
def Sys2Proof.CommitArms : Prop :=
  ∀ (s : State) (page : BitVec 14) (pg : Nat), s.dev.reachable = true → pageBaseOf page.toNat = some pg →
    ∃ u, exec (.commitArm page) s = .next (State.finish s.dev u) ∧ u.dev.flag pg R.PG_CTL_ARMED = true ∧
      u.dev.flag pg R.PG_CTL_COMMIT_AT_EVENT = true ∧ u.dev.commits = s.dev.commits ∧
      u.dev.regsBut s.dev [pg + R.PG_CTL_ARMED.off] ∧ u.onlyDev s

/-- COMMIT begins a commit, or arms the page for an event (R335, R336). -/
def Obligations.CommitsBegin : Prop := CommitBegins ∧ CommitArms

/-- When a commit completes, every field it carries takes effect together (R335, R337): here on the pages whose commit sets nothing else
going. The RWC bits of each register of the page take what the shadow held when COMMIT was written; a commit whose settings its chapter
refuses changes none of them and is counted in DEV_BAD_ACC_CNT. Either way the commit is no longer in progress. -/
def Obligations.CommitTakesTheShadow : Prop :=
  ∀ (s : State) (page : BitVec 14) (p : PageDef) (pg : Nat) (x : CommitSt), s.dev.pins.held = false →
    pageBaseOf page.toNat = some pg → pageDefAt pg = some p →
    p.blk ∈ [Blk.eng, Blk.dac, Blk.qmgr, Blk.xlat, Blk.irq, Blk.fault, Blk.recorder] →
    (s.dev.commits.find? fun y => y.page == pg) = some x → x.held = false →
    ∃ u, exec (.commitComplete page) s = .next (State.finish s.dev u) ∧ u.pending = s.pending ∧
      (u.dev.commits.any fun y => y.page == pg) = false ∧
      ((∀ a, pg + 0x40 ≤ a → a < pg + p.span → u.dev.reg a = (s.dev.reg a &&& ~~~ rwcMask a) ||| (mget resetReg x.snap a &&& rwcMask a)) ∨
        ((∀ a, pg + 0x40 ≤ a → a < pg + p.span → u.dev.reg a = s.dev.reg a) ∧
          u.dev.fld pDev R.DEV_BAD_ACC_CNT_COUNT =
            min (s.dev.fld pDev R.DEV_BAD_ACC_CNT_COUNT + 1) (2 ^ R.DEV_BAD_ACC_CNT_COUNT.w - 1)))

/-- SOFT_RST (R338, R12): BUSY stands, PG_OWN is clear, and, on the pages whose reset does nothing else, the page's registers read their
Reset values but for those whose description keeps them. When the reset completes the page is under no reset any more and BUSY shows only
a commit still in progress. -/
def Obligations.SoftReset : Prop :=
  ∀ (s : State) (page : BitVec 14) (p : PageDef) (pg : Nat), s.dev.reachable = true → pageBaseOf page.toNat = some pg →
    pageDefAt pg = some p →
    (∃ u, exec (.softRst page) s = .next (State.finish s.dev u) ∧ u.dev.fld pg R.PG_STAT_BUSY = 1 ∧
        u.dev.reg (pg + R.PG_OWN_INDEX.off) = 0 ∧ u.pending = s.pending ∧
        (p.blk ∈ [Blk.qmgr, Blk.xlat, Blk.dma] → u.dev.resets.contains pg = true ∧ u.dev.flag pg R.PG_CTL_ARMED = false ∧
          ∀ a, pg + 0x40 ≤ a → a < pg + p.span → u.dev.reg a = resetReg a)) ∧
      (s.dev.resets.contains pg = true →
        ∃ u, exec (.softResetDone page) s = .next (State.finish s.dev u) ∧ u.dev.resets.contains pg = false ∧
          u.dev.flag pg R.PG_STAT_BUSY = (s.dev.commits.any fun x => x.page == pg) ∧ u.dev.regsBut s.dev [pg + R.PG_STAT_BUSY.off] ∧
          u.onlyDev s)

/-- A write of PG_EVT_SET raises each bit the page has, as if its event had occurred, and no other; a channel page has bits [5:0] and [31]
alone (R332, R429). -/
def Sys2Proof.EventBitsSet : Prop :=
  ∀ (s : State) (page : BitVec 14) (bits : Word) (p : PageDef) (pg : Nat), s.dev.reachable = true → pageBaseOf page.toNat = some pg →
    pageDefAt pg = some p →
    ∃ u, exec (.pgEvtSet page bits) s = .next (State.finish s.dev u) ∧
      u.dev.reg (pg + R.PG_EVT_EVT.off) = s.dev.reg (pg + R.PG_EVT_EVT.off) ||| (bits &&& BitVec.ofNat 32 (evtMask p.blk)) ∧
      u.onlyRegs s [pg + R.PG_EVT_EVT.off]

/-- A write of PG_FLT_INJ arms an injection of a checker the page has, with DONE clear; for a checker it lacks the write is ignored and
counted, DONE clear as well (R364). -/
def Sys2Proof.InjectionArms : Prop :=
  ∀ (s : State) (page : BitVec 14) (data : Word) (p : PageDef) (pg : Nat), s.dev.reachable = true → pageBaseOf page.toNat = some pg →
    pageDefAt pg = some p →
    ∃ u, exec (.faultInjectArm page data) s = .next (State.finish s.dev u) ∧ u.dev.flag pg R.PG_FLT_INJ_DONE = false ∧
      (R.PG_FLT_INJ_CHK.get data < checkers p.blk →
        u.dev.reg (pg + R.PG_FLT_INJ_CHK.off) = data &&& 0x7F ∧ u.onlyRegs s [pg + R.PG_FLT_INJ_CHK.off]) ∧
      (checkers p.blk ≤ R.PG_FLT_INJ_CHK.get data →
        u.dev.fld pDev R.DEV_BAD_ACC_CNT_COUNT =
            min (s.dev.fld pDev R.DEV_BAD_ACC_CNT_COUNT + 1) (2 ^ R.DEV_BAD_ACC_CNT_COUNT.w - 1) ∧
          u.onlyRegs s [pg + R.PG_FLT_INJ_CHK.off, pDev + R.DEV_BAD_ACC_CNT_COUNT.off])

/-- Writes of PG_EVT_SET and PG_FLT_INJ (R332, R364, R429). -/
def Obligations.PageHeaderWrites : Prop := EventBitsSet ∧ InjectionArms

/-- The requested profile takes effect where none is forced: EFF shows it, FORCED is clear; with the profile already in effect nothing
else changes (R26, R27). A forced BUDGET shows as EFF = 1. -/
def Sys2Proof.ProfileTakesEffect : Prop :=
  ∀ s : State, s.dev.pins.held = false → s.dev.profile = s.dev.fld pDev R.DEV_PROFILE_REQ →
    ∃ u, exec .profileTakeEffect s = .next (State.finish s.dev u) ∧
      u.dev.fld pDev R.DEV_PROFILE_EFF =
        (if s.dev.forceWanted.1 || s.dev.forceWanted.2 then 1 else s.dev.fld pDev R.DEV_PROFILE_REQ) ∧
      u.dev.flag pDev R.DEV_PROFILE_FORCED_THERM = s.dev.forceWanted.1 ∧
      u.dev.flag pDev R.DEV_PROFILE_FORCED_ENERGY = s.dev.forceWanted.2 ∧ u.onlyRegs s [pDev + R.DEV_PROFILE_EFF.off]

/-- REQ and EFF of a page have differed for 1 ms: DIVERGE and PG_EVT bit 31 rise (R189); an uplink channel that gating holds in LISTEN is
no such case. A path group of the FE page has a DIVERGE of its own. -/
def Sys2Proof.DivergeRises : Prop :=
  ∀ (s : State) (page : BitVec 14) (g : Fin 4) (p : PageDef) (pg : Nat), s.dev.pins.held = false → pageBaseOf page.toNat = some pg →
    pageDefAt pg = some p →
    (p.blk ≠ .fe → s.dev.fld pg R.PG_STAT_REQ ≠ s.dev.fld pg R.PG_STAT_EFF → s.dev.flag pg R.PG_STAT_DIVERGE = false →
      ¬ (p.blk = .ch ∧ s.dev.fld pg R.PG_STAT_EFF = 3 ∧ s.dev.fld pg R.PG_STAT_REQ = 4 ∧ s.dev.fld pg R.CH_DEF_ERR_CODE ≠ 23) →
      ∃ u, exec (.divergeTimeout page g) s = .next (State.finish s.dev u) ∧ u.dev.flag pg R.PG_STAT_DIVERGE = true ∧
        u.dev.flag pg (R.PG_EVT_EVT.bit 31) = true ∧ u.onlyRegs s [pg + R.PG_STAT_DIVERGE.off, pg + R.PG_EVT_EVT.off]) ∧
    (p.blk = .fe → s.dev.grpReq g.val ≠ s.dev.grpEff g.val → s.dev.flag pFe (R.FE_PG_STAT_DIVERGE g.val) = false →
      ∃ u, exec (.divergeTimeout page g) s = .next (State.finish s.dev u) ∧ u.dev.flag pFe (R.FE_PG_STAT_DIVERGE g.val) = true ∧
        u.onlyRegs s [pFe + (R.FE_PG_STAT_DIVERGE g.val).off, pFe + R.PG_EVT_EVT.off])

/-- Profiles take effect (R26, R27) and a lasting disagreement shows (R189). -/
def Obligations.ProfilesAndDivergence : Prop := ProfileTakesEffect ∧ DivergeRises

/-! ### Supplies, clocks and resets (R12, R23, R329, R354, R357, R399 to R405, R416 to R420) -/

/-- Power-on reset is released once every rail is in range: the straps are sampled and PIN_STRAP holds their levels, the power-cycle count
advances, the device enters STANDBY, and with CK_REF absent chip reset is held (R367, R400, R403, R416, R417). With a rail out of range it
is not released. Where the thermal latch stands it stays set over a short dip (R280), which this statement leaves to the latch's own. -/
def Sys2Proof.PowerOnRelease : Prop :=
  ∀ (s : State) (p : PorInputs), s.dev.pins.porHold = true →
    (p.ok = 0xFF → (s.dev.flag pTherm R.THERM_STAT_SHUT = false ∨ p.cycled = true) →
      ∃ u, exec (.powerOnResetRelease p) s = .next (State.finish s.dev u) ∧ u.dev.pins.porHold = false ∧
        u.dev.pins.refHold = !p.refPresent ∧ u.dev.flag pPin R.PIN_STRAP_MASTER = p.master ∧ u.dev.flag pPin R.PIN_STRAP_CLRSEL = p.clrsel ∧
        u.dev.flag pPin R.PIN_STRAP_TEST = p.test ∧ u.dev.flag pPin R.PIN_STRAP_HOSTSEL = p.hostsel ∧
        u.dev.flag pPin R.PIN_STRAP_REFSRC = p.refIn ∧ u.dev.rcd.pcc = (s.dev.rcd.pcc + 1) % 2 ^ 32 ∧ u.dev.fld pDev R.DEV_PWR_EFF = 1 ∧
        u.onlyDev s) ∧
      (p.ok ≠ 0xFF → exec (.powerOnResetRelease p) s = .next (State.finish s.dev s))

/-- After the PLLs lock, FABRIC and PLL_OK set and CLK_STAT shows the locks (R416, Table 20-1); the recorder's restore then sets REC_DONE
and its time, and without a usable flash, or with another device's history, STATE is FAILED or FOREIGN with cause 3 (R373, R379, R382). -/
def Sys2Proof.BootProceeds : Prop :=
  ∀ (s : State) (slots : Fin 257) (foreign : Bool) (ms : BitVec 16), s.dev.pins.held = false →
    (s.dev.flag pDev R.DEV_BOOT_FABRIC = false →
      ∃ u, exec .fabricReady s = .next (State.finish s.dev u) ∧ u.dev.flag pDev R.DEV_BOOT_FABRIC = true ∧
        u.dev.flag pDev R.DEV_BOOT_PLL_OK = true ∧ u.dev.flag pDev R.DEV_CLK_STAT_CORE_LOCK = true ∧
        u.dev.flag pDev R.DEV_CLK_STAT_SYS_LOCK = true ∧ u.dev.flag pDev R.DEV_CLK_STAT_HAUL_LOCK = true ∧ u.dev.reachable = true ∧
        u.onlyRegs s [pDev + R.DEV_BOOT_FABRIC.off, pDev + R.DEV_CLK_STAT_CORE_LOCK.off, pMon + R.MON_STAT_LP_EFF.off,
          pRec + R.REC_TIME_LO_SEC.off, pRec + R.REC_TIME_HI_SEC.off, pRec + R.REC_HMS_SEC.off, pRec + R.REC_PCC_COUNT.off]) ∧
      (s.dev.flag pDev R.DEV_BOOT_FABRIC = true → s.dev.flag pDev R.DEV_BOOT_REC_DONE = false →
        (∃ u, exec (.recorderRestoreDone false slots foreign ms) s = .next (State.finish s.dev u) ∧
          u.dev.flag pDev R.DEV_BOOT_REC_DONE = true ∧ u.dev.fld pDev R.DEV_BOOT_REC_MS = ms.toNat ∧ u.dev.fld pRec R.REC_STAT_STATE = 4 ∧
          u.dev.fld pRec R.REC_STAT_CAUSE = 3 ∧ u.dev.flash.usable = false ∧ u.onlyDev s) ∧
        (s.dev.flag pPin (R.PIN_SUPPLY_OK.bit 7) = true → s.dev.flash.newest = none →
          ∃ u, exec (.recorderRestoreDone true slots true ms) s = .next (State.finish s.dev u) ∧
            u.dev.flag pDev R.DEV_BOOT_REC_DONE = true ∧ u.dev.fld pRec R.REC_STAT_STATE = 5 ∧ u.dev.fld pRec R.REC_STAT_CAUSE = 3 ∧
            u.dev.flash.n = slots.val ∧ u.onlyDev s))

/-- From power-on release to a running device (R399, R416 to R420). -/
def Obligations.PowerComesUp : Prop := PowerOnRelease ∧ BootProceeds

/-- When CK_REF is lost, CK_AON falls back, every transmit gate closes, every bias output goes to its clear code, the fatal fault's
condition stands and chip reset is held (R23, Table 01-10). Once it has been present for 1 ms the hold ends. -/
def Sys2Proof.ReferenceLost : Prop :=
  ∀ s : State,
    (s.dev.pins.porHold = false → s.dev.pins.refHold = false →
      ∃ u, exec .ckRefLoss s = .next (State.finish s.dev u) ∧ u.dev.flag pDev R.DEV_CLK_STAT_REF_OK = false ∧
        u.dev.flag pDev R.DEV_CLK_STAT_AON_FALLBACK = true ∧ u.dev.front.gates &&& 0xFF = 0 ∧
        (∀ n, n < 16 → u.dev.flag (pBias n) R.BIAS_STAT_AT_CLEAR = true ∧ (u.dev.biasOut n).code = s.dev.clearCode n) ∧
        (0, pDev) ∈ u.dev.fault.standing ∧ u.dev.pins.refHold = true ∧ u.dev.pins.cause = 3 ∧ u.onlyDev s) ∧
      (s.dev.pins.refHold = true → s.dev.flag pTherm R.THERM_STAT_SHUT = false →
        ∃ u, exec .ckRefReturn s = .next (State.finish s.dev u) ∧ u.dev.pins.refHold = false ∧ (0, pDev) ∉ u.dev.fault.standing ∧
          u.onlyDev s)

/-- RESET_N low is a chip reset that lasts while the ball is low: every register goes to its Reset value but for those that survive chip
reset, nothing of the block's work goes on, and host memory is untouched; with power-on reset held only the ball is noted (R12, R399,
R420). -/
def Sys2Proof.ResetAsserted : Prop :=
  ∀ s : State, s.dev.pins.resetN = true →
    (s.dev.pins.porHold = false →
      ∃ u, exec .resetNAssert s = .next (State.finish s.dev u) ∧ u.dev.pins.resetN = false ∧ u.dev.pins.held = true ∧ u.dev.pins.cause = 2 ∧
        (∀ a, a ∉ chipKept.map (·.1) → u.dev.reg a = resetReg a) ∧ u.dev.frame = .init ∧ u.dev.front = .init ∧ u.dev.eng = [] ∧
        u.dev.commits = [] ∧ u.host = { HostSide.init with mem := s.host.mem } ∧ u.pending = s.pending) ∧
      (s.dev.pins.porHold = true →
        exec .resetNAssert s = .next (State.finish s.dev (s.onDev fun d => { d with pins := { d.pins with resetN := false } })))

/-- When the last hold on the device ends, it boots: DEV_BOOT shows the cause of the reset and CK_REF is shown good (R358, R399, R418,
R420). This holds for the release of RESET_N and for the end of a reaction's chip reset, with no thermal latch standing. -/
def Sys2Proof.ResetReleased : Prop :=
  ∀ s : State, s.dev.pins.porHold = false → s.dev.pins.refHold = false → s.dev.flag pTherm R.THERM_STAT_SHUT = false →
    s.dev.pins.cause < 16 →
    (s.dev.pins.resetN = false → s.dev.pins.chipHold = false →
      ∃ u, exec .resetNRelease s = .next (State.finish s.dev u) ∧ u.dev.pins.held = false ∧
        u.dev.fld pDev R.DEV_BOOT_CAUSE = s.dev.pins.cause ∧ u.dev.flag pDev R.DEV_CLK_STAT_REF_OK = true ∧ u.onlyDev s) ∧
      (s.dev.pins.resetN = true → s.dev.pins.chipHold = true →
        ∃ u, exec .chipResetRelease s = .next (State.finish s.dev u) ∧ u.dev.pins.held = false ∧
          u.dev.fld pDev R.DEV_BOOT_CAUSE = s.dev.pins.cause ∧ u.dev.flag pDev R.DEV_CLK_STAT_REF_OK = true ∧ u.onlyDev s)

/-- A Function Level Reset acts as chip reset with the link staying trained (R329, R420): DEV_BOOT shows cause 5. PERST_N and a lost link
take the endpoint down and the level fault 194 stands (R354, R399); PERST_N's release and link training bring it back (R419). -/
def Sys2Proof.EndpointResets : Prop :=
  ∀ s : State,
    (s.dev.pins.held = false → s.dev.pins.pcieUp = true → s.dev.flag pTherm R.THERM_STAT_SHUT = false →
      ∃ u, exec .functionLevelReset s = .next (State.finish s.dev u) ∧ u.dev.fld pDev R.DEV_BOOT_CAUSE = 5 ∧ u.dev.pins.pcieUp = true ∧
        u.dev.flag pDev R.DEV_BOOT_FABRIC = false ∧ u.host = { HostSide.init with mem := s.host.mem } ∧ u.pending = s.pending) ∧
    (s.dev.pins.pcieUp = true →
      (∃ u, exec .perstNAssert s = .next (State.finish s.dev u) ∧ u.dev.pins.perstN = false ∧ u.dev.pins.pcieUp = false ∧
        (194, pDev) ∈ u.dev.fault.standing ∧ u.dev.regsBut s.dev [] ∧ u.onlyDev s) ∧
      (s.dev.pins.held = false →
        ∃ u, exec .pcieLinkDown s = .next (State.finish s.dev u) ∧ u.dev.pins.pcieUp = false ∧ (194, pDev) ∈ u.dev.fault.standing ∧
          u.dev.regsBut s.dev [] ∧ u.onlyDev s)) ∧
    exec .perstNRelease s = .next (State.finish s.dev (s.onDev fun d => { d with pins := { d.pins with perstN := true } })) ∧
    (s.dev.reachable = true → s.dev.pins.perstN = true → s.dev.spiHost = false →
      ∃ u, exec .pcieLinkUp s = .next (State.finish s.dev u) ∧ u.dev.pins.pcieUp = true ∧ (194, pDev) ∉ u.dev.fault.standing ∧
        u.dev.regsBut s.dev [] ∧ u.onlyDev s)

/-- Chip reset by pin and by reaction, and the resets of the endpoint (R12, R329, R358, R399, R419, R420). -/
def Obligations.ResetsGoAndCome : Prop := ResetAsserted ∧ ResetReleased ∧ EndpointResets

/-- A rail below its range puts the device into power-on reset with the always-on registers kept, and its DIP bit sets (R404): every other
register stands at its Reset value, the power state is AON, host memory is untouched. VAON below 1.40 V loses the operating time as
well. VDD_NVM leaving its range stops the flash interface alone, and its return is shown in PIN_BANK (R405). -/
def Obligations.RailsOut : Prop :=
  ∀ s : State,
    (∀ rail : Fin 12, rail.val < 6 → s.dev.pins.vaonLost = false →
      ∃ u, exec (.supplyDip rail) s = .next (State.finish s.dev u) ∧ u.dev.pins.porHold = true ∧ u.dev.fld pDev R.DEV_PWR_EFF = 0 ∧
        u.dev.flag pPin (R.PIN_SUPPLY_OK.bit rail.val) = false ∧ u.dev.flag pPin (R.PIN_SUPPLY_DIP.bit rail.val) = true ∧
        (∀ a, a ∉ (pDev + R.DEV_PWR_EFF.off) :: porKept.map (·.1) → u.dev.reg a = resetReg a) ∧
        u.dev.rcd.secs = s.dev.rcd.secs ∧ u.host = { HostSide.init with mem := s.host.mem } ∧ u.pending = s.pending) ∧
    (∃ u, exec (.vaonLow true) s = .next (State.finish s.dev u) ∧ u.dev.pins.porHold = true ∧ u.dev.rcd.secs = 0 ∧ u.dev.rcd.pcc = 0 ∧
      u.dev.fld pDev R.DEV_PWR_EFF = 0 ∧ u.host = { HostSide.init with mem := s.host.mem } ∧ u.pending = s.pending) ∧
    (s.dev.rcd.stage = 0 →
      ∃ u, exec .nvmSupplyLoss s = .next (State.finish s.dev u) ∧ u.dev.flag pPin (R.PIN_SUPPLY_OK.bit 7) = false ∧
        u.dev.flag pPin (R.PIN_SUPPLY_DIP.bit 7) = true ∧ u.dev.fld pPin R.PIN_BANK_NVM = 3 ∧ u.dev.rcd.erasing = false ∧
        u.dev.regsBut s.dev [pPin + R.PIN_SUPPLY_OK.off, pPin + R.PIN_BANK_NVM.off, pPin + R.PG_EVT_EVT.off] ∧ u.onlyDev s) ∧
    ∀ code : BitVec 2, s.dev.flag pDev R.DEV_BOOT_REC_DONE = false →
      ∃ u, exec (.nvmSupplyReturn code) s = .next (State.finish s.dev u) ∧ u.dev.flag pPin (R.PIN_SUPPLY_OK.bit 7) = true ∧
        u.dev.fld pPin R.PIN_BANK_NVM = code.toNat ∧
        u.dev.regsBut s.dev [pPin + R.PIN_SUPPLY_OK.off, pPin + R.PIN_BANK_NVM.off, pPin + R.PG_EVT_EVT.off] ∧ u.onlyDev s

/-- A PLL that unlocks shows it in CLK_STAT, and the condition of its level source stands, 1 for core, 2 for system, 3 for haul (R354,
R357); the sources of the PCI Express reference clock and of the haul PLL stand while their clock is bad and no longer after it
returns. -/
def Sys2Proof.ClocksLost : Prop :=
  ∀ s : State, s.dev.pins.held = false →
    (s.dev.flag pDev R.DEV_CLK_STAT_CORE_LOCK = true →
      ∃ u, exec .corePllUnlock s = .next (State.finish s.dev u) ∧ u.dev.flag pDev R.DEV_CLK_STAT_CORE_LOCK = false ∧
        (1, pDev) ∈ u.dev.fault.standing ∧ u.dev.regsBut s.dev [pDev + R.DEV_CLK_STAT_CORE_LOCK.off] ∧ u.onlyDev s) ∧
    (s.dev.flag pDev R.DEV_CLK_STAT_SYS_LOCK = true →
      ∃ u, exec .systemPllUnlock s = .next (State.finish s.dev u) ∧ u.dev.flag pDev R.DEV_CLK_STAT_SYS_LOCK = false ∧
        (2, pDev) ∈ u.dev.fault.standing ∧ u.dev.regsBut s.dev [pDev + R.DEV_CLK_STAT_SYS_LOCK.off] ∧ u.onlyDev s) ∧
    (s.dev.flag pDev R.DEV_CLK_STAT_HAUL_LOCK = true → (∀ h, h < 3 → s.dev.linkState h = 0) →
      ∃ u, exec .haulPllUnlock s = .next (State.finish s.dev u) ∧ u.dev.flag pDev R.DEV_CLK_STAT_HAUL_LOCK = false ∧
        (3, pDev) ∈ u.dev.fault.standing ∧ u.dev.regsBut s.dev [pDev + R.DEV_CLK_STAT_HAUL_LOCK.off] ∧ u.onlyDev s) ∧
    (s.dev.flag pDev R.DEV_BOOT_FABRIC = true →
      (∃ u, exec .haulPllRelock s = .next (State.finish s.dev u) ∧ u.dev.flag pDev R.DEV_CLK_STAT_HAUL_LOCK = true ∧
        (3, pDev) ∉ u.dev.fault.standing ∧ u.dev.regsBut s.dev [pDev + R.DEV_CLK_STAT_HAUL_LOCK.off] ∧ u.onlyDev s) ∧
      (∃ u, exec .pcieRefclkLoss s = .next (State.finish s.dev u) ∧ u.dev.flag pDev R.DEV_CLK_STAT_PCIE_REF_OK = false ∧
        (4, pDev) ∈ u.dev.fault.standing ∧ u.dev.regsBut s.dev [pDev + R.DEV_CLK_STAT_PCIE_REF_OK.off] ∧ u.onlyDev s) ∧
      ∃ u, exec .pcieRefclkReturn s = .next (State.finish s.dev u) ∧ u.dev.flag pDev R.DEV_CLK_STAT_PCIE_REF_OK = true ∧
        (4, pDev) ∉ u.dev.fault.standing ∧ u.dev.regsBut s.dev [pDev + R.DEV_CLK_STAT_PCIE_REF_OK.off] ∧ u.onlyDev s)

/-- CK_REF and the other clocks go and return (R23, R311, R354, R357). -/
def Obligations.ClocksGoAndReturn : Prop := ReferenceLost ∧ ClocksLost

/-! ### Frame time (R29 to R39, R50, R426) -/

/-- The counter (R29, R30, R426): a cycle of CK_FRAME advances it by one tick, wrapping with the hyperframe count; the frequency correction
adds or drops a tick each time a whole one has gathered, slewing one tick in 4,096 while phase is left; the next frame boundary is tick 0
of the next frame. Pending actions whose target has come are pending no more. -/
def Obligations.CounterAdvances : Prop :=
  ∀ (s : State) (adc : AdcIn), s.dev.reachable = true →
    (∃ u, exec (.tick adc) s = .next (State.finish s.dev u) ∧ u.dev.now = (s.dev.now + 1) % counterTicks ∧
      u.dev.frame.clk = s.dev.frame.clk + 1 ∧ u.dev.frame.pend = s.dev.frame.pend.filter (fun a => decide (u.dev.now < a.target)) ∧
      u.dev.front = s.dev.front ∧ u.dev.frame.events = s.dev.frame.events ∧ u.onlyDev s) ∧
    (∀ k : Nat, k = (if corrTick ≤ s.dev.frame.corrAcc + s.dev.sfld pFrame R.FRAME_FREQ_CORR_CORR then 2
        else if s.dev.frame.corrAcc + s.dev.sfld pFrame R.FRAME_FREQ_CORR_CORR ≤ -corrTick then 0 else 1) →
      ∃ u, exec (.freqCorrAdjust adc) s = .next (State.finish s.dev u) ∧ u.dev.now = (s.dev.now + k) % counterTicks ∧
        u.dev.frame.corrAcc = s.dev.frame.corrAcc + s.dev.sfld pFrame R.FRAME_FREQ_CORR_CORR - ((k : Int) - 1) * corrTick ∧
        u.dev.front = s.dev.front ∧ u.onlyDev s) ∧
    (∀ k : Nat, k = (if s.dev.frame.slew = 0 ∨ s.dev.frame.clk < s.dev.frame.slewClk + 4096 then 1 else if 0 < s.dev.frame.slew then 2 else 0) →
      ∃ u, exec (.slewAdjust adc) s = .next (State.finish s.dev u) ∧ u.dev.now = (s.dev.now + k) % counterTicks ∧
        u.dev.frame.slew = s.dev.frame.slew - ((k : Int) - 1) ∧ u.dev.front = s.dev.front ∧ u.onlyDev s) ∧
    (s.dev.frame.tick < frameTicks →
      ∃ u, exec (.frameBoundary adc) s = .next (State.finish s.dev u) ∧
        u.dev.now = (s.dev.now / frameTicks + 1) * frameTicks % counterTicks ∧ u.dev.frame.tick = 0 ∧ u.dev.wires.boundary = true ∧
        u.dev.front = s.dev.front ∧ u.onlyDev s)

/-- Sources of time (R31 to R33, R50, Table 02-1): a third detection in succession qualifies an acquirer, and TA is qualified with any of
them; four sync periods without detection unqualify it; a PPS edge stands for frame NEXT_SFN, which advances by 100, and two missing
edges disqualify PPS; the source takes over that stands earliest in the order, in TRACK without leaving it. -/
def Obligations.SourcesQualify : Prop :=
  ∀ s : State, s.dev.reachable = true →
    (∃ u, exec .stepGuardClear s = .next (State.finish s.dev u) ∧ u.dev.flag pFrame R.FRAME_STAT_STEP_GUARD = false ∧
      u.onlyRegs s [pFrame + R.FRAME_STAT_STEP_GUARD.off]) ∧
    (∀ (ta : Fin 8) (sfn : BitVec 10) (t : BitVec 27),
      (s.dev.taSearches ta.val = true → 2 ≤ mat 0 s.dev.frame.taRun ta.val →
        ∃ u, exec (.taDetection ta true sfn t) s = .next (State.finish s.dev u) ∧
          u.dev.flag pFrame (R.FRAME_STAT_TA_QUAL.bit ta.val) = true ∧ u.dev.srcQual 1 = true ∧ u.onlyDev s) ∧
      (s.dev.taSearches ta.val = false → exec (.taDetection ta true sfn t) s = .next (State.finish s.dev s))) ∧
    (∀ ta : Fin 8, ∃ u, exec (.taDetectionTimeout ta) s = .next (State.finish s.dev u) ∧
      u.dev.flag pFrame (R.FRAME_STAT_TA_QUAL.bit ta.val) = false ∧
      u.dev.srcQual 1 = decide (u.dev.fld pFrame R.FRAME_STAT_TA_QUAL ≠ 0) ∧ u.onlyDev s) ∧
    (∀ sub : Fin 16,
      (s.dev.flag pFrame R.FRAME_CTL_PPS_EN = true →
        ∃ u, exec (.ppsInEdge sub) s = .next (State.finish s.dev u) ∧ u.dev.frame.ppsLast = some s.dev.frame.clk ∧
          u.dev.fld pFrame R.FRAME_PPS_NEXT_SFN = (s.dev.fld pFrame R.FRAME_PPS_NEXT_SFN + 100) % 1024 ∧
          (2 ≤ s.dev.frame.ppsRun → s.dev.frame.ppsLast = some (s.dev.frame.clk - secondClk) → secondClk ≤ s.dev.frame.clk →
            u.dev.srcQual 2 = true) ∧ u.onlyDev s) ∧
      (s.dev.flag pFrame R.FRAME_CTL_PPS_EN = false → exec (.ppsInEdge sub) s = .next (State.finish s.dev s))) ∧
    (∃ u, exec .ppsEdgeTimeout s = .next (State.finish s.dev u) ∧ u.dev.srcQual 2 = false ∧ u.dev.frame.ppsRun = 0 ∧
      u.dev.frame.ppsLast = none ∧ u.onlyDev s) ∧
    (∀ c : Nat, s.dev.fld pFrame R.FRAME_STAT_ACTIVE ≠ 0 →
      (s.dev.srcOrder.takeWhile (· ≠ s.dev.fld pFrame R.FRAME_STAT_ACTIVE)).find? s.dev.srcQual = some c →
      ∃ u, exec .sourceTakeover s = .next (State.finish s.dev u) ∧ u.dev.fld pFrame R.FRAME_STAT_ACTIVE = c ∧
        u.dev.flag pFrame (R.PG_EVT_EVT.bit 0) = true ∧
        u.dev.fld pFrame R.FRAME_STAT_MODE = (if s.dev.fld pFrame R.FRAME_STAT_MODE = 2 then 2 else 1) ∧ u.onlyDev s)

/-- Side-control messages of time and slots (R36, R38, R39, Table 02-1): a message that passes its check ends the count toward SC loss;
a third TIME message in agreement qualifies SC; a SLOTS or ONOFF message in time takes effect on its frame and ends SC loss, and a late
one is counted; of two messages in succession that fail, the second disqualifies SC; pending actions the map no longer allows stand
only for their unwind. -/
def Sys2Proof.SideControlMessages : Prop :=
  ∀ s : State, s.dev.reachable = true →
    (∀ (sfn : BitVec 10) (ago : BitVec 16), ∃ u, exec (.time sfn ago) s = .next (State.finish s.dev u) ∧ u.dev.frame.noValid = 0 ∧
      u.dev.frame.scBad = 0 ∧
      (2 ≤ s.dev.frame.scRun → s.dev.frame.scLost = false →
        s.dev.frame.scLast = some (((sfn.toNat * frameTicks + ago.toNat : Nat) : Int) + s.dev.sfld pFrame R.FRAME_SC_DLY_DLY -
          s.dev.frame.clk) → u.dev.srcQual 4 = true) ∧ u.onlyDev s) ∧
    (∀ (frame : BitVec 10) (scs : Fin 3) (codes : BitVec 80),
      ∃ u, exec (.slots frame scs codes) s = .next (State.finish s.dev u) ∧ u.dev.frame.noValid = 0 ∧ u.dev.frame.scLost = false ∧
        (∀ a ∈ u.dev.frame.pend, u.dev.actAllowed a.ent a.target = true ∨ a.unwinding = true) ∧
        ((∀ p ∈ slotSpans scs.val codes.toNat, p.code ≠ spanCode (mat [] s.dev.frame.slots (s.dev.frameAhead frame.toNat)) p.lo →
            s.dev.now + lateTicks ≤ s.dev.frameAhead frame.toNat * frameTicks + p.lo) →
          mat [] u.dev.frame.slots (s.dev.frameAhead frame.toNat) = slotSpans scs.val codes.toNat ∧
            u.dev.fld pFrame R.FRAME_CNT_D_SC_LATE = s.dev.fld pFrame R.FRAME_CNT_D_SC_LATE) ∧
        (∀ f, f ≠ s.dev.frameAhead frame.toNat → mat [] u.dev.frame.slots f = mat [] s.dev.frame.slots f) ∧ u.onlyDev s) ∧
    (∀ (frame : BitVec 10) (on : Bool),
      ∃ u, exec (.onoff frame on) s = .next (State.finish s.dev u) ∧ u.dev.frame.noValid = 0 ∧ u.dev.frame.scLost = false ∧
        (s.dev.now + lateTicks ≤ s.dev.frameAhead frame.toNat * frameTicks →
          ({ frame := s.dev.frameAhead frame.toNat, tick := 0, on := on } : OnOffMark) ∈ u.dev.frame.onOff) ∧
        (s.dev.frameAhead frame.toNat * frameTicks < s.dev.now + lateTicks →
          s.dev.offAt (s.dev.frameAhead frame.toNat * frameTicks) = on → u.dev.fld pFrame R.FRAME_CNT_D_SC_LATE =
            min (s.dev.fld pFrame R.FRAME_CNT_D_SC_LATE + 1) (2 ^ R.FRAME_CNT_D_SC_LATE.w - 1)) ∧ u.onlyDev s) ∧
    (∀ (msg : BitVec 128) (high : Bool), high = true ∨ scCrcOk msg = false →
      ∃ u, exec (.scMessageFail msg high) s = .next (State.finish s.dev u) ∧
        u.dev.fld pFrame R.FRAME_CNT_D_SC_CRC = min (s.dev.fld pFrame R.FRAME_CNT_D_SC_CRC + 1) (2 ^ R.FRAME_CNT_D_SC_CRC.w - 1) ∧
        u.dev.frame.scRun = 0 ∧ (1 ≤ s.dev.frame.scBad → u.dev.srcQual 4 = false) ∧ u.onlyDev s) ∧
    (∀ msg : BitVec 128, scCrcOk msg = true → bitsOf msg.toNat 127 124 = 0 ∨ 4 < bitsOf msg.toNat 127 124 ∨
        (bitsOf msg.toNat 127 124 = 2 ∧ bitsOf msg.toNat 105 104 = 3) →
      ∃ u, exec (.scMessageDiscard msg) s = .next (State.finish s.dev u) ∧
        u.dev.fld pFrame R.FRAME_CNT_D_SC_CRC = min (s.dev.fld pFrame R.FRAME_CNT_D_SC_CRC + 1) (2 ^ R.FRAME_CNT_D_SC_CRC.w - 1) ∧
        u.onlyRegs s [pFrame + R.FRAME_CNT_D_SC_CRC.off])

/-- SC loss (R39): once no valid message has come for SC_LOSS frames, governed groups stand in off slots and SC is disqualified. -/
def Sys2Proof.SideControlLost : Prop :=
  ∀ s : State, s.dev.reachable = true → s.dev.flag pFrame R.FRAME_CTL_SC_EN = true → s.dev.frame.scLost = false →
    s.dev.fld pFrame R.FRAME_CTL_SC_LOSS ≤ s.dev.frame.noValid →
    ∃ u, exec .scLoss s = .next (State.finish s.dev u) ∧ u.dev.frame.scLost = true ∧ u.dev.flag pFrame (R.PG_EVT_EVT.bit 5) = true ∧
      u.dev.srcQual 4 = false ∧ (∀ t, u.dev.slotCode t = 0) ∧
      (∀ g t, u.dev.flag pFrame (R.FRAME_CTL_SC_GOV.bit g) = true → u.dev.slotAllows g t = false) ∧ u.onlyDev s

/-- Beams (R240): a BEAM message in time waits for its group's start less LEAD, here in a frame without a SLOTS message, whose slot length
is that of FE_BEAM_CTL.SCS; one that comes after the group's end is counted late and dropped; one that names a group above 6 is ignored and
counted; the entry due first is issued, here to an RFFE master with room in its queue. -/
def Sys2Proof.BeamsWaitTheirTime : Prop :=
  ∀ s : State, s.dev.reachable = true →
    (∀ (frame : BitVec 10) (slot : BitVec 6) (grp : BitVec 4) (idx : BitVec 8) (f len at0 : Nat), grp.toNat ≤ 6 →
      f = s.dev.frameAhead frame.toNat → mat [] s.dev.frame.slots f = [] → len = frameTicks / (10 * 2 ^ s.dev.fld pFe R.FE_BEAM_CTL_SCS) →
      slot.toNat < frameTicks / len → at0 = f * frameTicks + slot.toNat * len →
      bitsOf (s.dev.pair pFe (R.FE_BEAM_LO_ENTRY idx.toNat) (R.FE_BEAM_HI_ENTRY idx.toNat)) 63 60 ≠ 0 →
      (s.dev.now ≤ at0 + grp.toNat * len / 7 - s.dev.fld pFe R.FE_BEAM_CTL_LEAD →
        ∃ u, exec (.beam frame slot grp idx) s = .next (State.finish s.dev u) ∧
          u.dev.front = { s.dev.front with
            beams := s.dev.front.beams ++ [⟨idx.toNat, at0 + grp.toNat * len / 7 - s.dev.fld pFe R.FE_BEAM_CTL_LEAD⟩] } ∧
          u.dev.regsBut s.dev [] ∧ u.onlyDev s) ∧
      (at0 + grp.toNat * len / 7 - s.dev.fld pFe R.FE_BEAM_CTL_LEAD < s.dev.now → at0 + (grp.toNat + 1) * len / 7 ≤ s.dev.now →
        ∃ u, exec (.beam frame slot grp idx) s = .next (State.finish s.dev u) ∧
          u.dev.fld pFe R.FE_BEAM_CNT_LATE = min (s.dev.fld pFe R.FE_BEAM_CNT_LATE + 1) (2 ^ R.FE_BEAM_CNT_LATE.w - 1) ∧
          u.dev.front = s.dev.front ∧ u.dev.regsBut s.dev [pFe + R.FE_BEAM_CNT_LATE.off, pFe + R.PG_EVT_EVT.off] ∧ u.onlyDev s)) ∧
    (∀ (frame : BitVec 10) (slot : BitVec 6) (grp : BitVec 4) (idx : BitVec 8), 6 < grp.toNat →
      ∃ u, exec (.beam frame slot grp idx) s = .next (State.finish s.dev u) ∧
        u.dev.fld pFe R.FE_BEAM_CNT_BAD = min (s.dev.fld pFe R.FE_BEAM_CNT_BAD + 1) (2 ^ R.FE_BEAM_CNT_BAD.w - 1) ∧
        u.dev.front = s.dev.front ∧ u.dev.regsBut s.dev [pFe + R.FE_BEAM_CNT_BAD.off, pFe + R.PG_EVT_EVT.off] ∧ u.onlyDev s) ∧
    (∀ (b : BeamWait) (rest : List BeamWait) (e : Nat), s.dev.front.beams = b :: rest → (∀ c ∈ rest, b.due ≤ c.due) →
      e = s.dev.pair pFe (R.FE_BEAM_LO_ENTRY b.entry) (R.FE_BEAM_HI_ENTRY b.entry) → bitsOf e 63 60 = 1 →
      s.dev.rffeFull (bitsOf e 57 56) = false →
      ∃ u, exec .beamWriteIssue s = .next (State.finish s.dev u) ∧ u.dev.front.beams = rest ∧
        (∃ w, (u.dev.rffe (bitsOf e 57 56)).queue = (s.dev.rffe (bitsOf e 57 56)).queue ++ [w] ∧ w.usid = bitsOf e 55 52 ∧
          w.addr = bitsOf e 47 32 ∧ w.data = bitsOf e 31 24 ∧ w.src = 2) ∧ u.dev.frame = s.dev.frame ∧ u.onlyDev s)

/-- Side-control messages, their loss, and beams that wait for their time. -/
def Obligations.SideControl : Prop := SideControlMessages ∧ SideControlLost ∧ BeamsWaitTheirTime

/-! ### The event table (R40 to R46) -/

/-- The dispatcher reaches an entry (R41 to R43): an entry that is not valid does nothing; a malformed one is counted with its index and the
lowest reason that holds; one whose target has passed is counted as missed; any other due within 20,480 ticks enters the issue queue
in the order of issue time and table index. -/
def Sys2Proof.DispatcherReadsEntry : Prop :=
  ∀ (s : State) (n : Fin 32768), s.dev.reachable = true → s.dev.frame.queue.length < 1024 →
    ((s.dev.entry n.val).valid = false → exec (.dispatcherEntryRead n) s = .next (State.finish s.dev s)) ∧
    ((s.dev.entry n.val).valid = true → (s.dev.entry n.val).malformed ≠ 0 →
      ∃ u, exec (.dispatcherEntryRead n) s = .next (State.finish s.dev u) ∧
        u.dev.fld pFrame R.FRAME_CNT_C_BADENT = min (s.dev.fld pFrame R.FRAME_CNT_C_BADENT + 1) (2 ^ R.FRAME_CNT_C_BADENT.w - 1) ∧
        u.dev.fld pFrame R.FRAME_EVT_LASTBAD_INDEX = n.val ∧
        u.dev.fld pFrame R.FRAME_EVT_LASTBAD_REASON = (s.dev.entry n.val).malformed ∧ u.dev.flag pFrame (R.PG_EVT_EVT.bit 8) = true ∧
        u.onlyRegs s [pFrame + R.FRAME_CNT_C_BADENT.off, pFrame + R.FRAME_EVT_LASTBAD_INDEX.off, pFrame + R.PG_EVT_EVT.off]) ∧
    (∀ t, (s.dev.entry n.val).valid = true → (s.dev.entry n.val).malformed = 0 → s.dev.nextTarget n.val (s.dev.entry n.val) = some t →
      ∃ u, exec (.dispatcherEntryRead n) s = .next (State.finish s.dev u) ∧ u.dev.frame.handled.contains (n.val, t) = true ∧
        (t < s.dev.now → (s.dev.entry n.val).action ≠ 3 → u.dev.frame.queue = s.dev.frame.queue ∧ u.dev.front = s.dev.front ∧
          u.dev.fld pFrame R.FRAME_CNT_A_MISSED = min (s.dev.fld pFrame R.FRAME_CNT_A_MISSED + 1) (2 ^ R.FRAME_CNT_A_MISSED.w - 1)) ∧
        (s.dev.now ≤ t → s.dev.frame.suppress = none → u.dev.front = s.dev.front ∧
          ∃ a, a.idx = n.val ∧ a.ent = s.dev.entry n.val ∧ a.target = t ∧ u.dev.frame.queue = queueIn a s.dev.frame.queue) ∧
        u.onlyDev s)

/-- The queue stands in the order of issue time, and of table index within one issue time, whatever entry it takes (R42); nothing else
enters or leaves it with the entry. -/
def Obligations.QueueStandsInOrder : Prop :=
  ∀ (a : Act) (l : List Act),
    l.Pairwise (fun x y => ¬ (y.issue < x.issue ∨ (y.issue = x.issue ∧ y.idx < x.idx))) →
      (queueIn a l).Pairwise (fun x y => ¬ (y.issue < x.issue ∨ (y.issue = x.issue ∧ y.idx < x.idx))) ∧ (queueIn a l).Perm (a :: l)

/-- The head of the queue is issued once its time has come, at most 16 in a tick (R42, R45); a governed action that the map does not allow
leaves the queue without effect (R46); one issued late is counted. Here a USER action, whose effect is PG_EVT bit 15 of FRAME. -/
def Sys2Proof.ActionIssues : Prop :=
  ∀ (s : State) (a : Act) (rest : List Act), s.dev.reachable = true → s.dev.frame.queue = a :: rest →
    (s.dev.now < a.issue ∨ 16 ≤ s.dev.frame.issuedNow → exec .actionIssue s = .next (State.finish s.dev s)) ∧
    (a.issue ≤ s.dev.now → s.dev.frame.issuedNow < 16 → s.dev.actAllowed a.ent a.target = false →
      exec .actionIssue s = .next (State.finish s.dev (s.onDev fun d => { d with frame := { d.frame with queue := rest } }))) ∧
    (a.issue ≤ s.dev.now → s.dev.frame.issuedNow < 16 → s.dev.actAllowed a.ent a.target = true → a.ent.action = 16 →
      ∃ u, exec .actionIssue s = .next (State.finish s.dev u) ∧ u.dev.frame.queue = rest ∧
        u.dev.frame.issuedNow = s.dev.frame.issuedNow + 1 ∧ u.dev.flag pFrame (R.PG_EVT_EVT.bit 15) = true ∧
        (a.issue < s.dev.now → a.issue ≤ s.dev.frame.lastNow →
          u.dev.fld pFrame R.FRAME_CNT_A_LATE = min (s.dev.fld pFrame R.FRAME_CNT_A_LATE + 1) (2 ^ R.FRAME_CNT_A_LATE.w - 1)) ∧
        u.dev.regsBut s.dev [pFrame + R.FRAME_CNT_A_LATE.off, pFrame + R.PG_EVT_EVT.off] ∧ u.dev.front = s.dev.front ∧ u.onlyDev s)

/-- The dispatcher reads entries and issues actions. -/
def Obligations.EntriesAndActions : Prop := DispatcherReadsEntry ∧ ActionIssues

/-! ### Frame actions (Table 02-9; R42, R45, R47, R63, R82, R108, R143, R224, R238, R241, R246, R262, R263, R336, R427) -/

/-- Nothing differs from `s` but the registers at the addresses of `l`, the front end, the performance counters and what waits on the wires;
the counter of action `a` has advanced unless it is frozen (Table 18-3). -/
def Sys2Proof.actsOn (u s : State) (a : Nat) (l : List Nat) : Prop :=
  u.dev.regsBut s.dev l ∧ { u.dev with regs := s.dev.regs, front := s.dev.front, obs := s.dev.obs, wires := s.dev.wires } = s.dev ∧
    u.onlyDev s ∧ (s.dev.flag pObs R.OBS_STAT_FROZEN = false →
      mat 0 u.dev.obs.ctrs (1328 + a) = (mat 0 s.dev.obs.ctrs (1328 + a) + 1) % 2 ^ 48)

/-- The actions of the front end. NOP does nothing; GATE_OPEN opens its gates on confirmation alone and is else refused and counted;
GATE_CLOSE closes them at once; PATH_STATE puts REQ, a code of 7 or above counting BADREQ; RFFE_WR waits in its master's queue, or is
dropped from a full one; GPIO_SET drives an FE-mode GPIO and counts REJ on any other; USER raises PG_EVT bit 15 of FRAME. -/
def Obligations.FrontActions : Prop :=
  ∀ s : State, s.dev.reachable = true →
    (∃ u, exec .nop s = .next (State.finish s.dev u) ∧ u.dev.front = s.dev.front ∧ actsOn u s 0 []) ∧
    (∀ (dtx : Bool) (mask : BitVec 4) (gov : Option (Fin 4)) (g bits : Nat), g = (if dtx then 3 else 1) →
      bits = mask.toNat * (if dtx then 16 else 1) →
      ∃ u, exec (.gateOpen dtx mask gov) s = .next (State.finish s.dev u) ∧
        (if s.dev.timeConfirms && s.dev.grpEff g == 4 && s.dev.grpLocked g && (gov.all fun h => s.dev.slotAllows h.val s.dev.now) &&
            !s.dev.grpMuted g && !s.dev.flag pPin R.PIN_STRAP_TEST then
          u.dev.front.gates = s.dev.front.gates ||| (bits - (bits &&& s.dev.frame.closedNow)) ∧
            actsOn u s 2 ((List.range 4).map fun i => pFe + (R.FE_PG_CNT_RET_SKIP i).off)
        else u.dev.front = s.dev.front ∧
          u.dev.fld pFrame R.FRAME_CNT_C_GATE_REFUSED =
            min (s.dev.fld pFrame R.FRAME_CNT_C_GATE_REFUSED + 1) (2 ^ R.FRAME_CNT_C_GATE_REFUSED.w - 1) ∧
          actsOn u s 2 [pFrame + R.FRAME_CNT_C_GATE_REFUSED.off, pFe + (R.FE_PG_CNT_LOCK_SKIP g).off, pFe + R.PG_EVT_EVT.off])) ∧
    (∀ (dtx : Bool) (mask : BitVec 4) (bits : Nat), bits = mask.toNat * (if dtx then 16 else 1) →
      ∃ u, exec (.gateClose dtx mask) s = .next (State.finish s.dev u) ∧
        u.dev.front.gates = s.dev.front.gates - (s.dev.front.gates &&& bits) ∧
        u.dev.frame = { s.dev.frame with closedNow := s.dev.frame.closedNow ||| bits } ∧ u.dev.regsBut s.dev [] ∧ u.onlyDev s) ∧
    (∀ (g : Fin 4) (st : BitVec 4), ∃ u, exec (.pathState g st) s = .next (State.finish s.dev u) ∧
      (st.toNat < 7 → u.dev.grpReq g.val = st.toNat ∧ u.dev.flag pFe (R.FE_PG_STAT_AUTO g.val) = false ∧
        (u.dev.grp g.val).retDue = false) ∧
      (7 ≤ st.toNat → u.dev.grpReq g.val = s.dev.grpReq g.val ∧ u.dev.fld pFe (R.FE_PG_CNT_BADREQ g.val) =
        min (s.dev.fld pFe (R.FE_PG_CNT_BADREQ g.val) + 1) (2 ^ (R.FE_PG_CNT_BADREQ g.val).w - 1)) ∧
      u.dev.front.gates = s.dev.front.gates ∧ actsOn u s 4 [pFe + (R.FE_PG_STAT_REQ g.val).off, pFe + (R.FE_PG_CNT_BADREQ g.val).off]) ∧
    (∀ (m : Fin 4) (usid : BitVec 4) (addr : BitVec 16) (data : BitVec 8) (long : Bool),
      ∃ u, exec (.rffeWr m usid addr data long) s = .next (State.finish s.dev u) ∧
        (u.dev.rffe m.val).queue = (s.dev.rffe m.val).queue ++ (if s.dev.rffeFull m.val then [] else
          [{ usid := usid.toNat, addr := addr.toNat, data := data.toNat, long := long, src := 0, grp := 0, idx := 0, undo := false }]) ∧
        (s.dev.rffeFull m.val = true → u.dev.fld pFe (R.FE_RFFE_CNT_DROP m.val) =
          min (s.dev.fld pFe (R.FE_RFFE_CNT_DROP m.val) + 1) (2 ^ (R.FE_RFFE_CNT_DROP m.val).w - 1)) ∧
        actsOn u s 5 [pFe + (R.FE_RFFE_CNT_DROP m.val).off, pFe + (R.FE_RFFE_STAT_QDEPTH m.val).off, pFe + R.PG_EVT_EVT.off]) ∧
    (∀ (n : Fin 48) (level high : Bool), ∃ u, exec (.gpioSet n level high) s = .next (State.finish s.dev u) ∧
      (s.dev.fld pFe (R.FE_GPIO_MODE_MODE n.val) = 1 → (u.dev.gpio n.val).drive = (if high then none else some level)) ∧
      (s.dev.fld pFe (R.FE_GPIO_MODE_MODE n.val) ≠ 1 → u.dev.front = s.dev.front ∧
        u.dev.fld pFe R.FE_GPIO_CNT_REJ = min (s.dev.fld pFe R.FE_GPIO_CNT_REJ + 1) (2 ^ R.FE_GPIO_CNT_REJ.w - 1)) ∧
      u.dev.front.gates = s.dev.front.gates ∧ actsOn u s 6 [pFe + R.FE_GPIO_CNT_REJ.off]) ∧
    (∃ u, exec .user s = .next (State.finish s.dev u) ∧ u.dev.flag pFrame (R.PG_EVT_EVT.bit 15) = true ∧ u.dev.front = s.dev.front ∧
      actsOn u s 16 [pFrame + R.PG_EVT_EVT.off])

/-- The actions on converters and monitors. CONV_WAKE puts a powered converter to sleep, its stream absent, or begins to wake it;
SIEVE_SYNC gives each running converter it names this tick as its reference and counts SYNC_IGN for the others; MON_TRIG begins the
conversion its kind names on an idle converter, and a disabled converter counts IGNORED. -/
def Obligations.ConverterActions : Prop :=
  ∀ s : State, s.dev.reachable = true →
    (∀ c : Fin 16, 2 ≤ (s.dev.grp (convGroup c.val)).pos → (s.dev.convSt c.val).powered = true →
      ((s.dev.convSt c.val).asleep = false →
        ∃ u, exec (.convWake c false) s = .next (State.finish s.dev u) ∧ (u.dev.convSt c.val).asleep = true ∧
          (u.dev.convSt c.val).ref = false ∧ (∀ k, k ≠ c.val → u.dev.convSt k = s.dev.convSt k) ∧ u.dev.front = s.dev.front ∧
          u.dev.regsBut s.dev (s.dev.channels.map fun n => pCh n + R.CH_SV_STAT_ABSENT.off) ∧ u.onlyDev s) ∧
      ((s.dev.convSt c.val).asleep = true →
        ∃ u, exec (.convWake c true) s = .next (State.finish s.dev u) ∧ (u.dev.convSt c.val).waking = true ∧
          (u.dev.convSt c.val).asleep = true ∧ (∀ k, k ≠ c.val → u.dev.convSt k = s.dev.convSt k) ∧ u.dev.regsBut s.dev [] ∧
          u.onlyDev s)) ∧
    (∀ mask : BitVec 16, ∃ u, exec (.sieveSync mask) s = .next (State.finish s.dev u) ∧
      (∀ c, c < 16 → mask.toNat.testBit c = true → (s.dev.convSt c).runs = true →
        (u.dev.convSt c).ref = true ∧ (u.dev.convSt c).count = 0 ∧
          u.dev.fld (pConv c) R.SV_REF_TICK_TICK = s.dev.frame.tick % 2 ^ 23 ∧
          u.dev.fld (pConv c) R.SV_REF_FRAME = s.dev.frame.frame % 2 ^ 10 ∧ u.dev.flag (pConv c) R.SV_REF_IMPLICIT = false ∧
          u.dev.flag (pConv c) R.SV_REF_VALID = true) ∧
      (∀ c, c < 16 → mask.toNat.testBit c = true → (s.dev.convSt c).runs = false → u.dev.convSt c = s.dev.convSt c ∧
        u.dev.fld (pConv c) R.SV_CNT_SYNC_IGN = min (s.dev.fld (pConv c) R.SV_CNT_SYNC_IGN + 1) (2 ^ R.SV_CNT_SYNC_IGN.w - 1)) ∧
      (∀ c, mask.toNat.testBit c = false → u.dev.convSt c = s.dev.convSt c) ∧ u.dev.frame = s.dev.frame ∧ u.onlyDev s) ∧
    (∀ (inst : Fin 3) (kind : Fin 4), inst.val < 2 → s.dev.flag pMon R.MON_CTL_PAIR = false →
      (s.dev.monOn inst.val = false →
        ∃ u, exec (.monTrig inst kind) s = .next (State.finish s.dev u) ∧ u.dev.mon = s.dev.mon ∧
          u.dev.fld pMon R.MON_CNT_C_IGNORED = min (s.dev.fld pMon R.MON_CNT_C_IGNORED + 1) (2 ^ R.MON_CNT_C_IGNORED.w - 1) ∧
          u.dev.regsBut s.dev [pMon + R.MON_CNT_C_IGNORED.off] ∧ u.onlyDev s) ∧
      (s.dev.monOn inst.val = true → s.dev.monCompat inst.val = false → (s.dev.monSt inst.val).conv = none →
        ∃ u, exec (.monTrig inst kind) s = .next (State.finish s.dev u) ∧
          (∃ cv, (u.dev.monSt inst.val).conv = some cv ∧ cv.src = 0 ∧ cv.entry = kind.val ∧
            cv.input = s.dev.monNative inst.val kind.val) ∧
          u.dev.flag pMon (R.MON_STAT_BUSY.bit inst.val) = true ∧ u.dev.regsBut s.dev [pMon + R.MON_STAT_BUSY.off] ∧ u.onlyDev s))

/-- The actions of pages, bias outputs, banks, engines and cancellers. COMMIT acts on an armed page, which takes its shadow as it stands;
BIAS_LOAD takes each code of its group, held outputs counting STROBE_IGN; BIAS_RAMP with a lead sets each on its way; COEF_SWAP begins
a fade, or is refused with its reason; IMG_SWAP arms a swap with a valid shadow; CANC_FREEZE and CANC_RELEASE stop and release
adaptation. -/
def Obligations.BlockActions : Prop :=
  ∀ s : State, s.dev.reachable = true →
    (∀ (cls : BitVec 9) (inst : BitVec 12) (pg : Nat) (p : PageDef), pageAt cls.toNat inst.toNat = some pg → pageDefAt pg = some p →
      p.blk ∈ [Blk.eng, Blk.dac, Blk.qmgr, Blk.xlat, Blk.irq, Blk.fault, Blk.recorder] →
      (s.dev.flag pg R.PG_CTL_ARMED = true →
        ∃ u, exec (.commit cls inst) s = .next (State.finish s.dev u) ∧ u.dev.flag pg R.PG_CTL_ARMED = false ∧ u.pending = s.pending ∧
          ((∀ a, pg + 0x40 ≤ a → a < pg + p.span → u.dev.reg a = (s.dev.reg a &&& ~~~ rwcMask a) ||| (s.dev.shadowReg a &&& rwcMask a)) ∨
            ((∀ a, pg + 0x40 ≤ a → a < pg + p.span → u.dev.reg a = s.dev.reg a) ∧
              u.dev.fld pDev R.DEV_BAD_ACC_CNT_COUNT =
                min (s.dev.fld pDev R.DEV_BAD_ACC_CNT_COUNT + 1) (2 ^ R.DEV_BAD_ACC_CNT_COUNT.w - 1)))) ∧
      (s.dev.flag pg R.PG_CTL_ARMED = false →
        ∃ u, exec (.commit cls inst) s = .next (State.finish s.dev u) ∧ u.dev.front = s.dev.front ∧ actsOn u s 1 [])) ∧
    (∀ grp : Fin 4, ∃ u, exec (.biasLoad grp) s = .next (State.finish s.dev u) ∧
      (∀ n, n < 16 → s.dev.fld (pBias n) R.BIAS_CTL_GROUP = grp.val →
        (s.dev.biasHeld n = true → u.dev.biasOut n = s.dev.biasOut n ∧ u.dev.fld (pBias n) R.BIAS_CNT_STROBE_IGN =
          min (s.dev.fld (pBias n) R.BIAS_CNT_STROBE_IGN + 1) (2 ^ R.BIAS_CNT_STROBE_IGN.w - 1)) ∧
        (s.dev.biasHeld n = false → (u.dev.biasOut n).target = s.dev.fld (pBias n) R.BIAS_CODE_CODE ∧ (u.dev.biasOut n).line = none ∧
          u.dev.flag (pBias n) R.BIAS_STAT_AT_CLEAR = false ∧
          (s.dev.flag (pBias n) R.BIAS_STAT_DEGLITCH = false → s.dev.fld (pBias n) R.BIAS_CODE_CODE < s.dev.biasCode n + 4096 →
            s.dev.biasCode n < s.dev.fld (pBias n) R.BIAS_CODE_CODE + 4096 →
            (u.dev.biasOut n).code = s.dev.fld (pBias n) R.BIAS_CODE_CODE) ∧
          (s.dev.biasCode n + 4096 ≤ s.dev.fld (pBias n) R.BIAS_CODE_CODE → (u.dev.biasOut n).code = s.dev.biasCode n ∧
            u.dev.flag (pBias n) R.BIAS_STAT_DEGLITCH = true))) ∧
      (∀ n, 16 ≤ n ∨ s.dev.fld (pBias n) R.BIAS_CTL_GROUP ≠ grp.val → u.dev.biasOut n = s.dev.biasOut n) ∧ u.onlyDev s) ∧
    (∀ (grp : Fin 4) (lead : BitVec 15), lead.toNat ≠ 0 → ∃ u, exec (.biasRamp grp lead) s = .next (State.finish s.dev u) ∧
      (∀ n, n < 16 → s.dev.fld (pBias n) R.BIAS_CTL_GROUP = grp.val → s.dev.biasHeld n = false →
        (u.dev.biasOut n).target = s.dev.fld (pBias n) R.BIAS_CODE_CODE ∧ u.dev.flag (pBias n) R.BIAS_STAT_RAMP = true ∧
          ∃ len, lead.toNat * 2 / 5 ≤ len ∧
            (u.dev.biasOut n).line = some (s.dev.biasCode n, s.dev.fld (pBias n) R.BIAS_CODE_CODE, s.dev.biasCycle, len)) ∧ u.onlyDev s) ∧
    (∀ (ch : Fin 192) (bank : Bool) (k : BitVec 4),
      (k.toNat < 4 ∨ 12 < k.toNat → ∃ u, exec (.coefSwap ch bank k) s = .next (State.finish s.dev u) ∧
        u.dev.fld (pCh ch.val) R.CH_FIR_STAT_LAST_REFUSE = 1 ∧ u.dev.fld (pCh ch.val) R.CH_FIR_CNT_REFUSED =
          min (s.dev.fld (pCh ch.val) R.CH_FIR_CNT_REFUSED + 1) (2 ^ R.CH_FIR_CNT_REFUSED.w - 1) ∧ u.dev.front = s.dev.front ∧
        actsOn u s 11 [pCh ch.val + R.CH_FIR_STAT_LAST_REFUSE.off, pCh ch.val + R.CH_FIR_CNT_REFUSED.off]) ∧
      (4 ≤ k.toNat → k.toNat ≤ 12 → s.dev.flag (pCh ch.val) R.CH_FIR_STAT_FADING = false →
        bankFault (s.dev.bankTaps ch.val bank.toNat) (lineLength s.dev.profile (s.dev.fld (pCh ch.val) R.CH_DEF_RATE_K)) = 0 →
        s.dev.fld (pCh ch.val) R.CH_FIR_STAT_ACTIVE ≠ bank.toNat → (s.dev.sieveCh ch.val).unfitM = none → s.dev.firRuns ch.val = true →
        ∃ u, exec (.coefSwap ch bank k) s = .next (State.finish s.dev u) ∧ u.dev.flag (pCh ch.val) R.CH_FIR_STAT_FADING = true ∧
          (u.dev.sieveCh ch.val).fadeK = k.toNat ∧ (u.dev.sieveCh ch.val).fadeN = 0 ∧
          u.dev.fld (pCh ch.val) R.CH_FIR_STAT_ACTIVE = s.dev.fld (pCh ch.val) R.CH_FIR_STAT_ACTIVE ∧
          u.dev.regsBut s.dev [pCh ch.val + R.CH_FIR_STAT_FADING.off] ∧ u.onlyDev s)) ∧
    (∀ e : Fin 96,
      (s.dev.flag (pEng e.val) R.ENG_STAT_SHADOW_VALID = true →
        ∃ u, exec (.imgSwap (.eng e)) s = .next (State.finish s.dev u) ∧ u.dev.flag (pEng e.val) R.ENG_STAT_SWAP_ARMED = true ∧
          (u.dev.engine e.val).swapArmed = true ∧ u.dev.regsBut s.dev [pEng e.val + R.ENG_STAT_SWAP_ARMED.off] ∧ u.onlyDev s) ∧
      (s.dev.flag (pEng e.val) R.ENG_STAT_SHADOW_VALID = false →
        ∃ u, exec (.imgSwap (.eng e)) s = .next (State.finish s.dev u) ∧ (u.dev.engine e.val).swapArmed = false ∧
          u.dev.fld (pEng e.val) R.ENG_CNT_B_SWAP_REFUSED =
            min (s.dev.fld (pEng e.val) R.ENG_CNT_B_SWAP_REFUSED + 1) (2 ^ R.ENG_CNT_B_SWAP_REFUSED.w - 1) ∧
          u.dev.flag (pEng e.val) R.ENG_STAT_SWAP_ARMED = false ∧ u.dev.front = s.dev.front ∧ u.onlyDev s)) ∧
    (∀ ch : Fin 192,
      (∃ u, exec (.cancFreeze ch) s = .next (State.finish s.dev u) ∧ (u.dev.canceller ch.val).frozenEvt = true ∧
        u.dev.flag (pCh ch.val) R.CH_CANC_STAT_FROZEN = true ∧ u.dev.regsBut s.dev [pCh ch.val + R.CH_CANC_STAT_FROZEN.off] ∧
        u.onlyDev s) ∧
      ∃ u, exec (.cancRelease ch) s = .next (State.finish s.dev u) ∧ (u.dev.canceller ch.val).frozenEvt = false ∧
        u.dev.flag (pCh ch.val) R.CH_CANC_STAT_FROZEN = u.dev.cancFrozen ch.val ∧
        u.dev.regsBut s.dev [pCh ch.val + R.CH_CANC_STAT_FROZEN.off] ∧ u.onlyDev s)

/-! ### The Sieve (R22, R65, R68, R79, R82, R83) -/

/-- Events of the receive chains. A slip of an M buffer is counted, raises source 120 and restarts every chain it feeds; at the end of a
fill no chain of the channel fills and FILL is 0; a coarse value is shown in dB; a powered-down converter does not slip. -/
def Sys2Proof.ChainEvents : Prop :=
  ∀ s : State, s.dev.reachable = true →
    (∀ conv : Fin 16, ((s.dev.convSt conv.val).runs = true →
        ∃ u, exec (.mBufferSlip conv) s = .next (State.finish s.dev u) ∧
          u.dev.fld (pConv conv.val) R.SV_SLIP_SLIP = min (s.dev.fld (pConv conv.val) R.SV_SLIP_SLIP + 1) (2 ^ R.SV_SLIP_SLIP.w - 1) ∧
          (∃ x ∈ u.dev.wires.faults, x.src = 120 ∧ x.page = pConv conv.val) ∧
          (∀ n j, n < 192 → s.dev.usesRx n conv.val = true → j < s.dev.chRank n → (u.dev.rxChain n j).restart = true) ∧
          u.dev.front = s.dev.front ∧ u.dev.frame = s.dev.frame ∧ u.onlyDev s) ∧
      ((s.dev.convSt conv.val).runs = false → exec (.mBufferSlip conv) s = .next (State.finish s.dev s))) ∧
    (∀ ch : Fin 192, s.dev.chOn ch.val = true →
      ∃ u, exec (.fillEnd ch) s = .next (State.finish s.dev u) ∧ (∀ j, j < s.dev.chRank ch.val → (u.dev.rxChain ch.val j).fillLeft = 0) ∧
        u.dev.flag (pCh ch.val) R.CH_SV_STAT_FILL = false ∧ u.dev.front = s.dev.front ∧ u.dev.frame = s.dev.frame ∧ u.onlyDev s) ∧
    (∀ (ch : Fin 192) (j : Fin 4) (sum peak : Nat) (valid : Bool), s.dev.chOn ch.val = true → j.val < s.dev.chRank ch.val →
      (s.dev.rxChain ch.val j.val).coarseOut = some (sum, peak, valid) →
      ∃ u, exec (.coarseValue ch j) s = .next (State.finish s.dev u) ∧
        u.dev.fld (pCh ch.val) (R.CH_SV_COARSE_POWER j.val) = twos 16 (coarseOf sum peak valid).power ∧
        u.dev.fld (pCh ch.val) (R.CH_SV_COARSE_PEAK j.val) = twos 16 (coarseOf sum peak valid).peak ∧
        (u.dev.rxChain ch.val j.val).coarseOut = none ∧ u.onlyDev s)

/-- The FIR banks. CH_FIR_SWAP refuses a fade length outside 4 to 12 with its reason and else begins a fade; a write to a coefficient or
length of a locked bank leaves it and is counted, one to an unlocked bank takes effect; when a fade ends the other bank is active. -/
def Sys2Proof.FirBanks : Prop :=
  ∀ (s : State) (ch : Fin 192), s.dev.reachable = true → s.dev.resets.contains (pCh ch.val) = false →
    (∀ (bank : Bool) (k : BitVec 4),
      (k.toNat < 4 ∨ 12 < k.toNat → ∃ u, exec (.chFirSwap ch bank k) s = .next (State.finish s.dev u) ∧
        u.dev.fld (pCh ch.val) R.CH_FIR_STAT_LAST_REFUSE = 1 ∧ u.dev.fld (pCh ch.val) R.CH_FIR_CNT_REFUSED =
          min (s.dev.fld (pCh ch.val) R.CH_FIR_CNT_REFUSED + 1) (2 ^ R.CH_FIR_CNT_REFUSED.w - 1) ∧
        u.dev.flag (pCh ch.val) R.CH_FIR_STAT_FADING = s.dev.flag (pCh ch.val) R.CH_FIR_STAT_FADING ∧ u.onlyDev s) ∧
      (4 ≤ k.toNat → k.toNat ≤ 12 → s.dev.flag (pCh ch.val) R.CH_FIR_STAT_FADING = false →
        bankFault (s.dev.bankTaps ch.val bank.toNat) (lineLength s.dev.profile (s.dev.fld (pCh ch.val) R.CH_DEF_RATE_K)) = 0 →
        s.dev.fld (pCh ch.val) R.CH_FIR_STAT_ACTIVE ≠ bank.toNat → (s.dev.sieveCh ch.val).unfitM = none → s.dev.firRuns ch.val = true →
        ∃ u, exec (.chFirSwap ch bank k) s = .next (State.finish s.dev u) ∧ u.dev.flag (pCh ch.val) R.CH_FIR_STAT_FADING = true ∧
          (u.dev.sieveCh ch.val).fadeK = k.toNat ∧ (u.dev.sieveCh ch.val).fadeN = 0 ∧ u.onlyDev s)) ∧
    (∀ (bank : Bool) (i : Fin 64) (v : BitVec 18) (F : Fld), F = (if bank then R.CH_FIR_B_COEF i.val else R.CH_FIR_A_COEF i.val) →
      (s.dev.bankLocked ch.val bank.toNat = false →
        ∃ u, exec (.firBankWrite ch (.coef bank i v)) s = .next (State.finish s.dev u) ∧ u.dev.fld (pCh ch.val) F = v.toNat ∧
          u.onlyRegs s [pCh ch.val + F.off]) ∧
      (s.dev.bankLocked ch.val bank.toNat = true →
        ∃ u, exec (.firBankWrite ch (.coef bank i v)) s = .next (State.finish s.dev u) ∧
          u.dev.fld (pCh ch.val) R.CH_FIR_CNT_LOCKED_WR =
            min (s.dev.fld (pCh ch.val) R.CH_FIR_CNT_LOCKED_WR + 1) (2 ^ R.CH_FIR_CNT_LOCKED_WR.w - 1) ∧
          u.onlyRegs s [pCh ch.val + R.CH_FIR_CNT_LOCKED_WR.off])) ∧
    (∀ a b : BitVec 8, ∃ u, exec (.firBankWrite ch (.ntaps a b)) s = .next (State.finish s.dev u) ∧
      u.dev.bankTaps ch.val 0 = (if s.dev.bankLocked ch.val 0 then s.dev.bankTaps ch.val 0 else a.toNat) ∧
      u.dev.bankTaps ch.val 1 = (if s.dev.bankLocked ch.val 1 then s.dev.bankTaps ch.val 1 else b.toNat) ∧
      u.onlyRegs s [pCh ch.val + R.CH_FIR_NTAPS_NTAPS_A.off, pCh ch.val + R.CH_FIR_CNT_LOCKED_WR.off]) ∧
    (s.dev.flag (pCh ch.val) R.CH_FIR_STAT_FADING = true → s.dev.flag (pCh ch.val) R.CH_FIR_STAT_QUEUED = false →
      ∃ u, exec (.fadeEnd ch) s = .next (State.finish s.dev u) ∧ u.dev.flag (pCh ch.val) R.CH_FIR_STAT_FADING = false ∧
        u.dev.fld (pCh ch.val) R.CH_FIR_STAT_ACTIVE = 1 - s.dev.fld (pCh ch.val) R.CH_FIR_STAT_ACTIVE ∧
        u.dev.flag (pCh ch.val) (R.PG_EVT_EVT.bit 5) = true ∧
        u.dev.regsBut s.dev [pCh ch.val + R.CH_FIR_STAT_ACTIVE.off, pCh ch.val + R.PG_EVT_EVT.off] ∧ u.onlyDev s)

/-- What happens along a channel's chain, and its coefficient banks. -/
def Obligations.ChainsAndBanks : Prop := ChainEvents ∧ FirBanks

/-! ### Cancellation and gain (R106, R138, R151, R159, R162, R168, R187) -/

/-- The canceller and the gain stage. An update instant of an adapting canceller, here of a channel of one stream, takes each tap in effect
by the same step from the residual and the reference words under the taps; while adaptation is stopped every stream's update instant is
skipped and counted, the taps as they were; the gain stage takes one word of a stream and nothing when none waits; the gating hang returns a channel to LISTEN; SENSE_HOLD
puts the band to SAFE_BAND; the port loop keeps the trim at or below 0 dB, and its sums start anew; HOLD and RELEASE wait for the next
level update, and change nothing when the channel is held, or not, already. -/
def Obligations.GainCommands : Prop :=
  ∀ s : State, s.dev.reachable = true →
    (∀ ch : Fin 192, (s.dev.hasCanc ch.val = true → s.dev.cancFrozen ch.val = true →
        ∃ u, exec (.cancUpdate ch) s = .next (State.finish s.dev u) ∧ u.dev.canc = s.dev.canc ∧
          u.dev.fld (pCh ch.val) R.CH_CANC_SKIP_SKIP =
            min (s.dev.fld (pCh ch.val) R.CH_CANC_SKIP_SKIP + s.dev.chRank ch.val) (2 ^ R.CH_CANC_SKIP_SKIP.w - 1) ∧
          u.dev.regsBut s.dev [pCh ch.val + R.CH_CANC_SKIP_SKIP.off] ∧ u.onlyDev s) ∧
      (∀ (w : List SampleWord) (x : SampleWord) (y e : Int × Int) (p : Nat), s.dev.hasCanc ch.val = true → s.dev.chRank ch.val = 1 →
        s.dev.cancFrozen ch.val = false → s.dev.adaptHeld ch.val = false → s.dev.outGates ch.val = true → s.dev.outHold ch.val = false →
        s.dev.flag pProt (R.PROT_CH_STAT_GATED ch.val) = false → s.dev.notServed ch.val = false → w = s.dev.refWindow ch.val 0 →
        (w.any fun v => v.spoil) = false → x = mat .init (s.dev.canceller ch.val).x 0 → x.spoil = false →
        p = (w.map fun v => (v.z.1 * v.z.1 + v.z.2 * v.z.2).toNat).sum → p ≠ 0 →
        y = Config.leak [(s.dev.tapList ch.val 0 0, w.map SampleWord.z)] → e = (satS 16 (x.z.1 - y.1), satS 16 (x.z.2 - y.2)) →
        ∃ u, exec (.cancUpdate ch) s = .next (State.finish s.dev u) ∧
          mat 0 (u.dev.canceller ch.val).nupd 0 = mat 0 (s.dev.canceller ch.val).nupd 0 + 1 ∧
          mat 0 (u.dev.canceller ch.val).psum 0 = mat 0 (s.dev.canceller ch.val).psum 0 + p ∧
          (∀ t v, w[t]? = some v → mat (0, 0) (u.dev.canceller ch.val).taps (tapKey 0 0 t) =
            (satS 32 (Config.nlmsTap (s.dev.muShift ch.val) (mat (0, 0) (s.dev.canceller ch.val).taps (tapKey 0 0 t)) e v.z p).1,
              satS 32 (Config.nlmsTap (s.dev.muShift ch.val) (mat (0, 0) (s.dev.canceller ch.val).taps (tapKey 0 0 t)) e v.z p).2)) ∧
          (∀ n, n ≠ ch.val → u.dev.canceller n = s.dev.canceller n) ∧ u.dev.regsBut s.dev [] ∧ u.onlyDev s) ∧
      (s.dev.hasCanc ch.val = false → exec (.cancUpdate ch) s = .next (State.finish s.dev s))) ∧
    (∀ (ch : Fin 192) (j : Fin 4), s.dev.flag (pCh ch.val) R.CH_DEF_SRC_LOCAL = true → j.val < s.dev.chRank ch.val →
      ((s.dev.strm ch.val j.val).waiting = 0 → exec (.gainStageTake ch j) s = .next (State.finish s.dev s)) ∧
      ((s.dev.strm ch.val j.val).waiting ≠ 0 →
        ∃ u, exec (.gainStageTake ch j) s = .next (State.finish s.dev u) ∧
          (u.dev.strm ch.val j.val).taken = (s.dev.strm ch.val j.val).taken + 1 ∧
          (u.dev.strm ch.val j.val).waiting = (s.dev.strm ch.val j.val).waiting - 1 ∧ u.dev.frame = s.dev.frame ∧ u.onlyDev s)) ∧
    (∀ ch : Fin 192, s.dev.ulgOn ch.val = true → (s.dev.gainSt ch.val).ulRelay = true →
      ∃ u, exec (.ulgHangExpiry ch) s = .next (State.finish s.dev u) ∧ (u.dev.gainSt ch.val).ulRelay = false ∧
        u.dev.flag pProt (R.PROT_CH_STAT_GATED ch.val) = true ∧
        u.dev.regsBut s.dev [pProt + (R.PROT_CH_STAT_GATED ch.val).off] ∧ u.onlyDev s) ∧
    (s.dev.energy.bad = true → ∃ u, exec .senseHoldExpiry s = .next (State.finish s.dev u) ∧ u.dev.energy.safe = true ∧
      u.dev.fld pDev R.DEV_EB_STAT_BAND = s.dev.fld pDev R.DEV_EB_CTL2_SAFE_BAND ∧
      u.dev.regsBut s.dev [pDev + R.DEV_EB_STAT_BAND.off] ∧ u.onlyDev s) ∧
    (∀ dac : Fin 8, ∃ u, exec (.portPowerUpdate dac) s = .next (State.finish s.dev u) ∧
      u.dev.sfld (pDac dac.val) R.DAC_PP_STAT_TRIM ≤ 0 ∧ mat (0, 0) u.dev.portSum (8 + dac.val) = (0, 0) ∧
      (∀ k, k ≠ 8 + dac.val → mat (0, 0) u.dev.portSum k = mat (0, 0) s.dev.portSum k) ∧ u.onlyDev s) ∧
    ∀ ch : Fin 192, s.dev.resets.contains (pCh ch.val) = false →
      (∃ u, exec (.ulHold ch) s = .next (State.finish s.dev u) ∧
        (u.dev.gainSt ch.val).holdReq = ((s.dev.gainSt ch.val).holdReq || !s.dev.flag (pCh ch.val) R.CH_GL_STAT_HELD) ∧
        (u.dev.gainSt ch.val).relReq = (s.dev.gainSt ch.val).relReq ∧ u.dev.regsBut s.dev [] ∧ u.onlyDev s) ∧
      ∃ u, exec (.ulRelease ch) s = .next (State.finish s.dev u) ∧
        (u.dev.gainSt ch.val).relReq = ((s.dev.gainSt ch.val).relReq || s.dev.flag (pCh ch.val) R.CH_GL_STAT_HELD) ∧
        (u.dev.gainSt ch.val).holdReq = (s.dev.gainSt ch.val).holdReq ∧ u.dev.regsBut s.dev [] ∧ u.onlyDev s

/-- The gain formed for a sample (R150, R151): a lower composition applies in full, and a higher one raises the gain by at most 0.25 dB;
what is applied never passes the composition less the fast attenuation, and stands within the range of its register. -/
def Obligations.GainMovesInSteps : Prop :=
  ∀ (d : Dev) (n : Nat),
    ((d.formGain n).gainSt n).applied ≤ max ((d.composition n).1 - d.aFast n) (-32768) ∧
      ((d.formGain n).gainSt n).applied ≤ (d.gainSt n).applied + 64 ∧
      ((d.gainSt n).ramp = none → max ((d.composition n).1 - d.aFast n) (-32768) ≤ (d.gainSt n).applied →
        ((d.formGain n).gainSt n).applied = max ((d.composition n).1 - d.aFast n) (-32768)) ∧
      (0 ≤ d.aFast n → ((d.formGain n).gainSt n).applied ≤ d.sfld (pCh n) R.CH_STAB_STAT_CAP) ∧
      (d.formGain n).regsBut d ([R.CH_GL_GAIN_APPLIED, R.CH_GL_STAT_LIMIT, R.CH_GL_STAT_FAST, R.CH_STAB_STAT_HEAD].map fun F => pCh n + F.off)

/-! ### Loop engines (R127, R130, R134, R136, R139 to R145) -/

/-- Control of an engine. VERIFY begins a verification, refused with code 2 while a swap is armed; one that ends without a finding makes
the shadow valid, one with a finding does not and shows its code; RESTART asks an idle engine with an image to start; INVALIDATE clears
SHADOW_VALID; an idle engine that was asked starts its active image from bundle 0. -/
def Sys2Proof.EngineControl : Prop :=
  ∀ (s : State) (e : Fin 96), s.dev.reachable = true →
    (s.dev.resets.contains (pEng e.val) = false →
      ((s.dev.engine e.val).swapArmed = false →
        ∃ u, exec (.verify e) s = .next (State.finish s.dev u) ∧ (u.dev.engine e.val).verifying = true ∧ u.dev.regsBut s.dev [] ∧
          u.onlyDev s) ∧
      ((s.dev.engine e.val).swapArmed = true →
        ∃ u, exec (.verify e) s = .next (State.finish s.dev u) ∧ u.dev.fld (pEng e.val) R.ENG_STAT_LAST_REFUSE = 2 ∧
          u.onlyRegs s [pEng e.val + R.ENG_STAT_LAST_REFUSE.off]) ∧
      (s.dev.engState e.val = 0 → Image.some (s.dev.active e.val) = true →
        ∃ u, exec (.engineRestart e) s = .next (State.finish s.dev u) ∧ (u.dev.engine e.val).startReq = true ∧ u.dev.regsBut s.dev [] ∧
          u.onlyDev s) ∧
      ∃ u, exec (.invalidate e) s = .next (State.finish s.dev u) ∧ u.dev.flag (pEng e.val) R.ENG_STAT_SHADOW_VALID = false ∧
        u.onlyRegs s [pEng e.val + R.ENG_STAT_SHADOW_VALID.off]) ∧
    ((s.dev.engine e.val).verifying = true → s.dev.injArmed (pEng e.val) 3 = false →
      ∃ u, exec (.verifyDone e) s = .next (State.finish s.dev u) ∧ (u.dev.engine e.val).verifying = false ∧
        u.dev.flag (pEng e.val) R.ENG_STAT_SHADOW_VALID = (s.dev.verifyCode e.val == 0) ∧
        u.dev.fld (pEng e.val) R.ENG_STAT_LAST_REFUSE =
          (if s.dev.verifyCode e.val = 0 then s.dev.fld (pEng e.val) R.ENG_STAT_LAST_REFUSE else s.dev.verifyCode e.val) ∧
        u.dev.flag (pEng e.val) (R.PG_EVT_EVT.bit 0) = true ∧
        u.dev.regsBut s.dev [pEng e.val + R.ENG_STAT_SHADOW_VALID.off, pEng e.val + R.PG_EVT_EVT.off] ∧ u.onlyDev s) ∧
    (s.dev.engClock = true → s.dev.engState e.val = 0 → (s.dev.engine e.val).startReq = true →
      ∃ u, exec (.engineStart e) s = .next (State.finish s.dev u) ∧ u.dev.engState e.val = 1 ∧ (u.dev.engine e.val).pc = 0 ∧
        (u.dev.engine e.val).startReq = false ∧ (u.dev.engine e.val).issues = 0 ∧ (u.dev.engine e.val).muted = false ∧
        (∀ f, f ≠ e.val → u.dev.engine f = s.dev.engine f) ∧ u.onlyDev s)

/-- An armed swap (R143, R145) is taken at the end of a period or by an idle engine: the bank that was the shadow is active and runs from
bundle 0, and the swap is counted; in the middle of a period nothing is taken. No other engine changes. -/
def Sys2Proof.SwapIsTaken : Prop :=
  ∀ (s : State) (e : Fin 96), s.dev.reachable = true → (s.dev.engine e.val).swapArmed = true →
    (s.dev.engState e.val = 0 ∨ (s.dev.engState e.val = 1 ∧ (s.dev.engine e.val).issues = 0) →
      s.dev.flag (pEng e.val) R.ENG_STAT_SHADOW_VALID = true →
      ∃ u, exec (.swapTake e) s = .next (State.finish s.dev u) ∧ u.dev.actBank e.val = !s.dev.actBank e.val ∧
        u.dev.active e.val = s.dev.shadowImg e.val ∧ u.dev.engState e.val = 1 ∧ (u.dev.engine e.val).pc = 0 ∧
        (u.dev.engine e.val).swapArmed = false ∧ u.dev.flag (pEng e.val) R.ENG_STAT_SWAP_ARMED = false ∧
        u.dev.flag (pEng e.val) R.ENG_STAT_SHADOW_VALID = Image.some (s.dev.active e.val) ∧
        u.dev.fld (pEng e.val) R.ENG_CNT_B_SWAP = min (s.dev.fld (pEng e.val) R.ENG_CNT_B_SWAP + 1) (2 ^ R.ENG_CNT_B_SWAP.w - 1) ∧
        (∀ f, f ≠ e.val → u.dev.engine f = s.dev.engine f) ∧ u.onlyDev s) ∧
    (s.dev.engState e.val = 1 → (s.dev.engine e.val).issues ≠ 0 → exec (.swapTake e) s = .next (State.finish s.dev s))

/-- Engines are verified, restarted, invalidated, started and swapped. -/
def Obligations.EnginesAreControlled : Prop := EngineControl ∧ SwapIsTaken

/-- A bundle (R130, R140): a running engine issues the bundle at its program counter; with a false predicate its slots do nothing while the
sequencer goes on; at END the period's signature is compared, and another one than the image gives is a fatal schedule fault that puts
the engine on its safe tail. A tail that has issued 1,024 bundles halts (R141). Engines in no powered bench do nothing. -/
def Obligations.BundleIssues : Prop :=
  ∀ (s : State) (e : Fin 96) (b pc crc : Nat), s.dev.reachable = true →
    (s.dev.engClock = false → exec (.bundleIssue e) s = .next (State.finish s.dev s)) ∧
    (s.dev.engClock = true → s.dev.engState e.val = 1 → pc = (s.dev.engine e.val).pc → b = Image.bundle (s.dev.active e.val) pc →
      crc = crc32cByte (crc32cByte (s.dev.engine e.val).crc (pc % 256)) (pc / 256 % 256) →
      (s.dev.engine e.val).pred (s.dev.active e.val) (bitsOf b 239 232) = false →
      (bitsOf b 255 252 ≠ 4 → bitsOf b 255 252 ≠ 5 →
        ∃ u, exec (.bundleIssue e) s = .next (State.finish s.dev u) ∧
          u.dev.engine e.val = { s.dev.engine e.val with
            pc := (nextIssue (bitsOf b 255 252) (bitsOf b 251 240) pc (s.dev.engine e.val).rep (s.dev.engine e.val).loops).1,
            rep := (nextIssue (bitsOf b 255 252) (bitsOf b 251 240) pc (s.dev.engine e.val).rep (s.dev.engine e.val).loops).2.1,
            loops := (nextIssue (bitsOf b 255 252) (bitsOf b 251 240) pc (s.dev.engine e.val).rep (s.dev.engine e.val).loops).2.2,
            issues := (s.dev.engine e.val).issues + 1, crc := crc, tailIssues := 0 } ∧
          u.dev.regsBut s.dev [] ∧ u.dev.bench = s.dev.bench ∧ u.dev.applies = s.dev.applies ∧ u.onlyDev s) ∧
      (bitsOf b 255 252 = 4 → s.dev.injArmed (pEng e.val) 2 = false →
        ∃ u, exec (.bundleIssue e) s = .next (State.finish s.dev u) ∧
          u.dev.fld (pEng e.val) R.ENG_SIG_LAST_SIG = (crc ^^^ 0xFFFFFFFF) % 2 ^ 32 ∧ (u.dev.engine e.val).issues = 0 ∧
          (crc ^^^ 0xFFFFFFFF ≠ Image.sig (s.dev.active e.val) → u.dev.engState e.val = 2 ∧
            u.dev.fld (pEng e.val) R.ENG_STAT_TRAP_CAUSE = 1 ∧ (u.dev.engine e.val).pc = Image.tail (s.dev.active e.val) ∧
            ∃ x ∈ u.dev.wires.faults, x.src = 22 + 8 * (e.val / 8) ∧ x.page = pEng e.val) ∧
          (crc ^^^ 0xFFFFFFFF = Image.sig (s.dev.active e.val) → (s.dev.engine e.val).issues + 1 = Image.cycles (s.dev.active e.val) →
            u.dev.engState e.val = 1 ∧ (u.dev.engine e.val).pc = 0) ∧ u.onlyDev s)) ∧
    (s.dev.engState e.val = 2 → 1024 ≤ (s.dev.engine e.val).tailIssues →
      ∃ u, exec (.tailIssueLimit e) s = .next (State.finish s.dev u) ∧ u.dev.engState e.val = 3 ∧
        u.dev.fld (pEng e.val) R.ENG_STAT_TRAP_CAUSE = 6 ∧ (u.dev.engine e.val).muted = true ∧
        (∃ x ∈ u.dev.wires.faults, x.src = 23 + 8 * (e.val / 8) ∧ x.page = pEng e.val) ∧ u.onlyDev s)

/-- Periods, blocks and deliveries (R127, R136, R139): a period start latches the counter, the period's index and FRAME_MARK; a block of
words completes in its stream once enough have come; the oldest APPLY reaches the gain request of its channel. -/
def Obligations.PeriodsAndBlocks : Prop :=
  ∀ s : State, s.dev.reachable = true →
    (∀ e : Fin 96, s.dev.engClock = true → s.dev.engState e.val = 1 →
      ∃ u, exec (.enginePeriodStart e) s = .next (State.finish s.dev u) ∧
        u.dev.fld (pEng e.val) R.ENG_PSTART_TICK = s.dev.frame.tick % 2 ^ 23 ∧
        u.dev.fld (pEng e.val) R.ENG_PIDX_IDX = s.dev.frame.tick / max 1 (Image.period (s.dev.active e.val)) % 2 ^ 17 ∧
        u.dev.flag (pEng e.val) R.ENG_STAT_FRAME_MARK = (s.dev.engine e.val).boundary ∧ (u.dev.engine e.val).boundary = false ∧
        (u.dev.engine e.val).periods = (s.dev.engine e.val).periods + 1 ∧ u.dev.now = s.dev.now ∧ u.onlyDev s) ∧
    (∀ (ch : Fin 192) (j : Fin 4),
      ((s.dev.strm ch.val j.val).cur.length < s.dev.blockLen ch.val →
        exec (.streamBlockComplete ch j) s = .next (State.finish s.dev s)) ∧
      (s.dev.blockLen ch.val ≤ (s.dev.strm ch.val j.val).cur.length →
        ∃ u, exec (.streamBlockComplete ch j) s = .next (State.finish s.dev u) ∧
          (u.dev.strm ch.val j.val).last = (s.dev.strm ch.val j.val).cur.take (s.dev.blockLen ch.val) ∧
          (u.dev.strm ch.val j.val).cur = (s.dev.strm ch.val j.val).cur.drop (s.dev.blockLen ch.val) ∧
          (u.dev.strm ch.val j.val).num = (s.dev.strm ch.val j.val).num + 1 ∧ (u.dev.strm ch.val j.val).unread = true ∧
          (∀ n k, streamKey n k ≠ streamKey ch.val j.val → u.dev.strm n k = s.dev.strm n k) ∧ u.onlyDev s)) ∧
    (s.dev.applies = [] → exec .applyDelivery s = .next (State.finish s.dev s)) ∧
    ∀ (a : ApplyMsg) (rest : List ApplyMsg), s.dev.applies = a :: rest → a.chan < 192 → a.ctl = 0 →
      ∃ u, exec .applyDelivery s = .next (State.finish s.dev u) ∧ u.dev.applies = rest ∧
        u.dev.sfld (pCh a.chan) R.CH_GL_GAIN_REQ = q16to8 (satTo (2 ^ 31 - 1) (shiftRound a.mant (-a.exp))).1 ∧
        u.dev.regsBut s.dev [pCh a.chan + R.CH_GL_GAIN_REQ.off] ∧ u.onlyDev s

/-! ### Network protection (R175 to R185) -/

/-- A verdict trips (R176, R178, R179, R182): once the emission estimate has stayed below the mask for OOBE_WIN windows the channel is muted
with cause 6, its trip count goes up and its back-off runs 1, 10 or 100 s; the fourth trip latches it. A window in which the estimate
meets the mask ends the run. -/
def Sys2Proof.EmissionTrips : Prop :=
  ∀ (s : State) (ch : Fin 192) (est : BitVec 16), s.dev.reachable = true → s.dev.chOn ch.val = true →
    s.dev.fld (pCh ch.val) R.CH_DEF_OUT_MASK ≠ 0 → s.dev.muted ch.val = false →
    s.dev.sfld (pCh ch.val) R.CH_GL_LVL_PMAX - 30 * 256 ≤ s.dev.sfld (pCh ch.val) R.CH_GL_PWR_POUT →
    s.dev.flag pProt R.PROT_CTL_OOBE_EN = true →
    ((s.dev.fld pProt R.PROT_THR_A_OOBE_MASK * 256 : Nat) ≤ est.toInt →
      ∃ u, exec (.oobeWindowEnd ch est) s = .next (State.finish s.dev u) ∧ (u.dev.gainSt ch.val).oobeRun = 0 ∧ u.dev.prot = s.dev.prot ∧
        u.dev.regsBut s.dev [pProt + R.PROT_OOBE_WORST_DL.off] ∧ u.onlyDev s) ∧
    (est.toInt < (s.dev.fld pProt R.PROT_THR_A_OOBE_MASK * 256 : Nat) →
      s.dev.fld pProt R.PROT_THR_B_OOBE_WIN ≤ (s.dev.gainSt ch.val).oobeRun + 1 →
      ∃ u, exec (.oobeWindowEnd ch est) s = .next (State.finish s.dev u) ∧ u.dev.muted ch.val = true ∧
        u.dev.flag pProt (R.PROT_CH_STAT_MUTED ch.val) = true ∧ u.dev.fld pProt (R.PROT_CH_STAT_CAUSE ch.val) = 6 ∧
        u.dev.flag pProt (R.PROT_VERDICT_TRIPPED.bit 5) = true ∧ u.dev.flag (pCh ch.val) (R.PG_EVT_EVT.bit 3) = true ∧
        u.dev.fld pProt R.PROT_CNT_A_CH_TRIPS = min (s.dev.fld pProt R.PROT_CNT_A_CH_TRIPS + 1) (2 ^ R.PROT_CNT_A_CH_TRIPS.w - 1) ∧
        (s.dev.fld pProt (R.PROT_CH_STAT_ATTEMPT ch.val) ≠ 3 →
          u.dev.fld pProt (R.PROT_CH_STAT_ATTEMPT ch.val) = s.dev.fld pProt (R.PROT_CH_STAT_ATTEMPT ch.val) + 1 ∧
          mat 0 u.dev.prot.boEnd ch.val =
            s.dev.frame.clk + waitSeconds (s.dev.fld pProt (R.PROT_CH_STAT_ATTEMPT ch.val)) * secondClk) ∧
        (s.dev.fld pProt (R.PROT_CH_STAT_ATTEMPT ch.val) = 3 → u.dev.flag pProt (R.PROT_CH_STAT_LATCHED ch.val) = true) ∧ u.onlyDev s)

/-- What ends a mute (R182, R183, R185): the back-off of a channel that is not latched unmutes it, its gain starting from CH_STAB_FLOOR, and
a latched scope stays; a clean scope's trip count returns to 0; a clock verdict ends once its synthesiser is locked. -/
def Sys2Proof.MutesEnd : Prop :=
  ∀ s : State, s.dev.reachable = true →
    (∀ ch : Fin 192, s.dev.flag pProt (R.PROT_CH_STAT_MUTED ch.val) = true →
      (s.dev.flag pProt (R.PROT_CH_STAT_LATCHED ch.val) = false →
        ∃ u, exec (.backoffExpiry (.channel ch)) s = .next (State.finish s.dev u) ∧ u.dev.chOff ch.val = false ∧
          mat 0 u.dev.prot.boEnd ch.val = 0 ∧
          (u.dev.muted ch.val = false → (u.dev.gainSt ch.val).ramp = some (s.dev.sfld (pCh ch.val) R.CH_STAB_FLOOR_FLOOR)) ∧
          u.dev.regsBut s.dev [pProt + (R.PROT_CH_STAT_MUTED ch.val).off, pCh ch.val + R.CH_CANC_STAT_REGION.off] ∧ u.onlyDev s) ∧
      (s.dev.flag pProt (R.PROT_CH_STAT_LATCHED ch.val) = true →
        exec (.backoffExpiry (.channel ch)) s = .next (State.finish s.dev s))) ∧
    (s.dev.flag pProt R.PROT_DIR_DL_LATCH = false → s.dev.prot.dlCauses = [10] →
      ∃ u, exec (.backoffExpiry .downlink) s = .next (State.finish s.dev u) ∧ u.dev.dirOff false = false ∧ u.dev.prot.dlCauses = [] ∧
        mat 0 u.dev.prot.boEnd 192 = 0 ∧ u.onlyDev s) ∧
    (s.dev.flag pProt R.PROT_DIR_UL_LATCH = false → s.dev.prot.ulCauses = [10] →
      ∃ u, exec (.backoffExpiry .uplink) s = .next (State.finish s.dev u) ∧ u.dev.dirOff true = false ∧ u.dev.prot.ulCauses = [] ∧
        mat 0 u.dev.prot.boEnd 193 = 0 ∧ u.onlyDev s) ∧
    (s.dev.flag pProt R.PROT_DIR_RF_LATCH = false → s.dev.prot.devCauses = [10] →
      ∃ u, exec (.backoffExpiry .device) s = .next (State.finish s.dev u) ∧ u.dev.rfOff = false ∧ u.dev.prot.devCauses = [] ∧
        mat 0 u.dev.prot.boEnd 194 = 0 ∧ u.onlyDev s) ∧
    (∀ ch : Fin 192, s.dev.muted ch.val = false →
      ∃ u, exec (.attemptReset (.channel ch)) s = .next (State.finish s.dev u) ∧ u.dev.fld pProt (R.PROT_CH_STAT_ATTEMPT ch.val) = 0 ∧
        u.onlyRegs s [pProt + (R.PROT_CH_STAT_ATTEMPT ch.val).off]) ∧
    (s.dev.rfOff = false → ∃ u, exec (.attemptReset .device) s = .next (State.finish s.dev u) ∧
      u.dev.fld pProt R.PROT_DIR_DEV_ATTEMPT = 0 ∧ u.onlyRegs s [pProt + R.PROT_DIR_DEV_ATTEMPT.off]) ∧
    (s.dev.flag (pSyn 0) R.SYN_STAT_LOCK = true →
      ∃ u, exec (.clkVerdictEnd 0) s = .next (State.finish s.dev u) ∧ 8 ∉ u.dev.prot.dlCauses ∧ 8 ∉ u.dev.prot.ulCauses ∧
        u.dev.prot.devCauses = s.dev.prot.devCauses ∧ u.onlyDev s) ∧
    (s.dev.flag (pSyn 1) R.SYN_STAT_LOCK = true →
      ∃ u, exec (.clkVerdictEnd 1) s = .next (State.finish s.dev u) ∧ u.dev.prot.devCauses = s.dev.prot.devCauses.filter (· ≠ 9) ∧
        u.dev.prot.dlCauses = s.dev.prot.dlCauses ∧ u.dev.prot.ulCauses = s.dev.prot.ulCauses ∧ u.onlyDev s)

/-- PROT_CLR (R184) releases the latched scope it names, with its trip count at 0, and no other: a channel that is not latched, or a number
that is none, is unaffected. -/
def Sys2Proof.LatchesRelease : Prop :=
  ∀ s : State, s.dev.reachable = true → s.dev.resets.contains pProt = false →
    (∀ (ch : BitVec 8) (n : Nat), n = ch.toNat → n < 192 → s.dev.flag pProt (R.PROT_CH_STAT_LATCHED n) = true →
      ∃ u, exec (.protClrChannel ch) s = .next (State.finish s.dev u) ∧ u.dev.flag pProt (R.PROT_CH_STAT_LATCHED n) = false ∧
        u.dev.flag pProt (R.PROT_CH_STAT_MUTED n) = false ∧ u.dev.fld pProt (R.PROT_CH_STAT_ATTEMPT n) = 0 ∧
        u.dev.regsBut s.dev [pProt + (R.PROT_CH_STAT_LATCHED n).off, pCh n + R.CH_CANC_STAT_REGION.off] ∧ u.onlyDev s) ∧
    (∀ ch : BitVec 8, 192 ≤ ch.toNat ∨ s.dev.flag pProt (R.PROT_CH_STAT_LATCHED ch.toNat) = false →
      ∃ u, exec (.protClrChannel ch) s = .next (State.finish s.dev u) ∧ u.onlyRegs s []) ∧
    (∃ u, exec .protClrAllChannels s = .next (State.finish s.dev u) ∧
      (∀ n, n < 192 → u.dev.flag pProt (R.PROT_CH_STAT_LATCHED n) = false ∧
        (s.dev.flag pProt (R.PROT_CH_STAT_LATCHED n) = false →
          u.dev.fld pProt (R.PROT_CH_STAT_ATTEMPT n) = s.dev.fld pProt (R.PROT_CH_STAT_ATTEMPT n))) ∧ u.onlyDev s) ∧
    (∃ u, exec .protClrDownlink s = .next (State.finish s.dev u) ∧ u.dev.flag pProt R.PROT_DIR_DL_LATCH = false ∧
      (s.dev.flag pProt R.PROT_DIR_DL_LATCH = true → u.dev.fld pProt R.PROT_DIR_DL_ATTEMPT = 0 ∧ 10 ∉ u.dev.prot.dlCauses) ∧
      u.dev.prot.ulCauses = s.dev.prot.ulCauses ∧ u.dev.prot.devCauses = s.dev.prot.devCauses ∧ u.onlyDev s) ∧
    (∃ u, exec .protClrUplink s = .next (State.finish s.dev u) ∧ u.dev.flag pProt R.PROT_DIR_UL_LATCH = false ∧
      (s.dev.flag pProt R.PROT_DIR_UL_LATCH = true → u.dev.fld pProt R.PROT_DIR_UL_ATTEMPT = 0 ∧ 10 ∉ u.dev.prot.ulCauses) ∧
      u.dev.prot.dlCauses = s.dev.prot.dlCauses ∧ u.dev.prot.devCauses = s.dev.prot.devCauses ∧ u.onlyDev s) ∧
    ∃ u, exec .protClrDevice s = .next (State.finish s.dev u) ∧ u.dev.flag pProt R.PROT_DIR_RF_LATCH = false ∧
      (s.dev.flag pProt R.PROT_DIR_RF_LATCH = true → u.dev.fld pProt R.PROT_DIR_DEV_ATTEMPT = 0 ∧ 10 ∉ u.dev.prot.devCauses) ∧
      u.dev.prot.dlCauses = s.dev.prot.dlCauses ∧ u.dev.prot.ulCauses = s.dev.prot.ulCauses ∧ u.onlyDev s

/-- Protection trips, waits, and is released. -/
def Obligations.ProtectionLadder : Prop := EmissionTrips ∧ MutesEnd ∧ LatchesRelease

/-! ### Synthesisers, converters and calibration (R195 to R217) -/

/-- Synthesisers (R195, R199 to R201, R214): RECAL begins a calibration of an idle one, and is refused and counted while a group it serves
relays; lock ends a calibration, failure shows FAILED and source 122 stands; an unlock unasked mutes both directions (CS-A) or turns the
device RF off (CS-B), and waits for a relock by itself, after which a calibration runs, repeated as long as it fails. -/
def Sys2Proof.SynthesiserEvents : Prop :=
  ∀ (s : State) (y : Fin 2), s.dev.reachable = true →
    (s.dev.resets.contains (pSyn y.val) = false → s.dev.flag (pSyn y.val) R.SYN_STAT_CAL_BUSY = false →
      (s.dev.synRelays y.val = false →
        ∃ u, exec (.synRecal y) s = .next (State.finish s.dev u) ∧ u.dev.flag (pSyn y.val) R.SYN_STAT_CAL_BUSY = true ∧
          u.dev.flag (pSyn y.val) R.SYN_STAT_LOCK = false ∧ (u.dev.synSt y.val).cause = 1 ∧ u.onlyDev s) ∧
      (s.dev.synRelays y.val = true →
        ∃ u, exec (.synRecal y) s = .next (State.finish s.dev u) ∧ u.dev.syn = s.dev.syn ∧
          u.dev.fld (pSyn y.val) R.SYN_CNT_REFUSED = min (s.dev.fld (pSyn y.val) R.SYN_CNT_REFUSED + 1) (2 ^ R.SYN_CNT_REFUSED.w - 1) ∧
          u.dev.flag (pSyn y.val) R.SYN_STAT_LOCK = s.dev.flag (pSyn y.val) R.SYN_STAT_LOCK ∧ u.onlyDev s)) ∧
    (∀ (band : BitVec 6) (cp : BitVec 8) (us : BitVec 16),
      (s.dev.flag (pSyn y.val) R.SYN_STAT_CAL_BUSY = true →
        (∃ u, exec (.synLock y band cp us) s = .next (State.finish s.dev u) ∧ u.dev.flag (pSyn y.val) R.SYN_STAT_LOCK = true ∧
          u.dev.flag (pSyn y.val) R.SYN_STAT_CAL_BUSY = false ∧ u.dev.flag (pSyn y.val) R.SYN_STAT_FAILED = false ∧
          u.dev.fld (pSyn y.val) R.SYN_STAT_BAND = band.toNat ∧ u.dev.fld (pSyn y.val) R.SYN_STAT_CP = cp.toNat ∧
          u.dev.fld (pSyn y.val) R.SYN_LOCK_T_US = us.toNat ∧ (122, pSyn y.val) ∉ u.dev.fault.standing ∧ u.onlyDev s) ∧
        ((s.dev.synSt y.val).cause = 3 →
          ∃ u, exec (.synCalFail y band cp us) s = .next (State.finish s.dev u) ∧ u.dev.flag (pSyn y.val) R.SYN_STAT_FAILED = true ∧
            u.dev.flag (pSyn y.val) R.SYN_STAT_CAL_BUSY = false ∧ (122, pSyn y.val) ∈ u.dev.fault.standing ∧
            (u.dev.synSt y.val).retryWait = true ∧ u.onlyDev s)) ∧
      (s.dev.flag (pSyn y.val) R.SYN_STAT_CAL_BUSY = false →
        exec (.synLock y band cp us) s = .next (State.finish s.dev s) ∧ exec (.synCalFail y band cp us) s = .next (State.finish s.dev s))) ∧
    (s.dev.flag (pSyn y.val) R.SYN_STAT_LOCK = true →
      ∃ u, exec (.synUnlock y) s = .next (State.finish s.dev u) ∧ u.dev.flag (pSyn y.val) R.SYN_STAT_LOCK = false ∧
        u.dev.fld (pSyn y.val) R.SYN_CNT_UNLOCK = min (s.dev.fld (pSyn y.val) R.SYN_CNT_UNLOCK + 1) (2 ^ R.SYN_CNT_UNLOCK.w - 1) ∧
        (u.dev.synSt y.val).relockWait = true ∧ (y.val = 0 → u.dev.dirOff false = true ∨ 8 ∈ s.dev.prot.dlCauses) ∧
        (y.val = 1 → u.dev.rfOff = true ∧ u.dev.front.gates &&& 0xFF = 0) ∧ u.onlyDev s) ∧
    ((s.dev.synSt y.val).relockWait = true →
      (∃ u, exec (.synSelfRelock y) s = .next (State.finish s.dev u) ∧ u.dev.flag (pSyn y.val) R.SYN_STAT_LOCK = true ∧
        (u.dev.synSt y.val).relockWait = false ∧ u.onlyDev s) ∧
      ∃ u, exec (.synRelockWaitExpiry y) s = .next (State.finish s.dev u) ∧ u.dev.flag (pSyn y.val) R.SYN_STAT_CAL_BUSY = true ∧
        (u.dev.synSt y.val).cause = 3 ∧ (u.dev.synSt y.val).relockWait = false ∧ u.onlyDev s) ∧
    ((s.dev.synSt y.val).retryWait = true →
      ∃ u, exec (.synRecalRetry y) s = .next (State.finish s.dev u) ∧ u.dev.flag (pSyn y.val) R.SYN_STAT_CAL_BUSY = true ∧
        (u.dev.synSt y.val).cause = 3 ∧ (u.dev.synSt y.val).retryWait = false ∧ u.onlyDev s)

/-- Rotation (R203 to R206, Table 09-4): a step begins while rotation runs; at its end the calibrated spare takes position ROT, the slice that
stood there becomes the spare and ROT moves on; a spare whose residual is too large keeps its place and is counted; one that needs a
railed trim is retired, with no spare left and source 121 raised. -/
def Sys2Proof.SpareRotates : Prop :=
  ∀ (s : State) (a : Fin 8) (m : SpareMeas), s.dev.reachable = true →
    (s.dev.bgRuns a.val = true → ∃ u, exec (.rotationStep a) s = .next (State.finish s.dev u) ∧
      (u.dev.adcCal a.val).stepping = true ∧ u.dev.regsBut s.dev [] ∧ u.onlyDev s) ∧
    (s.dev.bgRuns a.val = true → (s.dev.adcCal a.val).stepping = true → (s.dev.adcCal a.val).replace = none → m.quiet = false →
      (railed [m.offset, m.gain, m.skew] = false → m.rOffset ≤ 1 → m.rGain ≤ 2 → m.rSkew ≤ 4 →
        ∃ u, exec (.spareHandover a m) s = .next (State.finish s.dev u) ∧
          u.dev.sliceAt a.val (s.dev.fld (pAdc a.val) R.ADC_STAT_ROT) = s.dev.fld (pAdc a.val) R.ADC_STAT_SPARE ∧
          u.dev.fld (pAdc a.val) R.ADC_STAT_SPARE = s.dev.sliceAt a.val (s.dev.fld (pAdc a.val) R.ADC_STAT_ROT) ∧
          u.dev.fld (pAdc a.val) R.ADC_STAT_ROT = (s.dev.fld (pAdc a.val) R.ADC_STAT_ROT + 1) % 16 ∧
          u.dev.fld (pAdc a.val) R.ADC_CNT_HANDOVER = min (s.dev.fld (pAdc a.val) R.ADC_CNT_HANDOVER + 1) (2 ^ R.ADC_CNT_HANDOVER.w - 1) ∧
          (u.dev.adcCal a.val).stepping = false ∧ u.onlyDev s) ∧
      (railed [m.offset, m.gain, m.skew] = false → 1 < m.rOffset →
        ∃ u, exec (.spareHandover a m) s = .next (State.finish s.dev u) ∧
          u.dev.fld (pAdc a.val) R.ADC_CNT_NOHAND = min (s.dev.fld (pAdc a.val) R.ADC_CNT_NOHAND + 1) (2 ^ R.ADC_CNT_NOHAND.w - 1) ∧
          u.dev.reg (pAdc a.val + R.ADC_STAT_SPARE.off) = s.dev.reg (pAdc a.val + R.ADC_STAT_SPARE.off) ∧
          (u.dev.adcCal a.val).stepping = false ∧ u.onlyDev s) ∧
      (railed [m.offset, m.gain, m.skew] = true →
        ∃ u, exec (.spareHandover a m) s = .next (State.finish s.dev u) ∧ u.dev.flag (pAdc a.val) R.ADC_STAT_NO_SPARE = true ∧
          u.dev.fld (pAdc a.val) R.ADC_CNT2_RETIRED = min (s.dev.fld (pAdc a.val) R.ADC_CNT2_RETIRED + 1) (2 ^ R.ADC_CNT2_RETIRED.w - 1) ∧
          s.dev.fld (pAdc a.val) R.ADC_STAT_SPARE ∈ (u.dev.adcCal a.val).retired ∧
          (∃ x ∈ u.dev.wires.faults, x.src = 121 ∧ x.page = pAdc a.val) ∧ u.onlyDev s)) ∧
    ((s.dev.adcCal a.val).replace = none → (s.dev.adcCal a.val).stepping = false →
      exec (.spareHandover a m) s = .next (State.finish s.dev s))

/-- Synthesisers, and the rotation of converter slices. -/
def Obligations.SynthesisersAndRotation : Prop := SynthesiserEvents ∧ SpareRotates

/-- Calibration (R209, R214 to R216, Tables 09-7 to 09-9): START, LOAD and LEVEL begin a run of their own, or are refused with the first
condition that holds; ABORT asks a run to stop at its next stopping point, where it fails; a START run waits for both locks before its
first measurement; a level check ends in DONE. FREEZE_SETS makes the signature form anew, and the set window is open only to frozen
sets with no run in progress, a write to it making the signature stale. -/
def Obligations.CalibrationRuns : Prop :=
  ∀ s : State, s.dev.reachable = true → s.dev.resets.contains pCal = false →
    (s.dev.calRefuse 1 = 0 → ∃ u, exec .calStart s = .next (State.finish s.dev u) ∧ u.dev.fld pCal R.CAL_STAT_STATE = 1 ∧
      u.dev.cal.kind = 1 ∧ u.dev.cal.step = 1 ∧ u.dev.cal.mask = s.dev.calMask ∧ u.dev.flag (pSyn 0) R.SYN_STAT_CAL_BUSY = true ∧
      u.dev.flag (pSyn 1) R.SYN_STAT_CAL_BUSY = true ∧ u.onlyDev s) ∧
    (s.dev.calRefuse 1 ≠ 0 → ∃ u, exec .calStart s = .next (State.finish s.dev u) ∧ u.dev.fld pCal R.CAL_STAT_REFUSE = s.dev.calRefuse 1 ∧
      u.dev.cal = s.dev.cal ∧ u.dev.syn = s.dev.syn ∧ u.onlyDev s) ∧
    (s.dev.calRefuse 2 = 0 → ∃ u, exec .calLoad s = .next (State.finish s.dev u) ∧ u.dev.fld pCal R.CAL_STAT_STATE = 2 ∧
      u.dev.cal.kind = 2 ∧ u.dev.cal.step = 1 ∧ u.dev.cal.mask = s.dev.calMask ∧ u.dev.syn = s.dev.syn ∧ u.onlyDev s) ∧
    (s.dev.calRefuse 3 = 0 → ∃ u, exec .calLevel s = .next (State.finish s.dev u) ∧ u.dev.fld pCal R.CAL_STAT_STATE = 3 ∧
      u.dev.cal.kind = 3 ∧ u.dev.syn = s.dev.syn ∧ u.onlyDev s) ∧
    (s.dev.cal.kind = 1 → s.dev.cal.step ≠ 5 → ∃ u, exec .calAbort s = .next (State.finish s.dev u) ∧
      u.dev.cal = { s.dev.cal with abort := true } ∧ u.onlyDev s) ∧
    (∀ m : CalMeas,
      (s.dev.cal.kind = 1 ∨ s.dev.cal.kind = 2 → s.dev.cal.abort = true →
        ∃ u, exec (.calStepEnd m) s = .next (State.finish s.dev u) ∧ u.dev.cal.kind = 0 ∧ u.dev.fld pCal R.CAL_STAT_STATE = 5 ∧
          u.dev.flag pCal (R.PG_EVT_EVT.bit 1) = true ∧ u.dev.regsBut s.dev [pCal + R.CAL_STAT_STATE.off, pCal + R.PG_EVT_EVT.off] ∧
          u.onlyDev s) ∧
      (s.dev.cal.kind = 1 → s.dev.cal.step = 1 → s.dev.cal.abort = false →
        (s.dev.bothLocked = true → ∃ u, exec (.calStepEnd m) s = .next (State.finish s.dev u) ∧
          u.dev.cal = { s.dev.cal with step := nextCal s.dev.cal.mask 1 } ∧ u.dev.regsBut s.dev [] ∧ u.onlyDev s) ∧
        (s.dev.bothLocked = false → exec (.calStepEnd m) s = .next (State.finish s.dev s)))) ∧
    (∀ ms : List LevelMeas, s.dev.cal.kind = 3 → ∃ u, exec (.levelCheckDone ms) s = .next (State.finish s.dev u) ∧
      u.dev.fld pCal R.CAL_STAT_STATE = 4 ∧ u.dev.cal.kind = 0 ∧ u.onlyDev s) ∧
    (∀ on : Bool, ∃ u, exec (.freezeSets on) s = .next (State.finish s.dev u) ∧ u.dev.flag pCal R.CAL_CTL_FREEZE_SETS = on ∧
      (s.dev.flag pCal R.CAL_CTL_FREEZE_SETS ≠ on → u.dev.flag pCal R.CAL_STAT_SIG_VALID = false) ∧
      u.dev.regsBut s.dev [pCal + R.CAL_CTL_FREEZE_SETS.off, pCal + R.CAL_STAT_SIG_VALID.off] ∧ u.onlyDev s) ∧
    (s.dev.flag pCal R.CAL_CTL_FREEZE_SETS = true → ∃ u, exec .calSigReady s = .next (State.finish s.dev u) ∧
      u.dev.fld pCal R.CAL_SIG_SIG = crc32c s.dev.calSigBytes % 2 ^ 32 ∧ u.dev.flag pCal R.CAL_STAT_SIG_VALID = true ∧
      u.onlyRegs s [pCal + R.CAL_SIG_SIG.off, pCal + R.CAL_STAT_SIG_VALID.off]) ∧
    ∀ (off : BitVec 13) (data : Word) (p : PageDef) (r : RegRow) (a : Nat), a = pCal + 0x1000 + off.toNat / 4 * 4 → pageDefAt a = some p →
      rowAt p (offOf p a) = some r → r.writable ≠ 0 →
      (s.dev.setsOpen = true → ∃ u, exec (.calSetWindowWrite off data) s = .next (State.finish s.dev u) ∧
        u.dev.reg a = (s.dev.reg a &&& ~~~ BitVec.ofNat 32 r.writable) ||| (data &&& BitVec.ofNat 32 r.writable) ∧
        u.dev.flag pCal R.CAL_STAT_SIG_VALID = false ∧ u.dev.regsBut s.dev [a, pCal + R.CAL_STAT_SIG_VALID.off] ∧ u.onlyDev s) ∧
      (s.dev.setsOpen = false → ∃ u, exec (.calSetWindowWrite off data) s = .next (State.finish s.dev u) ∧
        u.dev.fld pDev R.DEV_BAD_ACC_CNT_COUNT = min (s.dev.fld pDev R.DEV_BAD_ACC_CNT_COUNT + 1) (2 ^ R.DEV_BAD_ACC_CNT_COUNT.w - 1) ∧
        u.onlyRegs s [pDev + R.DEV_BAD_ACC_CNT_COUNT.off])

/-! ### The front end (R224 to R239, R427) -/

/-- Path groups (R225, R227, R229, R232 to R234, R427): a group takes one adjacent step at a time toward its goal, leaving RELAY with its gates
closed; a step into RELAY waits for its synthesiser's lock; a step whose sequence has run completes with its hardware; a sequence ends
behind its last step; a return that is due is taken from RELAY alone, by an automatic request, and is else skipped and counted; a waking
converter delivers. -/
def Obligations.PathSteps : Prop :=
  ∀ (s : State) (g : Fin 4), s.dev.reachable = true →
    (∀ t, (s.dev.grp g.val).stepTo = none → nextState (s.dev.grp g.val).pos (s.dev.grpGoal g.val) = some t →
      (t = 4 → s.dev.grpLocked g.val = true) → ((s.dev.grp g.val).pos = 6 → s.dev.calHolds g.val = false) →
      ∃ u, exec (.pathStepStart g) s = .next (State.finish s.dev u) ∧ u.dev.flag pFe (R.FE_PG_STAT_BUSY g.val) = true ∧
        u.dev.fld pFe (R.FE_PG_STAT_NEXT g.val) = t % 16 ∧ (u.dev.grp g.val).stepTo = some t ∧
        (u.dev.grp g.val).pos = (s.dev.grp g.val).pos ∧ u.dev.grpEff g.val = s.dev.grpEff g.val ∧
        ((s.dev.grp g.val).pos = 4 → u.dev.front.gates &&& groupGates g.val = 0) ∧ u.dev.frame = s.dev.frame ∧ u.onlyDev s) ∧
    ((s.dev.grp g.val).stepTo = none → nextState (s.dev.grp g.val).pos (s.dev.grpGoal g.val) = some 4 → s.dev.grpLocked g.val = false →
      ∃ u, exec (.pathStepStart g) s = .next (State.finish s.dev u) ∧ u.dev.flag pFe (R.FE_PG_STAT_LOCK_WAIT g.val) = true ∧
        u.onlyRegs s [pFe + (R.FE_PG_STAT_LOCK_WAIT g.val).off]) ∧
    (∀ t, (s.dev.grp g.val).stepTo = some t → (s.dev.grp g.val).seqDone = true → (s.dev.grp g.val).prot = 0 →
      ∃ u, exec (.pathStepComplete g) s = .next (State.finish s.dev u) ∧ (u.dev.grp g.val).pos = t ∧ (u.dev.grp g.val).stepTo = none ∧
        u.dev.flag pFe (R.FE_PG_STAT_BUSY g.val) = false ∧ u.dev.grpEff g.val = t % 16 ∧ u.dev.front.gates = s.dev.front.gates ∧
        u.dev.frame = s.dev.frame ∧ u.onlyDev s) ∧
    (∀ st, (s.dev.grp g.val).seqRun = some (st, 7) →
      (bitsOf (s.dev.seqStep g.val st 7) 63 60 ≠ 1 → (s.dev.grp g.val).hwDone = false →
        ∃ u, exec (.sequenceStepDone g) s = .next (State.finish s.dev u) ∧ (u.dev.grp g.val).seqRun = none ∧
          (u.dev.grp g.val).seqDone = true ∧ (u.dev.grp g.val).stepTo = (s.dev.grp g.val).stepTo ∧ u.dev.regsBut s.dev [] ∧ u.onlyDev s) ∧
      (bitsOf (s.dev.seqStep g.val st 7) 63 60 = 1 → exec (.sequenceStepDone g) s = .next (State.finish s.dev s))) ∧
    ((s.dev.grp g.val).retDue = true →
      (s.dev.grpEff g.val = 4 →
        ∃ u, exec (.autoReturn g) s = .next (State.finish s.dev u) ∧
          u.dev.grpReq g.val = 4 - s.dev.fld pFe (R.FE_PG_CTL_RET g.val) ∧ u.dev.flag pFe (R.FE_PG_STAT_AUTO g.val) = true ∧
          (u.dev.grp g.val).retDue = false ∧ u.dev.regsBut s.dev [pFe + (R.FE_PG_STAT_REQ g.val).off] ∧ u.onlyDev s) ∧
      (s.dev.grpEff g.val ≠ 4 →
        ∃ u, exec (.autoReturn g) s = .next (State.finish s.dev u) ∧ (u.dev.grp g.val).retDue = false ∧
          u.dev.fld pFe (R.FE_PG_CNT_RET_SKIP g.val) =
            min (s.dev.fld pFe (R.FE_PG_CNT_RET_SKIP g.val) + 1) (2 ^ (R.FE_PG_CNT_RET_SKIP g.val).w - 1) ∧
          u.dev.regsBut s.dev [pFe + (R.FE_PG_CNT_RET_SKIP g.val).off] ∧ u.onlyDev s)) ∧
    ∀ c : Fin 16, (s.dev.convSt c.val).waking = true →
      ∃ u, exec (.converterWakeDone c) s = .next (State.finish s.dev u) ∧ (u.dev.convSt c.val).runs = true ∧
        (u.dev.convSt c.val).ref = true ∧ (u.dev.convSt c.val).count = 0 ∧ u.dev.flag (pConv c.val) R.SV_REF_IMPLICIT = true ∧
        (∀ k, k ≠ c.val → u.dev.convSt k = s.dev.convSt k) ∧ u.dev.front = s.dev.front ∧ u.onlyDev s

/-- The RFFE buses (R237 to R239, Table 10-4): the first timed write takes an idle bus and reaches its slave when its command ends; each
of the six host commands waits with BUSY set, with its own count of bytes, slave, address and data; it starts once no timed write waits
or runs; a read that ends returns its data. -/
def Obligations.RffeBus : Prop :=
  ∀ (s : State) (m : Fin 4), s.dev.reachable = true →
    (∀ (w : RffeWrite) (rest : List RffeWrite), (s.dev.rffe m.val).run = none → (s.dev.rffe m.val).hostRun = false →
      (s.dev.rffe m.val).queue = w :: rest →
      ∃ u, exec (.timedWriteStart m) s = .next (State.finish s.dev u) ∧ (u.dev.rffe m.val).run = some w ∧
        (u.dev.rffe m.val).queue = rest ∧ u.dev.fld pFe (R.FE_RFFE_STAT_QDEPTH m.val) = rest.length % 64 ∧
        u.dev.regsBut s.dev [pFe + (R.FE_RFFE_STAT_QDEPTH m.val).off] ∧ u.onlyDev s) ∧
    (∀ (w : RffeWrite) (rd : Word) (perr : Bool), (s.dev.rffe m.val).run = some w → w.src ≠ 1 →
      ∃ u, exec (.rffeCommandEnd m rd perr) s = .next (State.finish s.dev u) ∧ (u.dev.rffe m.val).run = none ∧
        mat 0 (u.dev.rffe m.val).slave (w.usid * 65536 + w.addr % 65536) = w.data % 256 ∧
        (∀ k, k ≠ w.usid * 65536 + w.addr % 65536 → mat 0 (u.dev.rffe m.val).slave k = mat 0 (s.dev.rffe m.val).slave k) ∧
        (u.dev.rffe m.val).queue = (s.dev.rffe m.val).queue ∧ u.onlyDev s) ∧
    (∀ c : RffeCmd, s.dev.resets.contains pFe = false → (s.dev.rffe m.val).host = none →
      ∀ x ∈ [(0, Instr.rffeRegisterWrite m c), (1, Instr.rffeExtRegisterWrite m c), (2, Instr.rffeExtRegisterWriteLong m c),
          (3, Instr.rffeRegisterRead m c), (4, Instr.rffeExtRegisterRead m c), (5, Instr.rffeExtRegisterReadLong m c)],
        ∃ u, exec x.2 s = .next (State.finish s.dev u) ∧ u.dev.flag pFe (R.FE_RFFE_STAT_BUSY m.val) = true ∧
          (u.dev.rffe m.val).host = some (x.1, c.n.toNat + 1, c.usid.toNat, c.addr.toNat,
            if x.1 < 3 then c.data.toNat else s.dev.fld pFe (R.FE_RFFE_DATA_DATA m.val)) ∧
          (u.dev.rffe m.val).queue = (s.dev.rffe m.val).queue ∧ u.onlyDev s) ∧
    ((s.dev.rffe m.val).host.isSome = true → (s.dev.rffe m.val).queue = [] → (s.dev.rffe m.val).run = none →
      (s.dev.rffe m.val).hostRun = false →
      ∃ u, exec (.rffeHostCmdStart m) s = .next (State.finish s.dev u) ∧ (u.dev.rffe m.val).hostRun = true ∧
        (u.dev.rffe m.val).host = (s.dev.rffe m.val).host ∧ u.onlyDev s) ∧
    ∀ (n usid addr data : Nat) (rd : Word) (perr : Bool), (s.dev.rffe m.val).run = none → (s.dev.rffe m.val).hostRun = true →
      (s.dev.rffe m.val).host = some (4, n, usid, addr, data) →
      ∃ u, exec (.rffeCommandEnd m rd perr) s = .next (State.finish s.dev u) ∧
        u.dev.fld pFe (R.FE_RFFE_DATA_DATA m.val) = rd.toNat % 256 ^ n % 2 ^ 32 ∧
        u.dev.flag pFe (R.FE_RFFE_STAT_BUSY m.val) = false ∧ (perr = true → u.dev.flag pFe (R.FE_RFFE_STAT_PERR m.val) = true) ∧
        (u.dev.rffe m.val).host = none ∧ (u.dev.rffe m.val).slave = (s.dev.rffe m.val).slave ∧ u.onlyDev s

/-! ### Monitors, bias outputs, thermal protection (R246 to R279) -/

/-- Monitor converters (R246 to R254, R257): GO and the pin trigger what their codes name, code 3 and a converter that is off counting
IGNORED; a comparator with an action shows its trip; the end of a conversion shows its code and leaves an idle converter; the reference
settles, or is bad when it lies outside its range. -/
def Obligations.MonitorConverts : Prop :=
  ∀ s : State, s.dev.reachable = true →
    (∀ kind : BitVec 2, s.dev.resets.contains pMon = false →
      (∃ u, exec (.monConvGo 3 kind) s = .next (State.finish s.dev u) ∧
        u.dev.fld pMon R.MON_CNT_C_IGNORED = min (s.dev.fld pMon R.MON_CNT_C_IGNORED + 1) (2 ^ R.MON_CNT_C_IGNORED.w - 1) ∧
        u.onlyRegs s [pMon + R.MON_CNT_C_IGNORED.off]) ∧
      ∀ c : BitVec 2, c.toNat < 2 → s.dev.flag pMon R.MON_CTL_PAIR = false → s.dev.monOn c.toNat = true → s.dev.monCompat c.toNat = false →
        (s.dev.monSt c.toNat).conv = none →
        ∃ u, exec (.monConvGo c kind) s = .next (State.finish s.dev u) ∧
          (∃ cv, (u.dev.monSt c.toNat).conv = some cv ∧ cv.src = 0 ∧ cv.input = s.dev.monNative c.toNat kind.toNat) ∧
          u.dev.flag pMon (R.MON_STAT_BUSY.bit c.toNat) = true ∧ u.dev.regsBut s.dev [pMon + R.MON_STAT_BUSY.off] ∧ u.onlyDev s) ∧
    (∀ rising : Bool,
      (s.dev.flag pMon R.MON_CTL_PIN_EN = false ∨ s.dev.flag pMon R.MON_CTL_PIN_EDGE = rising →
        exec (.monTrigPinEdge rising) s = .next (State.finish s.dev s)) ∧
      (s.dev.flag pMon R.MON_CTL_PIN_EN = true → s.dev.flag pMon R.MON_CTL_PIN_EDGE ≠ rising → s.dev.flag pMon R.MON_CTL_PAIR = false →
        s.dev.fld pMon R.MON_CTL_PIN_CONV < 2 → s.dev.monOn (s.dev.fld pMon R.MON_CTL_PIN_CONV) = true →
        s.dev.monCompat (s.dev.fld pMon R.MON_CTL_PIN_CONV) = false → (s.dev.monSt (s.dev.fld pMon R.MON_CTL_PIN_CONV)).conv = none →
        ∃ u, exec (.monTrigPinEdge rising) s = .next (State.finish s.dev u) ∧
          (∃ cv, (u.dev.monSt (s.dev.fld pMon R.MON_CTL_PIN_CONV)).conv = some cv ∧
            cv.input = s.dev.monNative (s.dev.fld pMon R.MON_CTL_PIN_CONV) (s.dev.fld pMon R.MON_CTL_PIN_KIND)) ∧ u.onlyDev s)) ∧
    (∀ n : Fin 4,
      (s.dev.fld pMon (R.MON_CMP_ACT n.val) = 0 → exec (.comparatorTrip n) s = .next (State.finish s.dev s)) ∧
      (s.dev.fld pMon (R.MON_CMP_ACT n.val) = 1 →
        ∃ u, exec (.comparatorTrip n) s = .next (State.finish s.dev u) ∧ u.dev.flag pMon (R.MON_CMP_TRIPPED n.val) = true ∧
          u.dev.flag pMon (R.PG_EVT_EVT.bit 4) = true ∧
          u.dev.fld pMon R.MON_CNT_B_CMP_TRIPS = min (s.dev.fld pMon R.MON_CNT_B_CMP_TRIPS + 1) (2 ^ R.MON_CNT_B_CMP_TRIPS.w - 1) ∧
          u.onlyRegs s [pMon + (R.MON_CMP_TRIPPED n.val).off, pMon + R.PG_EVT_EVT.off, pMon + R.MON_CNT_B_CMP_TRIPS.off])) ∧
    (∀ (c : Fin 2) (code : BitVec 12) (cv : MonConv), (s.dev.monSt c.val).conv = some cv → cv.src = 0 → cv.input < 16 →
      s.dev.mon.waitOn.contains c.val = false → s.dev.flag pMon (R.MON_STAT_PEND.bit c.val) = false →
      ∃ u, exec (.conversionEnd c code) s = .next (State.finish s.dev u) ∧
        u.dev.fld pMon (R.MON_LAST_CODE (16 * c.val + cv.input)) = code.toNat ∧
        u.dev.flag pMon (R.MON_LAST_VALID (16 * c.val + cv.input)) = true ∧
        u.dev.flag pMon (R.MON_LAST_REF_NS (16 * c.val + cv.input)) = !s.dev.flag pMon R.MON_STAT_REF_SETTLED ∧
        (u.dev.monSt c.val).conv = none ∧ u.dev.flag pMon (R.MON_STAT_BUSY.bit c.val) = false ∧ u.onlyDev s) ∧
    ∀ ok : Bool, s.dev.flag pMon R.PG_CTL_EN = true →
      (s.dev.fld pMon R.MON_CTL_REF ≠ 1 ∨ ok = true →
        ∃ u, exec (.refSettled ok) s = .next (State.finish s.dev u) ∧ u.dev.flag pMon R.MON_STAT_REF_SETTLED = true ∧
          u.dev.flag pMon R.MON_STAT_REF_BAD = false ∧ (129, pMon) ∉ u.dev.fault.standing ∧ u.onlyDev s) ∧
      (s.dev.fld pMon R.MON_CTL_REF = 1 → ok = false →
        ∃ u, exec (.refSettled ok) s = .next (State.finish s.dev u) ∧ u.dev.flag pMon R.MON_STAT_REF_SETTLED = false ∧
          u.dev.flag pMon R.MON_STAT_REF_BAD = true ∧ (129, pMon) ∈ u.dev.fault.standing ∧ u.onlyDev s)

/-- Bias outputs (R262 to R269): a strobe by register or pin makes every output of the groups it names take its code; BIAS_CLR_N puts all
outputs to their clear codes, with any other clock absent as well; a ramp stops at its code, a deglitched change is made when its hold
ends, a range change ends at the clear code of the new range; a limit that acts shows SC, a load out of compliance COMPLY. -/
def Obligations.BiasOutputs : Prop :=
  ∀ s : State,
    (∃ u, exec .biasClrNAssert s = .next (State.finish s.dev u) ∧ u.dev.pins.clrN = false ∧ u.dev.clearPath = true ∧
      (∀ n, n < 16 → (u.dev.biasOut n).code = s.dev.clearCode n ∧ (u.dev.biasOut n).line = none ∧
        u.dev.flag (pBias n) R.BIAS_STAT_AT_CLEAR = true) ∧ u.dev.front = s.dev.front ∧ u.onlyDev s) ∧
    exec .biasClrNRelease s = .next (State.finish s.dev (s.onDev fun d => { d with pins := { d.pins with clrN := true } })) ∧
    (s.dev.reachable = true →
      (∀ (gs : BitVec 4) (n : Nat), s.dev.resets.contains (pBias 0) = false → n < 16 → s.dev.biasHeld n = false →
        gs.toNat.testBit (s.dev.fld (pBias n) R.BIAS_CTL_GROUP) = true →
        ∃ u, exec (.biasGrpLd gs) s = .next (State.finish s.dev u) ∧ (u.dev.biasOut n).target = s.dev.fld (pBias n) R.BIAS_CODE_CODE ∧
          (u.dev.biasOut n).line = none ∧ u.dev.flag (pBias n) R.BIAS_STAT_AT_CLEAR = false ∧ u.onlyDev s) ∧
      (∀ n, n < 16 → s.dev.biasHeld n = false →
        (s.dev.fld (pBias 0) R.BIAS_LDPIN_MASK).testBit (s.dev.fld (pBias n) R.BIAS_CTL_GROUP) = true →
        ∃ u, exec .biasLdNFall s = .next (State.finish s.dev u) ∧ (u.dev.biasOut n).target = s.dev.fld (pBias n) R.BIAS_CODE_CODE ∧
          (u.dev.biasOut n).line = none ∧ u.dev.flag (pBias n) R.BIAS_STAT_AT_CLEAR = false ∧ u.onlyDev s) ∧
      ∀ n : Fin 16,
        (∀ l, (s.dev.biasOut n.val).line = some l →
          ∃ u, exec (.biasRampEnd n) s = .next (State.finish s.dev u) ∧ (u.dev.biasOut n.val).code = l.2.1 ∧
            (u.dev.biasOut n.val).line = none ∧ u.dev.flag (pBias n.val) R.BIAS_STAT_RAMP = false ∧
            (∀ k, k ≠ n.val → u.dev.biasOut k = s.dev.biasOut k) ∧ u.dev.regsBut s.dev [pBias n.val + R.BIAS_STAT_RAMP.off] ∧ u.onlyDev s) ∧
        (s.dev.flag (pBias n.val) R.BIAS_STAT_DEGLITCH = true →
          ∃ u, exec (.biasDeglitchEnd n) s = .next (State.finish s.dev u) ∧ (u.dev.biasOut n.val).code = (s.dev.biasOut n.val).target ∧
            u.dev.flag (pBias n.val) R.BIAS_STAT_DEGLITCH = false ∧ (∀ k, k ≠ n.val → u.dev.biasOut k = s.dev.biasOut k) ∧
            u.dev.regsBut s.dev [pBias n.val + R.BIAS_STAT_DEGLITCH.off] ∧ u.onlyDev s) ∧
        (s.dev.flag (pBias n.val) R.BIAS_STAT_RANGE_CHG = true →
          ∃ u, exec (.biasRangeChangeEnd n) s = .next (State.finish s.dev u) ∧ (u.dev.biasOut n.val).code = s.dev.clearCode n.val ∧
            u.dev.flag (pBias n.val) R.BIAS_STAT_RANGE_CHG = false ∧ u.dev.flag (pBias n.val) R.BIAS_STAT_AT_CLEAR = true ∧
            u.dev.regsBut s.dev [pBias n.val + R.BIAS_STAT_RANGE_CHG.off] ∧ u.onlyDev s) ∧
        (s.dev.fld (pBias n.val) R.BIAS_CTL_RANGE < 2 →
          ∃ u, exec (.biasShortCircuit n) s = .next (State.finish s.dev u) ∧ u.dev.flag (pBias n.val) R.BIAS_STAT_SC = true ∧
            u.dev.fld (pBias n.val) R.BIAS_CNT_SC_EVENTS =
              min (s.dev.fld (pBias n.val) R.BIAS_CNT_SC_EVENTS + 1) (2 ^ R.BIAS_CNT_SC_EVENTS.w - 1) ∧
            (131, pBias n.val) ∈ u.dev.fault.standing ∧ u.dev.bias = s.dev.bias ∧ u.onlyDev s) ∧
        (2 ≤ s.dev.fld (pBias n.val) R.BIAS_CTL_RANGE →
          ∃ u, exec (.biasCompliance n) s = .next (State.finish s.dev u) ∧ u.dev.flag (pBias n.val) R.BIAS_STAT_COMPLY = true ∧
            u.dev.flag (pBias n.val) (R.PG_EVT_EVT.bit 1) = true ∧
            u.onlyRegs s [pBias n.val + R.BIAS_STAT_COMPLY.off, pBias n.val + R.PG_EVT_EVT.off]))

/-- Thermal protection (R271 to R279): a good die reading is shown, and the ladder stands at the highest level among the sensors; a broken die
diode shows its cause, raises source 137 and shuts the device down; THERM_CLR releases a held sensor that reads well again, and counts any
other. -/
def Obligations.ThermalReadings : Prop :=
  ∀ s : State, s.dev.reachable = true →
    (∀ t : BitVec 16, (s.dev.sensor 0).lastRaw ≠ t.toNat → -55 * 256 ≤ signed 16 t.toNat → signed 16 t.toNat ≤ 150 * 256 →
      ∃ u, exec (.dieReading t 0) s = .next (State.finish s.dev u) ∧ u.dev.fld pTherm R.THERM_DIE_T = t.toNat ∧
        u.dev.flag pTherm R.THERM_DIE_VALID = true ∧ u.dev.flag pDev R.DEV_BOOT_DIE_OK = true ∧
        u.dev.fld pTherm R.THERM_STAT_STEP = u.dev.ladderStep ∧ u.onlyDev s) ∧
    (∀ (t : BitVec 16) (f : Fin 3), f.val ≠ 0 → s.dev.flag pTherm R.THERM_DIE_BROKEN = false → (s.dev.sensor 0).held = false →
      ∃ u, exec (.dieReading t f) s = .next (State.finish s.dev u) ∧ u.dev.flag pTherm R.THERM_DIE_BROKEN = true ∧
        u.dev.fld pTherm R.THERM_DIE_CAUSE = f.val ∧ u.dev.flag pTherm (R.THERM_BROKEN_SENSOR.bit 0) = true ∧
        (137, pTherm) ∈ u.dev.fault.standing ∧ u.dev.flag pTherm R.THERM_STAT_SHUT = true ∧ u.onlyDev s) ∧
    ∀ k : Fin 8, s.dev.resets.contains pTherm = false →
      ((s.dev.sensor (1 + k.val)).held = true → (s.dev.sensor (1 + k.val)).cause = 0 → (s.dev.sensor (1 + k.val)).seen = true →
        s.dev.flag pTherm (R.THERM_EXT_CFG_EN k.val) = true →
        ∃ u, exec (.thermClr (BitVec.ofNat 8 (2 ^ k.val))) s = .next (State.finish s.dev u) ∧
          (u.dev.sensor (1 + k.val)).held = false ∧ u.dev.flag pTherm (R.THERM_EXT_T_BROKEN k.val) = false ∧
          u.dev.flag pTherm (R.THERM_BROKEN_SENSOR.bit (1 + k.val)) = false ∧
          (∀ i, i ≠ 1 + k.val → u.dev.sensor i = s.dev.sensor i) ∧ u.onlyDev s) ∧
      ((s.dev.sensor (1 + k.val)).held = false →
        ∃ u, exec (.thermClr (BitVec.ofNat 8 (2 ^ k.val))) s = .next (State.finish s.dev u) ∧
          u.dev.fld pTherm R.THERM_CNT_CLR_REF = min (s.dev.fld pTherm R.THERM_CNT_CLR_REF + 1) (2 ^ R.THERM_CNT_CLR_REF.w - 1) ∧
          u.onlyRegs s [pTherm + R.THERM_CNT_CLR_REF.off])

/-! ### Haul links and the cascade (R282 to R311) -/

/-- A frame that fails on port `h` is counted in CRC_FAIL, and nothing else of it is taken. -/
def Sys2Proof.frameCounted (u s : State) (h : Nat) : Prop :=
  u.dev.fld (pHaul h) R.HAUL_CNT_A_CRC_FAIL =
      min (s.dev.fld (pHaul h) R.HAUL_CNT_A_CRC_FAIL + 1) (2 ^ R.HAUL_CNT_A_CRC_FAIL.w - 1) ∧
    u.dev.port h = { s.dev.port h with crcFrame := (s.dev.port h).crcFrame + 1 } ∧
    u.dev.regsBut s.dev [pHaul h + R.HAUL_CNT_A_CRC_FAIL.off] ∧ u.dev.frame = s.dev.frame ∧ u.dev.casc = s.dev.casc ∧ u.onlyDev s

/-- The states of a link (R286, R287, R302, R311): block lock takes an enabled port to LOCK, alignment to ALIGN, a crossed lane holding it
with CAUSE 4; a failure takes it to DOWN with its cause, drops the received schedule and what was to be played, and is counted if the link was
up. Each period starts at position 0; eight periods without a good CTRL frame end TIMED. -/
def Sys2Proof.LinkStates : Prop :=
  ∀ (s : State) (h : Fin 3), s.dev.reachable = true →
    (s.dev.portOn h.val = true → s.dev.linkState h.val = 0 →
      ∃ u, exec (.linkBlockLock h) s = .next (State.finish s.dev u) ∧ u.dev.linkState h.val = 1 ∧
        u.dev.fld (pHaul h.val) R.HAUL_LINK_CAUSE = 0 ∧ u.dev.haul = s.dev.haul ∧
        u.dev.regsBut s.dev [pHaul h.val + R.HAUL_LINK_STATE.off] ∧ u.onlyDev s) ∧
    (s.dev.portOn h.val = false ∨ s.dev.linkState h.val ≠ 0 → exec (.linkBlockLock h) s = .next (State.finish s.dev s)) ∧
    (∀ ok : Bool, s.dev.linkState h.val = 1 →
      ∃ u, exec (.linkAlign h ok) s = .next (State.finish s.dev u) ∧ u.dev.linkState h.val = (if ok then 2 else 1) ∧
        u.dev.fld (pHaul h.val) R.HAUL_LINK_CAUSE = (if ok then 0 else 4) ∧ u.dev.haul = s.dev.haul ∧
        u.dev.regsBut s.dev [pHaul h.val + R.HAUL_LINK_STATE.off] ∧ u.onlyDev s) ∧
    (∀ cause : BitVec 4, s.dev.linkState h.val ≠ 0 →
      ∃ u, exec (.linkDown h cause) s = .next (State.finish s.dev u) ∧ u.dev.linkState h.val = 0 ∧
        u.dev.fld (pHaul h.val) R.HAUL_LINK_CAUSE = cause.toNat ∧ u.dev.flag (pHaul h.val) R.HAUL_LINK_PEER_MASTER = false ∧
        (153 + 8 * h.val, pHaul h.val) ∉ u.dev.fault.standing ∧ (u.dev.port h.val).rxSched = none ∧ (u.dev.port h.val).out = [] ∧
        (u.dev.port h.val).play = [] ∧
        u.dev.fld (pHaul h.val) R.HAUL_CNT_C_LINK_DOWN = (if s.dev.linkUp h.val then
          min (s.dev.fld (pHaul h.val) R.HAUL_CNT_C_LINK_DOWN + 1) (2 ^ R.HAUL_CNT_C_LINK_DOWN.w - 1)
          else s.dev.fld (pHaul h.val) R.HAUL_CNT_C_LINK_DOWN) ∧ u.onlyDev s) ∧
    (s.dev.portOn h.val = true →
      ∃ u, exec (.haulPeriodStart h) s = .next (State.finish s.dev u) ∧
        (u.dev.port h.val).period = ((s.dev.port h.val).period + 1) % 2 ^ 16 ∧ (u.dev.port h.val).pos = 0 ∧
        (u.dev.port h.val).missing = (s.dev.port h.val).missing + 1 ∧
        u.dev.linkState h.val = (if 8 ≤ (s.dev.port h.val).missing ∧ s.dev.linkState h.val = 4 then 3 else s.dev.linkState h.val) ∧
        (s.dev.linkState h.val ≠ 4 → u.dev.regsBut s.dev []) ∧ u.onlyDev s)

/-- Each frame position of a port that has block lock sends one frame, of a type allowed there, with this device's address, the period, the
position and the units freed so far, and is counted by type (R286 to R291, R301, R306, R310): position 0 the CTRL frame with its departure time;
a management position the frame that waits longest if 49 units of credit are left, and EMPTY without credit; an armed injection
inverts the CRC. -/
def Obligations.PositionsSend : Prop :=
  ∀ (s : State) (h : Fin 3) (sub : Fin 32), s.dev.reachable = true → s.dev.portOn h.val = true → 1 ≤ s.dev.linkState h.val →
    ∃ (u : State) (p : FrameParts), exec (.haulFramePosition h sub) s = .next (State.finish s.dev u) ∧
      typeAllowed p.typ (s.dev.port h.val).pos = true ∧ (u.dev.port h.val).pos = ((s.dev.port h.val).pos + 1) % 64 ∧
      (∀ f, f = makeFrame s.dev.ownAddr (s.dev.port h.val).period (s.dev.port h.val).pos (u.dev.port h.val).freedUnits p →
        (u.dev.port h.val).lastFrame =
          if s.dev.injArmed (pHaul h.val) 0 then f.take (f.length - 4) ++ (f.drop (f.length - 4)).map (255 - ·) else f) ∧
      (s.dev.flag pObs R.OBS_STAT_FROZEN = false → mat 0 u.dev.obs.ctrs (1264 + 16 * h.val + p.typ) =
        (mat 0 s.dev.obs.ctrs (1264 + 16 * h.val + p.typ) + 1) % 2 ^ 48) ∧
      ((s.dev.port h.val).pos = 0 → p.typ = 3 ∧
        bytesNum p.body 16 8 = toStamp (s.dev.gridNow + sub.val * stampUnits) % 2 ^ 64) ∧
      ((s.dev.port h.val).pos = 16 ∨ (s.dev.port h.val).pos = 32 ∨ (s.dev.port h.val).pos = 48 → s.dev.linkUp h.val = true →
        (∀ f rest, (s.dev.port h.val).out = f :: rest → 49 ≤ s.dev.credit h.val →
          p.typ = 4 ∧ p.dst = f.dst ∧ p.body = f.body ∧ (u.dev.port h.val).out = rest ∧
            (u.dev.port h.val).sentUnits = ((s.dev.port h.val).sentUnits + 49) % 2 ^ 32) ∧
        (s.dev.credit h.val < 49 → p.typ = 0 ∧ (u.dev.port h.val).out = (s.dev.port h.val).out)) ∧
      u.dev.frame = s.dev.frame ∧ u.dev.front = s.dev.front ∧ u.onlyDev s

/-- CTRL and EMPTY frames (R282, R283, R288, R301, R306, R308, R311): one that fails its check is counted alone; the first good CTRL frame
between ports of the right roles brings the link UP, one between ports of wrong roles leaves it in ALIGN with CAUSE 5; a good EMPTY returns
credit. A frame that is not allowed at its position is discarded and counted. -/
def Sys2Proof.ControlFramesArrive : Prop :=
  ∀ (s : State) (h : Fin 3) (frame : List Byte), s.dev.reachable = true →
    (∀ sub : Fin 32, s.dev.portOn h.val = true → 2 ≤ s.dev.linkState h.val →
      (frameOk (frameNums frame) = false ∨ frameType (frameNums frame) ≠ 3 ∨ framePos (frameNums frame) ≠ 0 →
        ∃ u, exec (.ctrlFrameRx h frame sub) s = .next (State.finish s.dev u) ∧ frameCounted u s h.val) ∧
      (frameOk (frameNums frame) = true → frameType (frameNums frame) = 3 → framePos (frameNums frame) = 0 →
        framePoison (frameNums frame) = 0 → s.dev.linkState h.val = 2 →
        ((payload (frameNums frame)).getD 0 0 % 2 = (if h.val = 0 then 1 else 0) → (h.val = 0 → s.dev.isMaster = false) →
          ∃ u, exec (.ctrlFrameRx h frame sub) s = .next (State.finish s.dev u) ∧ u.dev.linkState h.val = 3 ∧
            u.dev.fld (pHaul h.val) R.HAUL_LINK_CAUSE = 0 ∧ u.dev.flag (pHaul h.val) (R.PG_EVT_EVT.bit 0) = true ∧
            u.dev.fld (pHaul h.val) R.HAUL_PEER_ADDR = bytesNum (frameNums frame) 2 2 % 2 ^ 16 ∧
            (u.dev.port h.val).missing = 0 ∧ (u.dev.port h.val).echoDep = bytesNum (payload (frameNums frame)) 16 8 ∧
            (u.dev.port h.val).echoArr = toStamp (s.dev.gridNow + sub.val * stampUnits) ∧ u.onlyDev s) ∧
        ((payload (frameNums frame)).getD 0 0 % 2 = (if h.val = 0 then 0 else 1) →
          ∃ u, exec (.ctrlFrameRx h frame sub) s = .next (State.finish s.dev u) ∧ u.dev.linkState h.val = 2 ∧
            u.dev.fld (pHaul h.val) R.HAUL_LINK_CAUSE = 5 ∧ u.dev.haul = s.dev.haul ∧ u.dev.frame = s.dev.frame ∧ u.onlyDev s))) ∧
    (s.dev.linkUp h.val = true →
      (frameOk (frameNums frame) = true → frameType (frameNums frame) = 0 → typeAllowed 0 (framePos (frameNums frame)) = true →
        ∃ u, exec (.emptyFrameRx h frame) s = .next (State.finish s.dev u) ∧
          u.dev.port h.val = { s.dev.port h.val with peerFreed := bytesNum (frameNums frame) 8 4 } ∧
          u.dev.regsBut s.dev [pHaul h.val + R.HAUL_CREDIT_AVAIL.off] ∧ u.onlyDev s) ∧
      (frameOk (frameNums frame) = false ∨ frameType (frameNums frame) ≠ 0 ∨ typeAllowed 0 (framePos (frameNums frame)) = false →
        ∃ u, exec (.emptyFrameRx h frame) s = .next (State.finish s.dev u) ∧ frameCounted u s h.val)) ∧
    (2 ≤ s.dev.linkState h.val →
      frameOk (frameNums frame) = false ∨ typeAllowed (frameType (frameNums frame)) (framePos (frameNums frame)) = false →
      ∃ u, exec (.haulFrameFail h frame) s = .next (State.finish s.dev u) ∧ frameCounted u s h.val)

/-- MGMT frames (R305, R306, R308): a good one for this device is executed here, one for another device waits at the port of its route, one with
no route is dropped and counted, and one of another type is counted alone. Sample frames (R292, R308): a good frame places the segment
of a stream that the channel takes by the STAMP that names it, sixteen words at the channel's spacing. -/
def Sys2Proof.DataFramesArrive : Prop :=
  ∀ (s : State) (h : Fin 3) (frame : List Byte), s.dev.reachable = true → s.dev.linkUp h.val = true →
    (∀ cut : Bool,
      (frameType (frameNums frame) ≠ 4 ∨ typeAllowed 4 (framePos (frameNums frame)) = false →
        ∃ u, exec (.mgmtFrameRx h frame cut) s = .next (State.finish s.dev u) ∧ frameCounted u s h.val) ∧
      (frameOk (frameNums frame) = true → frameType (frameNums frame) = 4 → typeAllowed 4 (framePos (frameNums frame)) = true →
        (s.dev.route (bytesNum (frameNums frame) 32 2) = some 3 → framePoison (frameNums frame) = 0 →
          ∃ u, exec (.mgmtFrameRx h frame cut) s = .next (State.finish s.dev u) ∧
            u.dev.wires.mail = s.dev.wires.mail ++ [(bytesNum (frameNums frame) 2 2, payload (frameNums frame))] ∧
            (u.dev.port h.val).peerFreed = bytesNum (frameNums frame) 8 4 ∧ (u.dev.port h.val).out = (s.dev.port h.val).out ∧
            u.dev.regsBut s.dev [pHaul h.val + R.HAUL_CREDIT_AVAIL.off] ∧ u.onlyDev s) ∧
        (∀ q, q < 3 → s.dev.route (bytesNum (frameNums frame) 32 2) = some q → s.dev.linkUp q = true →
          ∃ (u : State) (m : MgmtFrame), exec (.mgmtFrameRx h frame cut) s = .next (State.finish s.dev u) ∧
            (u.dev.port q).out = (s.dev.port q).out ++ [m] ∧ m.dst = bytesNum (frameNums frame) 32 2 ∧
            m.src = bytesNum (frameNums frame) 2 2 ∧ m.body = payload (frameNums frame) ∧
            m.poison = (framePoison (frameNums frame) != 0) ∧ m.port = h.val ∧ u.dev.wires.mail = s.dev.wires.mail ∧ u.onlyDev s) ∧
        (s.dev.route (bytesNum (frameNums frame) 32 2) = none →
          ∃ u, exec (.mgmtFrameRx h frame cut) s = .next (State.finish s.dev u) ∧
            u.dev.fld (pHaul h.val) R.HAUL_CNT_C_MGMT_DROP =
              min (s.dev.fld (pHaul h.val) R.HAUL_CNT_C_MGMT_DROP + 1) (2 ^ R.HAUL_CNT_C_MGMT_DROP.w - 1) ∧
            u.dev.wires.mail = s.dev.wires.mail ∧ u.onlyDev s))) ∧
    (frameType (frameNums frame) ≠ 1 + s.dev.fld (pHaul h.val) R.HAUL_CTL_FMT ∨
        typeAllowed (frameType (frameNums frame)) (framePos (frameNums frame)) = false →
      ∃ u, exec (.sampleFrameRx h frame) s = .next (State.finish s.dev u) ∧ frameCounted u s h.val) ∧
    ∀ i k : Nat, frameOk (frameNums frame) = true → frameType (frameNums frame) = 1 + s.dev.fld (pHaul h.val) R.HAUL_CTL_FMT →
      typeAllowed (frameType (frameNums frame)) (framePos (frameNums frame)) = true → framePoison (frameNums frame) = 0 →
      bytesNum (frameNums frame) 12 8 = 2 ^ i →
      (slotsAt (s.dev.fld (pHaul h.val) R.HAUL_CTL_FMT) (framePos (frameNums frame)) (s.dev.port h.val).rxSlots)[i]? = some (some k) →
      s.dev.takes h.val (k / 4) = true → s.dev.haulAbsent h.val (k / 4) = false →
      bytesNum (frameNums frame) 25 1 = k / 4 → bytesNum (frameNums frame) 26 1 % 4 = k % 4 →
      ((s.dev.port h.val).grid.find? fun e => e.1 == k) = none →
      ∃ u, exec (.sampleFrameRx h frame) s = .next (State.finish s.dev u) ∧
        (u.dev.port h.val).play = (s.dev.port h.val).play ++
          ((segWords (s.dev.fld (pHaul h.val) R.HAUL_CTL_FMT) i (payload (frameNums frame))).zip (List.range 16)).map (fun wx =>
            { ch := k / 4, j := k % 4, w := wx.1, poison := false,
              time := (ofStamp (bytesNum (frameNums frame) 20 5) + wx.2 * max 1 (s.dev.delayCfg (k / 4)).tch) % gridSpan }) ∧
        (u.dev.port h.val).peerFreed = bytesNum (frameNums frame) 8 4 ∧ u.onlyDev s

/-- Haul frames of every type arrive. -/
def Obligations.FramesArrive : Prop := ControlFramesArrive ∧ DataFramesArrive

/-- Routes of management frames (R305): a good frame for this device's own address is executed here (the master's own is 0); one for an address
within the range of DA or DB waits at that port; any other waits at UP, or, on a master, is dropped and counted in MGMT_DROP. -/
def Obligations.ManagementRoutes : Prop :=
  ∀ (s : State) (h : Fin 3) (frame : List Byte) (cut own : Bool) (dst : Nat), s.dev.reachable = true → s.dev.linkUp h.val = true →
    frameOk (frameNums frame) = true → frameType (frameNums frame) = 4 → typeAllowed 4 (framePos (frameNums frame)) = true →
    framePoison (frameNums frame) = 0 → dst = bytesNum (frameNums frame) 32 2 →
    own = (s.dev.flag (pHaul 0) R.HAUL_CASC_STAT_ADDRESSED && s.dev.fld (pHaul 0) R.HAUL_CASC_STAT_ADDR == dst ||
      s.dev.isMaster && dst == 0) →
    ∃ u, exec (.mgmtFrameRx h frame cut) s = .next (State.finish s.dev u) ∧ u.onlyDev s ∧
      (own = true → u.dev.wires.mail = s.dev.wires.mail ++ [(bytesNum (frameNums frame) 2 2, payload (frameNums frame))]) ∧
      (own = false → u.dev.wires.mail = s.dev.wires.mail) ∧
      (∀ q, q < 3 → s.dev.linkUp q = true → own = false →
        (q = 1 ∧ s.dev.inRange 1 dst = true ∨ q = 2 ∧ s.dev.inRange 1 dst = false ∧ s.dev.inRange 2 dst = true ∨
          q = 0 ∧ s.dev.inRange 1 dst = false ∧ s.dev.inRange 2 dst = false ∧ s.dev.isMaster = false) →
        ∃ m : MgmtFrame, (u.dev.port q).out = (s.dev.port q).out ++ [m] ∧ m.dst = dst ∧ m.body = payload (frameNums frame) ∧
          m.src = bytesNum (frameNums frame) 2 2 ∧ ∀ k, k < 3 → k ≠ q → (u.dev.port k).out = (s.dev.port k).out) ∧
      (own = false → s.dev.inRange 1 dst = false → s.dev.inRange 2 dst = false → s.dev.isMaster = true →
        u.dev.fld (pHaul h.val) R.HAUL_CNT_C_MGMT_DROP =
            min (s.dev.fld (pHaul h.val) R.HAUL_CNT_C_MGMT_DROP + 1) (2 ^ R.HAUL_CNT_C_MGMT_DROP.w - 1) ∧
          ∀ k, k < 3 → (u.dev.port k).out = (s.dev.port k).out)

/-- Schedules and playout (R293, R296, R308): at its take an announced schedule and its slot order come into force; the haul word that is
due first is released to the junction, as spoil when it is late or poisoned, and a stream that is absent releases no more. -/
def Sys2Proof.SchedulesAndPlayout : Prop :=
  ∀ (s : State) (h : Fin 3), s.dev.reachable = true →
    (∀ x, s.dev.linkUp h.val = true → (s.dev.port h.val).txNew = some x →
      ∃ u, exec (.scheduleTake h) s = .next (State.finish s.dev u) ∧ (u.dev.port h.val).txSched = some x ∧
        (u.dev.port h.val).txNew = none ∧ (u.dev.port h.val).txSlots = s.dev.slotOrder h.val x ∧
        u.dev.flag (pHaul h.val) (R.PG_EVT_EVT.bit 3) = true ∧ u.onlyDev s) ∧
    ((s.dev.port h.val).txNew = none → (s.dev.port h.val).rxNew = none →
      exec (.scheduleTake h) s = .next (State.finish s.dev s)) ∧
    ((s.dev.port h.val).duePlay = none → exec (.playoutRelease h) s = .next (State.finish s.dev s)) ∧
    ∀ k t, (s.dev.port h.val).duePlay = some (k, t) →
      (s.dev.haulAbsent h.val (k / 4) = true →
        ∃ u, exec (.playoutRelease h) s = .next (State.finish s.dev u) ∧
          u.dev.port h.val = { s.dev.port h.val with next := (s.dev.port h.val).next.filter fun e => e.1 != k } ∧
          u.dev.regsBut s.dev [] ∧ u.onlyDev s) ∧
      (s.dev.haulAbsent h.val (k / 4) = false → s.dev.takes h.val (k / 4) = true →
        ∃ u, exec (.playoutRelease h) s = .next (State.finish s.dev u) ∧
          (u.dev.strm (k / 4) (k % 4)).joined = (s.dev.strm (k / 4) (k % 4)).joined ++
            [(h.val, t, match (s.dev.port h.val).play.find? fun p => streamKey p.ch p.j == k && p.time == t with
              | none => spoilWord
              | some p => if p.poison then spoilWord else p.w)] ∧
          (((s.dev.port h.val).play.find? fun p => streamKey p.ch p.j == k && p.time == t) = none →
            u.dev.fld (pHaul h.val) R.HAUL_CNT_B_LATE =
              min (s.dev.fld (pHaul h.val) R.HAUL_CNT_B_LATE + 1) (2 ^ R.HAUL_CNT_B_LATE.w - 1)) ∧ u.onlyDev s)

/-- The states of a link, and the schedules and playout of its streams. -/
def Obligations.LinksAndPlayout : Prop := LinkStates ∧ SchedulesAndPlayout

/-- Enumeration and the cascade-wide sync (R284, R285, R304): the master that starts an enumeration takes address 0 and begins with the first
downstream link that is up; ENUM on any other device, or while one runs, is a bad access; its end shows the count of devices. SYNC_GO for a
target at least a frame ahead takes the next sequence number and sends the command on; at its time the sync is applied, and one that is past
is counted. -/
def Obligations.EnumerationAndSync : Prop :=
  ∀ s : State, s.dev.reachable = true →
    (∀ x ∈ [Instr.enumFull, Instr.enumKeep], s.dev.resets.contains (pHaul 0) = false →
      (s.dev.isMaster = true → s.dev.casc.enumBusy = false →
        ∃ u, exec x s = .next (State.finish s.dev u) ∧ u.dev.casc.enumBusy = true ∧
          u.dev.flag (pHaul 0) R.HAUL_CASC_STAT_ENUM_BUSY = true ∧ u.dev.flag (pHaul 0) R.HAUL_CASC_STAT_ADDRESSED = true ∧
          u.dev.fld (pHaul 0) R.HAUL_CASC_STAT_ADDR = 0 ∧ u.dev.fld (pHaul 0) R.HAUL_CASC_STAT_HOPS = 0 ∧
          (s.dev.linkUp 1 = false → s.dev.linkUp 2 = false → u.dev.casc.enumPort = 0) ∧
          (s.dev.linkUp 1 = true → x = .enumFull → u.dev.casc.enumPort = 1 ∧
            mat (0, 0, 0, 0) u.dev.casc.enumOut 1 = (1, 1, 1, 1)) ∧ u.pending = s.pending) ∧
      (s.dev.isMaster = false ∨ s.dev.casc.enumBusy = true →
        ∃ u, exec x s = .next (State.finish s.dev u) ∧ u.dev.casc = s.dev.casc ∧ u.dev.fld pDev R.DEV_BAD_ACC_CNT_COUNT =
            min (s.dev.fld pDev R.DEV_BAD_ACC_CNT_COUNT + 1) (2 ^ R.DEV_BAD_ACC_CNT_COUNT.w - 1) ∧
          u.dev.regsBut s.dev [pHaul 0 + R.HAUL_CASC_CTL_KEEP.off, pDev + R.DEV_BAD_ACC_CNT_COUNT.off] ∧ u.onlyDev s)) ∧
    (s.dev.casc.enumBusy = true → s.dev.casc.enumPort = 0 →
      ∃ u, exec .enumDone s = .next (State.finish s.dev u) ∧ u.dev.casc = { s.dev.casc with enumBusy := false } ∧
        u.dev.flag (pHaul 0) R.HAUL_CASC_STAT_ENUM_BUSY = false ∧
        u.dev.fld (pHaul 0) R.HAUL_CASC_COUNT_DEVICES = (s.dev.casc.enumLast + 1) % 2 ^ 17 ∧
        u.dev.flag (pHaul 0) (R.PG_EVT_EVT.bit 4) = true ∧ u.dev.haul = s.dev.haul ∧ u.onlyDev s) ∧
    (∀ t : Nat, s.dev.resets.contains (pHaul 0) = false →
      t = (s.dev.fld (pHaul 0) R.HAUL_SYNC_LO_FRAME_LO + s.dev.fld (pHaul 0) R.HAUL_SYNC_HI_FRAME_HI * 512) * frameTicks +
        s.dev.fld (pHaul 0) R.HAUL_SYNC_LO_TICK →
      (s.dev.isMaster = true → (frameTicks : Int) ≤ ((t : Int) - s.dev.now) % (1024 * frameTicks : Nat) →
        ∃ u, exec .syncGo s = .next (State.finish s.dev u) ∧
          u.dev.fld (pHaul 0) R.HAUL_SYNC_HI_SEQ = (s.dev.fld (pHaul 0) R.HAUL_SYNC_HI_SEQ + 1) % 256 ∧
          (∃ c, u.dev.casc.syncOut = some c ∧ c.1 = u.dev.fld (pHaul 0) R.HAUL_SYNC_HI_SEQ ∧
            c.2.1 * frameTicks + c.2.2.1 = t ∧ c.2.2.2.1 = s.dev.fld (pHaul 0) R.HAUL_SYNC_HI_MASK) ∧
          (s.dev.flag (pHaul 0) R.HAUL_SYNC_HI_LOCAL = true →
            u.dev.casc.sync = some (t, s.dev.fld (pHaul 0) R.HAUL_SYNC_HI_MASK)) ∧
          u.onlyDev s) ∧
      (s.dev.isMaster = false ∨ ((t : Int) - s.dev.now) % (1024 * frameTicks : Nat) < frameTicks →
        ∃ u, exec .syncGo s = .next (State.finish s.dev u) ∧ u.dev.casc = s.dev.casc ∧ u.dev.fld pDev R.DEV_BAD_ACC_CNT_COUNT =
            min (s.dev.fld pDev R.DEV_BAD_ACC_CNT_COUNT + 1) (2 ^ R.DEV_BAD_ACC_CNT_COUNT.w - 1) ∧ u.onlyDev s)) ∧
    (s.dev.casc.sync = none → exec .haulSyncApply s = .next (State.finish s.dev s)) ∧
    ∀ t mask, s.dev.casc.sync = some (t, mask) →
      ∃ u, exec .haulSyncApply s = .next (State.finish s.dev u) ∧ u.dev.casc = { s.dev.casc with sync := none } ∧
        (wrap16 ((t : Int) - s.dev.now) (1024 * frameTicks) < 0 →
          u.dev.fld (pHaul 0) R.HAUL_CNT_C_SYNC_LATE =
            min (s.dev.fld (pHaul 0) R.HAUL_CNT_C_SYNC_LATE + 1) (2 ^ R.HAUL_CNT_C_SYNC_LATE.w - 1) ∧
          u.onlyRegs { s with dev := { s.dev with casc := { s.dev.casc with sync := none } } }
            [pHaul 0 + R.HAUL_CNT_C_SYNC_LATE.off]) ∧
        (0 ≤ wrap16 ((t : Int) - s.dev.now) (1024 * frameTicks) → ∀ c, c < 16 → mask.testBit c = true →
          (s.dev.convSt c).runs = true → (s.dev.convSt c).ref = false →
          (u.dev.convSt c).ref = true ∧ (u.dev.convSt c).count = 0) ∧ u.onlyDev s

/-- The haul frame (R286 to R288, Table 13-1): every frame is 3,232 bytes and passes its own check, and each field is read back as it was
put, with every value of its width and every payload; with the CRC inverted the frame fails (R364). -/
def Obligations.FramesReadBack : Prop :=
  ∀ (src period pos credit : Nat) (p : FrameParts) (f : List Nat), f = makeFrame src period pos credit p →
    src < 2 ^ 16 → period < 2 ^ 16 → pos < 64 → credit < 2 ^ 32 → p.typ < 256 → p.occ < 2 ^ 64 → p.stamp < 2 ^ 40 → p.stampCh < 256 →
    p.stampJ < 256 → p.dst < 2 ^ 16 → p.poison < 2 ^ 64 → p.origin < 2 ^ 16 → (∀ b ∈ p.body, b < 256) →
    f.length = 3232 ∧ frameOk f = true ∧ frameType f = p.typ ∧ bytesNum f 2 2 = src ∧ bytesNum f 4 2 = period ∧ framePos f = pos ∧
      bytesNum f 8 4 = credit ∧ bytesNum f 12 8 = p.occ ∧ bytesNum f 20 5 = p.stamp ∧ bytesNum f 25 1 = p.stampCh ∧
      bytesNum f 26 1 = p.stampJ ∧ bytesNum f 32 2 = p.dst ∧ payload f = padTo 3136 p.body ∧ framePoison f = p.poison ∧
      bytesNum f 3208 2 = p.origin ∧ frameOk (f.take (f.length - 4) ++ (f.drop (f.length - 4)).map (255 - ·)) = false

/-- The slot order gives every stream of a schedule exactly as many slots of the period as it has segments, and EMPTY the rest (R291): a
run of as many slots as the weights sum to, from counts of zero, names each line as often as it weighs. -/
def Obligations.SlotsByWeight : Prop :=
  ∀ (ls : List SlotLine) (n : Nat), n = (ls.map (·.weight)).sum → 0 < n → (ls.map (·.key)).Nodup → (∀ l ∈ ls, l.c = 0) →
    (slotRun n n ls).length = n ∧ ∀ l ∈ ls, (slotRun n n ls).count l.key = l.weight

/-! ### Management queues (R313 to R326) -/

/-- A record of host queue `q` with TAG `tag` has been taken from those that wait, and `u` is `t` with the completion of kind `kind`, error
`err` and DATA `data` behind the records that go out, where one is owed: the next SEQ of its index (R320, R323). -/
def Sys2Proof.completed (u t : State) (q kind err tag data : Nat) (cpl : Bool) : Prop :=
  u.dev.outbox = t.dev.outbox ++ (if cpl then
      [{ idx := 8 + q / 2, kind := kind, err := err, tag := tag, seq := mat 0 t.dev.seqOut (8 + q / 2), data := data, bytes := [] }] else []) ∧
    { u.dev with outbox := t.dev.outbox, seqOut := t.dev.seqOut } = t.dev ∧ u.host = t.host ∧ u.pending = t.pending

/-- Host records at the device that executes them (R318, R319, R325, Tables 14-3 and 14-5): WR32 and WR64 are the writes, RD32 and RD64 the
reads, of path 2, each with its completion; an access that R8 or R28 rejects answers error 2 and is a bad access; NOP and a FENCE that
nothing waits for complete alone; an undefined record answers BADOP. -/
def Sys2Proof.RecordsExecute : Prop :=
  ∀ (s : State) (q : Fin 8) (tag : BitVec 16), s.dev.reachable = true → (s.host.qm.uploads.any fun u => u.q == q.val) = false →
    (∀ (cpl : Bool) (addr : BitVec 26), accessBad addr.toNat 4 = false →
      (∀ (data : Word) (t : State), addr.toNat % 4 = 0 → t = (s.takeExec q.val 1 tag.toNat).busWrite 2 addr.toNat 4 data →
        ∃ u, exec (.wr32 q cpl tag addr data) s = .next (State.finish s.dev u) ∧ completed u t q.val 0x82 0 tag.toNat 0 cpl) ∧
      (∀ (data : BitVec 64) (t : State), addr.toNat % 8 = 0 →
        t = ((s.takeExec q.val 2 tag.toNat).busWrite 2 addr.toNat 4 (data.setWidth 32)).busWrite 2 (addr.toNat + 4) 4
          ((data >>> 32).setWidth 32) →
        ∃ u, exec (.wr64 q cpl tag addr data) s = .next (State.finish s.dev u) ∧ completed u t q.val 0x82 0 tag.toNat 0 cpl) ∧
      (addr.toNat % 4 = 0 → (∀ p, pageDefAt addr.toNat = some p → offOf p addr.toNat ≠ 0xC) →
        ∀ t : State × Word, t = (s.takeExec q.val 3 tag.toNat).busRead 2 addr.toNat 4 →
        ∃ u, exec (.rd32 q tag addr) s = .next (State.finish s.dev u) ∧ completed u t.1 q.val 0x81 0 tag.toNat t.2.toNat true) ∧
      (addr.toNat % 8 = 0 → ∀ l h : State × Word, l = (s.takeExec q.val 4 tag.toNat).busRead 2 addr.toNat 4 →
        h = l.1.busRead 2 (addr.toNat + 4) 4 →
        ∃ u, exec (.rd64 q tag addr) s = .next (State.finish s.dev u) ∧
          completed u h.1 q.val 0x81 0 tag.toNat (l.2.toNat + 2 ^ 32 * h.2.toNat) true)) ∧
    (∀ (cpl : Bool) (addr : BitVec 26), accessBad addr.toNat 4 = true →
      (∀ data : Word, ∃ u, exec (.wr32 q cpl tag addr data) s = .next (State.finish s.dev u) ∧
        completed u ((s.takeExec q.val 1 tag.toNat).onDev fun d => d.badAcc addr.toNat) q.val 0x86 2 tag.toNat 0 cpl) ∧
      (∀ data : BitVec 64, ∃ u, exec (.wr64 q cpl tag addr data) s = .next (State.finish s.dev u) ∧
        completed u ((s.takeExec q.val 2 tag.toNat).onDev fun d => d.badAcc addr.toNat) q.val 0x86 2 tag.toNat 0 cpl) ∧
      (∃ u, exec (.rd32 q tag addr) s = .next (State.finish s.dev u) ∧
        completed u ((s.takeExec q.val 3 tag.toNat).onDev fun d => d.badAcc addr.toNat) q.val 0x86 2 tag.toNat 0 true) ∧
      ∃ u, exec (.rd64 q tag addr) s = .next (State.finish s.dev u) ∧
        completed u ((s.takeExec q.val 4 tag.toNat).onDev fun d => d.badAcc addr.toNat) q.val 0x86 2 tag.toNat 0 true) ∧
    (∀ cpl : Bool,
      (∃ u, exec (.descNop q cpl tag) s = .next (State.finish s.dev u) ∧
        completed u (s.takeExec q.val 8 tag.toNat) q.val 0x82 0 tag.toNat 0 cpl) ∧
      (s.fenceFree q.val tag.toNat = true →
        ∃ u, exec (.fence q cpl tag) s = .next (State.finish s.dev u) ∧
          completed u (s.takeExec q.val 5 tag.toNat) q.val 0x82 0 tag.toNat 0 cpl) ∧
      (s.fenceFree q.val tag.toNat = false → exec (.fence q cpl tag) s = .next (State.finish s.dev s))) ∧
    ∀ desc : BitVec 128, descOk desc = false →
      ∃ u, exec (.badop q desc) s = .next (State.finish s.dev u) ∧
        completed u (s.takeExec q.val (desc.toNat % 256) (descTag desc)) q.val 0x86 1 (descTag desc) 0 true

/-- Uploads (R326, R385): UPLOAD_TRACE copies an engine's trace ring, oldest record first, and refuses an address that is no ENG page;
UPLOAD_REC freezes the recorder's image while no flush holds the shadow; when the first upload completes, its data goes out in
pieces up to the buffer's length, then UPLOAD_DONE with the number of bytes. -/
def Sys2Proof.UploadsGoOut : Prop :=
  ∀ s : State, s.dev.reachable = true →
    (∀ (q : Fin 8) (tag : BitVec 16) (buf : BitVec 48) (len : BitVec 16), (s.host.qm.uploads.any fun u => u.q == q.val) = false →
      (∀ (addr : BitVec 26) (e : Fin 96), addr.toNat = pEng e.val →
        ∃ u, exec (.uploadTrace q tag addr buf len) s = .next (State.finish s.dev u) ∧
          u.host.qm.uploads = s.host.qm.uploads ++ [{
            q := q.val, tag := tag.toNat, idx := 14, buf := buf.toNat, len := 4096 * len.toNat,
            bytes := some (((List.range (s.dev.engine e.val).held).flatMap fun i => le 16 (mat 0 (s.dev.engine e.val).trace
              ((s.dev.fld (pEng e.val) R.ENG_TRACE_CTL_WRPTR + 512 - (s.dev.engine e.val).held + i) % 512)).toNat)) }] ∧
          u.dev = s.dev ∧ u.pending = s.pending) ∧
      (∀ addr : BitVec 26, (∀ e, e < 96 → addr.toNat ≠ pEng e) →
        ∃ u, exec (.uploadTrace q tag addr buf len) s = .next (State.finish s.dev u) ∧ u.dev.outbox = s.dev.outbox ++
          [{ idx := 14, kind := 0x86, err := 2, tag := tag.toNat, seq := mat 0 s.dev.seqOut 14, data := 0, bytes := [] }] ∧
          u.host.qm.uploads = s.host.qm.uploads ∧ u.dev.regs = s.dev.regs ∧ u.pending = s.pending) ∧
      ∃ u, exec (.uploadRec q tag buf len) s = .next (State.finish s.dev u) ∧
        u.host.qm.uploads = s.host.qm.uploads ++ [{
          q := q.val, tag := tag.toNat, idx := 15, buf := buf.toNat, len := 4096 * len.toNat,
          bytes := if s.dev.rcd.shadow.isNone then some s.dev.uploadImage.bytes else none }] ∧ u.dev = s.dev ∧ u.pending = s.pending) ∧
    (s.host.qm.uploads = [] → exec .uploadDone s = .next (State.finish s.dev s)) ∧
    ∀ (x : Upload) (rest : List Upload) (b : List Nat), s.host.qm.uploads = x :: rest → x.bytes = some b →
      ∃ (u : State) (ps : List OutRec), exec .uploadDone s = .next (State.finish s.dev u) ∧ u.host.qm.uploads = rest ∧
        u.dev.outbox = s.dev.outbox ++ ps ++ [{
          idx := x.idx, kind := 0x85, err := 0, tag := x.tag, seq := mat 0 s.dev.seqOut x.idx,
          data := (b.take x.len).length, bytes := [] }] ∧
        (ps.flatMap fun r => r.bytes) = b.take x.len ∧ (∀ r ∈ ps, r.kind = 0 ∧ r.idx = x.idx ∧ r.tag = x.tag ∧ r.bytes.length ≤ 3120) ∧
        u.dev.regs = s.dev.regs ∧ u.pending = s.pending

/-- Host records and uploads at the device that executes them. -/
def Obligations.DeviceRecords : Prop := RecordsExecute ∧ UploadsGoOut

/-- The master's queues (R313 to R316, R321, R323, R325, Table 14-1): a doorbell beyond the limit or without a running manager is ignored and
counted, another makes a queue with entries ready; a turn serves the next address from the pointer on, moves the pointer behind it and
sends the entry that HEAD names, or counts an address it cannot serve; a stale record and a completion nobody awaits are discarded and
counted, an awaited one leaves the outstanding records; TIMEOUT answers the oldest of them. -/
def Obligations.MasterServesQueues : Prop :=
  ∀ s : State, s.dev.reachable = true →
    (∀ q : BitVec 20,
      (s.dev.qmRuns = false ∨ 16 * s.dev.fld pQmgr R.QMGR_CTX_LIMIT_DEVICES ≤ q.toNat →
        ∃ u, exec (.qmgrDoorbell q) s = .next (State.finish s.dev u) ∧
          u.dev.fld pQmgr R.QMGR_CNT_A_DB_IGN = min (s.dev.fld pQmgr R.QMGR_CNT_A_DB_IGN + 1) (2 ^ R.QMGR_CNT_A_DB_IGN.w - 1) ∧
          u.dev.fld pQmgr R.QMGR_LAST_ERR_QUEUE = q.toNat ∧ u.dev.fld pQmgr R.QMGR_LAST_ERR_CODE = 0 ∧
          u.onlyRegs s [pQmgr + R.QMGR_CNT_A_DB_IGN.off, pQmgr + R.QMGR_LAST_ERR_QUEUE.off]) ∧
      (∀ (c : Nat) (t : State) (k : QCtx), s.dev.qmRuns = true → q.toNat < 16 * s.dev.fld pQmgr R.QMGR_CTX_LIMIT_DEVICES →
        s.dev.qmFree = some c → s.readCtx c q.toNat = (t, some k) → k.ok = true → q.toNat % 16 < 8 → k.waiting ≠ 0 →
        ∃ u, exec (.qmgrDoorbell q) s = .next (State.finish s.dev u) ∧ u.host.qm.ready = readyAdd q.toNat s.host.qm.ready ∧
          q.toNat ∈ u.host.qm.ready ∧ u.host.mem = s.host.mem ∧ u.pending = s.pending)) ∧
    (s.dev.qmRuns = false ∨ s.host.qm.ready = [] → exec .schedulerTurn s = .next (State.finish s.dev s)) ∧
    (∀ a rest i, s.dev.qmRuns = true → s.turnOrder = a :: rest → s.pickIndex a = some i → i < 8 →
      (s.canServe a i = false → rest = [] →
        ∃ u, exec .schedulerTurn s = .next (State.finish s.dev u) ∧
          u.dev.fld pQmgr R.QMGR_CNT_D_PORT_WAIT = min (s.dev.fld pQmgr R.QMGR_CNT_D_PORT_WAIT + 1) (2 ^ R.QMGR_CNT_D_PORT_WAIT.w - 1) ∧
          u.onlyRegs s [pQmgr + R.QMGR_CNT_D_PORT_WAIT.off]) ∧
      (∀ (c : Nat) (p t f v : State) (k : QCtx) (w : Nat), s.canServe a i = true → s.dev.qmFree = some c →
        p = s.setQm { s.host.qm with ptr := (a + 1) % 2 ^ 16 } → p.readCtx c (16 * a + i) = (t, some k) → k.ok = true → k.waiting ≠ 0 → t.xread c 0 (k.entry k.head) 16 = (f, some w) →
        f.xwrite c 0 2 (f.dev.ctxAt (16 * a + i) + 16) (le 4 (k.wrap (k.head + 1))) = (v, none) → v.dev.route a = some 3 →
        ∃ u, exec .schedulerTurn s = .next (State.finish s.dev u) ∧ u.host.qm.ptr = (a + 1) % 2 ^ 16 ∧ u.host.mem = v.host.mem ∧
          u.host.qm.exec = s.host.qm.exec ++ [{ q := i, desc := BitVec.ofNat 128 w }] ∧
          (k.waiting = 1 → 16 * a + i ∉ u.host.qm.ready) ∧ u.pending = s.pending)) ∧
    (∀ (addr : BitVec 16) (idx : Fin 8) (rec : BitVec 128) (r : OutRec) (q : Nat), r = OutRec.of (8 + idx.val) rec.toNat →
      q = 16 * addr.toNat + 8 + idx.val → s.dev.qmRuns = true →
      (∀ o, mat none s.host.qm.seqLast q = some o → serialNewer r.seq o = false →
        ∃ u, exec (.deviceRecordRx addr idx rec) s = .next (State.finish s.dev u) ∧
          u.dev.fld pQmgr R.QMGR_CNT_B_STALE = min (s.dev.fld pQmgr R.QMGR_CNT_B_STALE + 1) (2 ^ R.QMGR_CNT_B_STALE.w - 1) ∧
          u.dev.flag pQmgr (R.PG_EVT_EVT.bit 2) = true ∧ u.host.mem = s.host.mem ∧ u.host.qm.outst = s.host.qm.outst ∧
          u.host.qm.held = s.host.qm.held ∧ u.pending = s.pending) ∧
      (mat none s.host.qm.seqLast q = none → r.waits = true → r.kind ≠ 0x87 →
        ((s.host.qm.outst.any fun o => o.awaits addr.toNat r.idx r.tag) = false →
          ∃ u, exec (.deviceRecordRx addr idx rec) s = .next (State.finish s.dev u) ∧
            u.dev.fld pQmgr R.QMGR_CNT_B_LATE_RSP = min (s.dev.fld pQmgr R.QMGR_CNT_B_LATE_RSP + 1) (2 ^ R.QMGR_CNT_B_LATE_RSP.w - 1) ∧
            mat none u.host.qm.seqLast q = some r.seq ∧ u.host.mem = s.host.mem ∧ u.host.qm.held = s.host.qm.held ∧
            u.pending = s.pending) ∧
        ((s.host.qm.outst.any fun o => o.awaits addr.toNat r.idx r.tag) = true →
          ∃ u, exec (.deviceRecordRx addr idx rec) s = .next (State.finish s.dev u) ∧ mat none u.host.qm.seqLast q = some r.seq ∧
            u.host.qm.outst = dropFirst (fun o => o.awaits addr.toNat r.idx r.tag) s.host.qm.outst ∧
            (s.dev.qmFree = none → u.host.qm.held = s.host.qm.held ++ [(addr.toNat, r)]) ∧ u.pending = s.pending))) ∧
    (s.host.qm.outst = [] → exec .qmgrTimeout s = .next (State.finish s.dev s)) ∧
    ∀ (o : Outst) (rest : List Outst), s.host.qm.outst = o :: rest →
      ∃ u, exec .qmgrTimeout s = .next (State.finish s.dev u) ∧ u.host.qm.outst = rest ∧
        u.dev.fld pQmgr R.QMGR_CNT_A_TIMEOUT = min (s.dev.fld pQmgr R.QMGR_CNT_A_TIMEOUT + 1) (2 ^ R.QMGR_CNT_A_TIMEOUT.w - 1) ∧
        (s.dev.qmFree = none → o.q < 8 ∨ 16 ≤ o.q → ∃ r : OutRec, u.host.qm.held = s.host.qm.held ++ [(o.addr, r)] ∧ r.kind = 0x86 ∧ r.err = 4 ∧
          r.tag = o.tag ∧ r.idx = cplIndex o.q) ∧ u.pending = s.pending

/-! ### Translation and DMA (R341 to R348) -/

/-- The translation unit (R341 to R343, Table 15-7): it faults with kind 8 while disabled, 9 without the link, 4 beyond the table; a held
translation grants what its entry grants, at the same offset of its page, or faults with kind 3. An invalidation removes the entries of its
range, or all, and shows BUSY until it completes; one more meanwhile is a bad access. A pop removes the head of the fault FIFO. -/
def Obligations.TranslationUnit : Prop :=
  ∀ s : State, s.dev.reachable = true →
    (∀ (a : Nat) (write ok : Bool),
      (s.dev.flag pXlat R.XLAT_CTL_EN = false → s.translate a write ok = (s, .bad 8 (a % 2 ^ 48) false)) ∧
      (s.dev.flag pXlat R.XLAT_CTL_EN = true → s.dev.pins.pcieUp = false → s.translate a write ok = (s, .bad 9 (a % 2 ^ 48) false)) ∧
      (s.dev.flag pXlat R.XLAT_CTL_EN = true → s.dev.pins.pcieUp = true → 2 ^ (21 + s.dev.fld pXlat R.XLAT_L1_CFG_LOG2) ≤ a →
        s.translate a write ok = (s, .bad 4 (a % 2 ^ 48) false)) ∧
      ∀ e, s.dev.flag pXlat R.XLAT_CTL_EN = true → s.dev.pins.pcieUp = true → a < 2 ^ (21 + s.dev.fld pXlat R.XLAT_L1_CFG_LOG2) →
        (s.host.xlat.cache.find? fun e => Nat.ble e.vpage (a / 4096) && Nat.blt (a / 4096) (e.vpage + e.span)) = some e →
        s.translate a write ok = (s, if (if write then e.w else e.r) then
          .phys ((e.ppage + (a / 4096 - e.vpage)) * 4096 + a % 4096) else .bad 3 a false)) ∧
    (s.dev.resets.contains pXlat = false →
      (s.dev.flag pXlat R.XLAT_STAT_INV_BUSY = false →
        (∃ u, exec .xlatInvAll s = .next (State.finish s.dev u) ∧ u.host.xlat.cache = [] ∧
          u.dev.flag pXlat R.XLAT_STAT_INV_BUSY = true ∧
          u.dev.regsBut s.dev [pXlat + R.XLAT_INV_CTL_SIZE.off, pXlat + R.XLAT_STAT_INV_BUSY.off] ∧ u.host.mem = s.host.mem ∧
          u.pending = s.pending) ∧
        ∀ (size : BitVec 6) (lo : Nat),
          lo = (s.dev.fld pXlat R.XLAT_INV_LO_ADDR + s.dev.fld pXlat R.XLAT_INV_HI_ADDR * 2 ^ 20) * 4096 →
          ∃ u, exec (.xlatInvRange size) s = .next (State.finish s.dev u) ∧ u.dev.flag pXlat R.XLAT_STAT_INV_BUSY = true ∧
            (∀ e : XlatEnt, e ∈ u.host.xlat.cache ↔ e ∈ s.host.xlat.cache ∧
              ((e.vpage + e.span) * 4096 ≤ lo ∨ lo + 2 ^ size.toNat ≤ e.vpage * 4096)) ∧ u.host.mem = s.host.mem ∧
            u.pending = s.pending) ∧
      (s.dev.flag pXlat R.XLAT_STAT_INV_BUSY = true →
        ∃ u, exec .xlatInvAll s = .next (State.finish s.dev u) ∧ u.dev.fld pDev R.DEV_BAD_ACC_CNT_COUNT =
          min (s.dev.fld pDev R.DEV_BAD_ACC_CNT_COUNT + 1) (2 ^ R.DEV_BAD_ACC_CNT_COUNT.w - 1) ∧ u.onlyDev s)) ∧
    (∃ u, exec .invalidationComplete s = .next (State.finish s.dev u) ∧ u.dev.flag pXlat R.XLAT_STAT_INV_BUSY = false ∧
      u.onlyRegs s [pXlat + R.XLAT_STAT_INV_BUSY.off]) ∧
    ∃ u, exec .faultFifoPop s = .next (State.finish s.dev u) ∧ u.host.xlat.fifo = s.host.xlat.fifo.drop 1 ∧
      u.dev.fld pXlat R.XLAT_STAT_FIFO_CNT = (s.host.xlat.fifo.length - 1) % 128 ∧
      u.dev.regsBut s.dev [pXlat + R.XLAT_STAT_FIFO_CNT.off] ∧ u.host.mem = s.host.mem ∧ u.pending = s.pending

/-- DMA channels (R344 to R348, Table 15-13): GO starts a transfer that the registers describe well at beat 0, and any other ends in ERROR;
RESUME goes on with a faulted transfer, ABORT ends it, and either is a bad access on a channel that is not faulted; the feed takes a
word while it holds fewer than 256, and ignores and counts one more; a data read not answered stops the channel with kind 7. -/
def Sys2Proof.ChannelsStartAndStop : Prop :=
  ∀ (s : State) (d : Fin 16), s.dev.reachable = true → s.dev.resets.contains (pDma d.val) = false →
    ((s.dev.dmaState d.val = 0 ∨ s.dev.dmaState d.val = 4 ∨ s.dev.dmaState d.val = 5 ∨ s.dev.dmaState d.val = 6) →
      s.dev.dmaClient d.val = 0 → s.dev.dmaOn d.val = true → s.dev.transferOk d.val = true →
      ∃ u, exec (.dmaGo d) s = .next (State.finish s.dev u) ∧ u.dev.dmaState d.val = 1 ∧ u.dev.fld (pDma d.val) R.DMA_BEAT_BEAT = 0 ∧
        u.dev.fld (pDma d.val) R.DMA_DONE_BYTES_BYTES = 0 ∧ u.dev.fld (pDma d.val) R.DMA_STAT_KIND = 0 ∧
        u.dev.regsBut s.dev [pDma d.val + R.DMA_BEAT_BEAT.off, pDma d.val + R.DMA_DONE_BYTES_BYTES.off,
          pDma d.val + R.DMA_STAT_STATE.off] ∧ u.host.mem = s.host.mem ∧ u.pending = s.pending) ∧
    (s.dev.transferOk d.val = false ∨ s.dev.dmaState d.val = 1 ∨ s.dev.dmaState d.val = 2 ∨ s.dev.dmaState d.val = 3 →
      ∃ u, exec (.dmaGo d) s = .next (State.finish s.dev u) ∧ u.dev.dmaState d.val = 6 ∧
        u.dev.regsBut s.dev [pDma d.val + R.DMA_STAT_STATE.off] ∧ u.onlyDev s) ∧
    (s.dev.dmaState d.val = 3 → s.dev.dmaClient d.val = 0 →
      (∃ u, exec (.dmaResume d) s = .next (State.finish s.dev u) ∧ u.dev.dmaState d.val = 1 ∧
        u.dev.fld (pDma d.val) R.DMA_STAT_KIND = 0 ∧ u.dev.regsBut s.dev [pDma d.val + R.DMA_STAT_STATE.off] ∧ u.onlyDev s) ∧
      ∃ u, exec (.dmaAbort d) s = .next (State.finish s.dev u) ∧ u.dev.dmaState d.val = 5 ∧
        u.dev.fld (pDma d.val) R.DMA_STAT_KIND = 0 ∧ (u.dmaSt d.val).chain = false ∧
        u.dev.regsBut s.dev [pDma d.val + R.DMA_STAT_STATE.off] ∧ u.host.mem = s.host.mem ∧ u.pending = s.pending) ∧
    (s.dev.dmaState d.val ≠ 3 → ∀ x ∈ [Instr.dmaResume d, Instr.dmaAbort d],
      ∃ u, exec x s = .next (State.finish s.dev u) ∧ u.dev.dmaState d.val = s.dev.dmaState d.val ∧
        u.dev.fld pDev R.DEV_BAD_ACC_CNT_COUNT =
          min (s.dev.fld pDev R.DEV_BAD_ACC_CNT_COUNT + 1) (2 ^ R.DEV_BAD_ACC_CNT_COUNT.w - 1) ∧
        u.dev.regsBut s.dev [pDev + R.DEV_BAD_ACC_CNT_COUNT.off] ∧ u.onlyDev s) ∧
    (∀ w : Word,
      ((s.dmaSt d.val).feed.length < 256 →
        ∃ u, exec (.dmaFeed d w) s = .next (State.finish s.dev u) ∧ (u.dmaSt d.val).feed = (s.dmaSt d.val).feed ++ [w] ∧
          u.dev.fld (pDma d.val) R.DMA_STAT_FEED_SPACE = 255 - (s.dmaSt d.val).feed.length ∧
          (∀ k, k ≠ d.val → u.dmaSt k = s.dmaSt k) ∧ u.dev.regsBut s.dev [pDma d.val + R.DMA_STAT_FEED_SPACE.off] ∧
          u.host.mem = s.host.mem ∧ u.pending = s.pending) ∧
      (256 ≤ (s.dmaSt d.val).feed.length →
        ∃ u, exec (.dmaFeed d w) s = .next (State.finish s.dev u) ∧ u.dmaSt d.val = s.dmaSt d.val ∧
          u.dev.fld (pDma d.val) R.DMA_CNT_DROP = min (s.dev.fld (pDma d.val) R.DMA_CNT_DROP + 1) (2 ^ R.DMA_CNT_DROP.w - 1) ∧
          u.dev.regsBut s.dev [pDma d.val + R.DMA_CNT_DROP.off] ∧ u.onlyDev s)) ∧
    ∀ a : Nat, s.dev.dmaOn d.val = true → s.dev.dmaClient d.val = 0 → (s.dev.dmaState d.val = 1 ∨ s.dev.dmaState d.val = 2) →
      (s.dmaSt d.val).chain = false → dmaRegion (s.dev.dmaSrc d.val + s.dev.fld (pDma d.val) R.DMA_DONE_BYTES_BYTES) = .host a →
      ∃ u, exec (.dataReadTimeout d) s = .next (State.finish s.dev u) ∧ u.dev.dmaState d.val = 3 ∧
        u.dev.fld (pDma d.val) R.DMA_STAT_KIND = 7 ∧ u.dev.flag (pDma d.val) (R.PG_EVT_EVT.bit 1) = true ∧
        (s.host.xlat.fifo.length < 64 → ∃ e, u.host.xlat.fifo = s.host.xlat.fifo ++ [e] ∧ e.toNat % 2 ^ 48 = a % 2 ^ 48 ∧
          e.toNat / 2 ^ 48 % 16 = 7 ∧ e.toNat / 2 ^ 54 % 16 = d.val) ∧
        (64 ≤ s.host.xlat.fifo.length → u.host.xlat.fifo = s.host.xlat.fifo ∧ u.dev.flag pXlat R.XLAT_STAT_FIFO_OVF = true) ∧
        u.host.mem = s.host.mem ∧ u.pending = s.pending

/-- A beat (R345 to R348): with no channel asking nothing happens; the granted DESC channel runs one beat and the others that asked show
PREEMPTED; a beat from the feed to a bench memory writes there the bytes the feed holds, counts itself and its bytes, and the last one ends
the transfer; a beat whose host source is not translated writes nothing and stops the channel with the kind of the fault. -/
def Sys2Proof.BeatsMoveData : Prop :=
  ∀ (s : State) (r : ReadResult), s.dev.reachable = true →
    (s.grant = none → exec (.dmaBeat r) s = .next (State.finish s.dev s)) ∧
    ∀ c : Nat, s.grant = some c → s.dev.dmaClient c = 0 → (s.dmaSt c).chain = false →
      (∀ b off : Nat, dmaRegion (s.dev.dmaSrc c) = .feed → dmaRegion (s.dev.dmaDst c) = .bench b off →
        ∃ u, exec (.dmaBeat r) s = .next (State.finish s.dev u) ∧
          (∀ i, i < s.dev.beatBytes c →
            u.dev.benchByte b (off + s.dev.fld (pDma c) R.DMA_DONE_BYTES_BYTES + i) =
              ((s.dmaSt c).feed.flatMap fun w => le 4 w.toNat).getD (s.dev.fld (pDma c) R.DMA_DONE_BYTES_BYTES % 4 + i) 0) ∧
          u.dev.fld (pDma c) R.DMA_DONE_BYTES_BYTES =
            (s.dev.fld (pDma c) R.DMA_DONE_BYTES_BYTES + s.dev.beatBytes c) % 2 ^ R.DMA_DONE_BYTES_BYTES.w ∧
          u.dev.fld (pDma c) R.DMA_BEAT_BEAT = (s.dev.fld (pDma c) R.DMA_BEAT_BEAT + 1) % 2 ^ R.DMA_BEAT_BEAT.w ∧
          (s.dev.fld (pDma c) R.DMA_LEN_LEN ≤ s.dev.fld (pDma c) R.DMA_DONE_BYTES_BYTES + s.dev.beatBytes c →
            s.dev.flag (pDma c) R.DMA_FLAGS_CHAIN = false → u.dev.dmaState c = 4) ∧
          (s.dev.fld (pDma c) R.DMA_DONE_BYTES_BYTES + s.dev.beatBytes c < s.dev.fld (pDma c) R.DMA_LEN_LEN → u.dev.dmaState c = 1) ∧
          (∀ e, e < 16 → e ≠ c → s.wantsBeat e = true → u.dev.dmaState e = 2) ∧ u.host.turn = c ∧ u.host.mem = s.host.mem ∧
          u.pending = s.pending) ∧
      (s.dev.dmaSrc c + s.dev.fld (pDma c) R.DMA_DONE_BYTES_BYTES < 2 ^ 63 → s.dev.flag pXlat R.XLAT_CTL_EN = false →
        ∃ u, exec (.dmaBeat r) s = .next (State.finish s.dev u) ∧ u.dev.dmaState c = 3 ∧ u.dev.fld (pDma c) R.DMA_STAT_KIND = 8 ∧
          u.dev.fld (pDma c) R.DMA_DONE_BYTES_BYTES = s.dev.fld (pDma c) R.DMA_DONE_BYTES_BYTES ∧ u.host.mem = s.host.mem ∧
          u.dev.bench = s.dev.bench ∧ u.pending = s.pending)

/-- DMA channels start, stop, and move beats. -/
def Obligations.DmaChannels : Prop := ChannelsStartAndStop ∧ BeatsMoveData

/-! ### Fault collection and interrupts (R350 to R366) -/

/-- The event sources of a page (R351): PG_CAP.SRC is the first, and covers all PG_EVT bits but the one the second covers: bit 31, and in ENG
pages bit 2. A rise of a bit is a rise of the source that covers it. -/
def Obligations.EventSourcesOfPages : Prop :=
  ∀ (s : State) (pg bit : Nat) (p : PageDef) (second : Bool), pageDefAt pg = some p → offOf p pg = 0 → bit < 32 →
    second = (if p.blk = .eng then bit == 2 else bit == 31) →
    evtSource pg bit = some (R.PG_CAP_SRC.get (s.live p pg R.PG_CAP_SRC.off) + second.toNat) ∧
      (secondSourceMask p.blk).testBit bit = second ∧ (firstSourceMask p.blk).testBit bit = !second

/-- A failing check that loses no data of its own: all it does is raise its source (Table 16-2). -/
def Sys2Proof.losesNothing (f : Nat) : Bool :=
  !(decide (16 ≤ f ∧ f < 112 ∧ f % 8 = 1) || decide (152 ≤ f ∧ f < 176 ∧ (f % 8 = 3 ∨ f % 8 = 5)) ||
    [5, 9, 10, 115, 120, 124, 128, 130, 144, 178, 179, 184, 202, 208].contains f)

/-- Checkers that fail in one cycle (R354, R364, R365): each raises its source in its page, in their order; an injected failure acts only
where an injection is armed, which a single one disarms and shows in DONE; a source that its page does not have never sets. -/
def Sys2Proof.CheckersRaiseSources : Prop :=
  ∀ s : State, s.dev.reachable = true →
    (∀ fs : List FaultHit, (∀ x ∈ fs, sourceAt x.src.toNat (0x1000 * x.page.toNat) = true ∧ losesNothing x.src.toNat = true ∧ x.inj = false) →
      ∃ u, exec (.faultRaise fs) s = .next (State.finish s.dev u) ∧
        u.dev.wires.faults = s.dev.wires.faults ++ fs.map (fun x => { src := x.src.toNat, page := 0x1000 * x.page.toNat, inj := false }) ∧
        u.onlyRegs s []) ∧
    ∀ x : FaultHit,
      (sourceAt x.src.toNat (0x1000 * x.page.toNat) = false ∨
          x.inj = true ∧ s.dev.fld (0x1000 * x.page.toNat) R.PG_FLT_INJ_MODE = 0 →
        exec (.faultRaise [x]) s = .next (State.finish s.dev s)) ∧
      (sourceAt x.src.toNat (0x1000 * x.page.toNat) = true → losesNothing x.src.toNat = true → x.inj = true →
        s.dev.fld (0x1000 * x.page.toNat) R.PG_FLT_INJ_MODE ≠ 0 → s.dev.flag (0x1000 * x.page.toNat) R.PG_FLT_INJ_CONT = false →
        ∃ u, exec (.faultRaise [x]) s = .next (State.finish s.dev u) ∧
          u.dev.wires.faults = s.dev.wires.faults ++ [{ src := x.src.toNat, page := 0x1000 * x.page.toNat, inj := true }] ∧
          u.dev.fld (0x1000 * x.page.toNat) R.PG_FLT_INJ_MODE = 0 ∧ u.dev.flag (0x1000 * x.page.toNat) R.PG_FLT_INJ_DONE = true ∧
          u.onlyRegs s [0x1000 * x.page.toNat + R.PG_FLT_INJ_DONE.off])

/-- Marking and recording a fault (R354, R358, R362, R365, R371): the PG_FLT bit of its page sets, FAULT_CNT and the recorder count it and
LAST_SRC names it, an injected one counts in INJ; a free first-fault record takes the lowest source of the highest class of the cycle with the
lowest page that raised it, and a valid record stays as it is. -/
def Sys2Proof.FaultsAreRecorded : Prop :=
  (∀ (d : Dev) (x : FaultSig) (r : FaultRow), faultRow x.src = some r → x.page % 0x1000 = 0 →
    (d.faultMark x).flag x.page (R.PG_FLT_FLT.bit r.bit) = true ∧
      (d.faultMark x).fld pFault (fCnt x.src) = min (d.fld pFault (fCnt x.src) + 1) 255 ∧
      (d.faultMark x).fld pFault R.FAULT_STAT_LAST_SRC = x.src ∧
      mat 0 (d.faultMark x).rcd.live.ctrs x.src = min (mat 0 d.rcd.live.ctrs x.src + 1) 0xFFFFFFFF ∧
      (d.faultMark x).fld pFault R.FAULT_CNT_X_INJ = (if x.inj then min (d.fld pFault R.FAULT_CNT_X_INJ + 1) 0xFFFF
        else d.fld pFault R.FAULT_CNT_X_INJ)) ∧
    ∀ (d : Dev) (xs : List FaultSig) (b : Nat), b < 32 →
      (d.flag pFault (R.FAULT_BLK_VALID b) = true → d.firstFault xs b = d) ∧
      (d.flag pFault (R.FAULT_BLK_VALID b) = false → (∀ x ∈ xs, x.src < 256 ∧ x.page < 0x4000000) → (∃ x ∈ xs, x.src / 8 = b) →
        ∃ x ∈ xs, x.src / 8 = b ∧ (d.firstFault xs b).fld pFault (R.FAULT_BLK_FIRST_SRC b) = x.src ∧
          (d.firstFault xs b).fld pFault (R.FAULT_BLK_FIRST_PAGE b) = pageNo x.page ∧
          (d.firstFault xs b).fld pFault (R.FAULT_BLK_FIRST_CLASS b) = d.faultClass x.src ∧
          (d.firstFault xs b).flag pFault (R.FAULT_BLK_VALID b) = true ∧
          (∀ y ∈ xs, y.src / 8 = b → d.faultClass y.src ≤ d.faultClass x.src) ∧
          (∀ y ∈ xs, y.src / 8 = b → d.faultClass y.src = d.faultClass x.src → x.src ≤ y.src) ∧
          (∀ y ∈ xs, y.src = x.src → x.page ≤ y.page) ∧
          (d.firstFault xs b).regsBut d [pFault + (R.FAULT_BLK_VALID b).off, pFault + (R.FAULT_BLK_T_TICK b).off])

/-- One cycle of a single fault of a block (R357 to R361): while a reaction of its block is in progress it is merged and no reaction starts;
else, when its sticky bit rises, a set of level 2 asserts ERR_N, one of level 3 sets V0, and one of level 5 puts the chip in
reset; a bit that already stands starts nothing. -/
def Sys2Proof.ReactionsStart : Prop :=
  ∀ (s : State) (x : FaultSig) (r : FaultRow), s.dev.reachable = true → faultRow x.src = some r → x.page % 0x1000 = 0 →
    ¬(16 ≤ x.src ∧ x.src < 112 ∧ x.src % 8 = 5) →
    (s.dev.reacting (x.src / 8) = true →
      (s.faultCycle [x]).dev.flag pFault (R.FAULT_BLK_MERGED (x.src / 8)) = true ∧
        (s.faultCycle [x]).dev.fld pFault R.FAULT_STAT_ERR_N = s.dev.fld pFault R.FAULT_STAT_ERR_N ∧
        (s.faultCycle [x]).dev.fld pIrq R.IRQ_STAT_V0 = s.dev.fld pIrq R.IRQ_STAT_V0 ∧
        (s.faultCycle [x]).dev.eng = s.dev.eng ∧ (s.faultCycle [x]).dev.pins = s.dev.pins ∧ (s.faultCycle [x]).onlyDev s) ∧
      (s.dev.reacting (x.src / 8) = false →
        (s.dev.sticky x.src = true →
          (s.faultCycle [x]).dev.fld pFault R.FAULT_STAT_ERR_N = s.dev.fld pFault R.FAULT_STAT_ERR_N ∧
            (s.faultCycle [x]).dev.fld pIrq R.IRQ_STAT_V0 = s.dev.fld pIrq R.IRQ_STAT_V0 ∧ (s.faultCycle [x]).dev.pins = s.dev.pins) ∧
        (s.dev.sticky x.src = false →
          (reactLevel (s.dev.reactSet x.src) = 2 → (s.faultCycle [x]).dev.flag pFault R.FAULT_STAT_ERR_N = true ∧
            (s.faultCycle [x]).dev.pins = s.dev.pins) ∧
          (reactLevel (s.dev.reactSet x.src) = 3 → (s.faultCycle [x]).dev.flag pIrq R.IRQ_STAT_V0 = true) ∧
          (reactLevel (s.dev.reactSet x.src) = 5 → s.dev.pins.refHold = false →
            (s.faultCycle [x]).dev.pins.chipHold = true ∧ (s.faultCycle [x]).dev.pins.cause = 4)))

/-- A cycle of failing checks is recorded, and its reactions start. -/
def Obligations.FaultCycles : Prop := FaultsAreRecorded ∧ ReactionsStart

/-- The registers of faults and interrupts (R352, R358, R362, R363): IRQ_ACK arms its vector; ERR_ACK releases ERR_N unless a fault that
asserts it stands, and is else counted; a 1 in FAULT_STICKY clears its source in every page where it stands; clearing VALID empties the record
and keeps ACTIVE. -/
def Sys2Proof.FaultRegisters : Prop :=
  ∀ s : State, s.dev.reachable = true →
    (∀ v : BitVec 6, s.dev.resets.contains pIrq = false →
      ∃ u, exec (.irqAck v) s = .next (State.finish s.dev u) ∧ u.dev.flag pIrq (fArmed v.toNat) = true ∧
        u.onlyRegs s [pIrq + (fArmed v.toNat).off]) ∧
    (s.dev.resets.contains pFault = false →
      ((∀ x ∈ s.dev.standingFaults, (s.dev.reactSet x.1).testBit 1 = false) →
        ∃ u, exec .errAck s = .next (State.finish s.dev u) ∧ u.dev.flag pFault R.FAULT_STAT_ERR_N = false ∧
          u.onlyRegs s [pFault + R.FAULT_STAT_ERR_N.off]) ∧
      ((∃ x ∈ s.dev.standingFaults, (s.dev.reactSet x.1).testBit 1 = true) →
        ∃ u, exec .errAck s = .next (State.finish s.dev u) ∧
          u.dev.fld pFault R.FAULT_CNT_X_ACK_REF = min (s.dev.fld pFault R.FAULT_CNT_X_ACK_REF + 1) 0xFFFF ∧
          u.onlyRegs s [pFault + R.FAULT_CNT_X_ACK_REF.off]) ∧
      (∀ (w : Fin 8) (bits : Word), ∃ u, exec (.faultStickyClear w bits) s = .next (State.finish s.dev u) ∧
        (∀ x ∈ s.dev.standingFaults, ∀ r, faultRow x.1 = some r → x.1 / 32 = w.val → bits.getLsbD (x.1 % 32) = true →
          u.dev.flag x.2 (R.PG_FLT_FLT.bit r.bit) = false) ∧
        u.onlyRegs s (s.dev.standingFaults.map fun x => x.2 + R.PG_FLT_FLT.off)) ∧
      ∀ b : Fin 32, ∃ u, exec (.faultRecordClear b) s = .next (State.finish s.dev u) ∧
        u.dev.flag pFault (R.FAULT_BLK_VALID b.val) = false ∧ u.dev.fld pFault (R.FAULT_BLK_FIRST_SRC b.val) = 0 ∧
        u.dev.flag pFault (R.FAULT_BLK_MERGED b.val) = false ∧
        u.dev.flag pFault (R.FAULT_BLK_ACTIVE b.val) = s.dev.flag pFault (R.FAULT_BLK_ACTIVE b.val) ∧
        u.dev.fld pFault (R.FAULT_BLK_T_TICK b.val) = 0 ∧
        u.onlyRegs s [pFault + (R.FAULT_BLK_VALID b.val).off, pFault + (R.FAULT_BLK_T_TICK b.val).off])

/-- Checkers raise their sources, and the host acknowledges and clears. -/
def Obligations.FaultsAndAcknowledgement : Prop := CheckersRaiseSources ∧ FaultRegisters

/-! ### The event recorder (R367 to R386) -/

/-- Time and flushes (R367, R371, R376, R377, R383): an operating second passes in STANDBY and above; the host's counter advances; FLUSH
freezes what is live in the shadow and begins with the next slot; each good operation goes on to the next, and the last commits the snapshot and
its SEQ; a mismatch or a time-out is a log memory failure with its cause, and the shadow is given up; a deferred fault flush starts when
FAULT_GAP has passed. -/
def Obligations.RecorderFlushes : Prop :=
  ∀ s : State,
    (s.dev.fld pDev R.DEV_PWR_EFF = 0 → exec .operatingSecond s = .next (State.finish s.dev s)) ∧
    (s.dev.fld pDev R.DEV_PWR_EFF ≠ 0 → s.dev.pins.porHold = false →
      ∃ u, exec .operatingSecond s = .next (State.finish s.dev u) ∧ u.dev.rcd.secs = s.dev.rcd.secs + 1 ∧
        u.dev.fld pRec R.REC_TIME_LO_SEC = (s.dev.rcd.secs + 1) % 2 ^ 40 % 2 ^ 32 ∧ u.dev.front = s.dev.front ∧ u.onlyDev s) ∧
    (∀ c : BitVec 4, s.dev.reachable = true → s.dev.resets.contains pRec = false →
      ∃ u, exec (.recHostInc c) s = .next (State.finish s.dev u) ∧
        mat 0 u.dev.rcd.live.ctrs (992 + c.toNat) = min (mat 0 s.dev.rcd.live.ctrs (992 + c.toNat) + 1) 0xFFFFFFFF ∧
        (∀ k, k ≠ 992 + c.toNat → mat 0 u.dev.rcd.live.ctrs k = mat 0 s.dev.rcd.live.ctrs k) ∧ u.dev.regsBut s.dev [] ∧ u.onlyDev s) ∧
    (s.dev.reachable = true → s.dev.resets.contains pRec = false → s.dev.flag pPin R.PIN_STRAP_TEST = false →
      s.dev.flag pRec R.PG_CTL_EN = true → s.dev.fld pRec R.REC_STAT_STATE = 1 →
      ∃ (u : State) (x : Snapshot), exec .flush s = .next (State.finish s.dev u) ∧ u.dev.rcd.shadow = some x ∧ x.commit = false ∧
        x.reason = 2 ∧ x.seq = (s.dev.fld pRec R.REC_SEQ_SEQ + 1) % 2 ^ 32 ∧ x.hist = s.dev.rcd.live ∧ u.dev.rcd.live = s.dev.rcd.live ∧
        u.dev.fld pRec R.REC_STAT_STATE = 2 ∧ u.dev.rcd.stage = 1 ∧ u.dev.regsBut s.dev [pRec + R.REC_STAT_STATE.off] ∧ u.onlyDev s) ∧
    (s.dev.pins.held = false → s.dev.rcd.erasing = false → s.dev.rcd.adopt = false →
      (1 ≤ s.dev.rcd.stage → s.dev.rcd.stage ≤ 3 →
        ∃ u, exec (.flashOperationDone .good) s = .next (State.finish s.dev u) ∧ u.dev.rcd.stage = s.dev.rcd.stage + 1 ∧
          u.dev.rcd.shadow = s.dev.rcd.shadow ∧ u.dev.flash = s.dev.flash ∧ u.dev.regsBut s.dev [] ∧ u.onlyDev s) ∧
      (∀ x, s.dev.rcd.stage = 4 → s.dev.rcd.shadow = some x → s.dev.rcd.queued = none → s.dev.flag pRec R.REC_STAT_TAIL_READY = true →
        ∃ u, exec (.flashOperationDone .good) s = .next (State.finish s.dev u) ∧
          mat none u.dev.flash.snaps ((s.dev.rcd.slot + 1) % max 1 s.dev.flash.n) = some { x with commit := true } ∧
          u.dev.fld pRec R.REC_SEQ_SEQ = x.seq % 2 ^ 32 ∧ u.dev.fld pRec R.REC_STAT_STATE = 1 ∧ u.dev.rcd.shadow = none ∧
          u.dev.flag pRec (R.PG_EVT_EVT.bit 0) = true ∧ u.dev.rcd.slot = (s.dev.rcd.slot + 1) % max 1 s.dev.flash.n ∧ u.onlyDev s) ∧
      (∀ x ∈ [(1, Instr.flashOperationDone .mismatch), (2, Instr.flashTimeout)], 1 ≤ s.dev.rcd.stage → s.dev.rcd.stage ≤ 4 →
        s.dev.rcd.queued = none → s.dev.flag pRec R.REC_STAT_TAIL_READY = true →
        ∃ u, exec x.2 s = .next (State.finish s.dev u) ∧ u.dev.fld pRec R.REC_STAT_CAUSE = x.1 ∧
          u.dev.fld pRec R.REC_STAT_STATE = 1 ∧ u.dev.rcd.shadow = none ∧ u.dev.rcd.stage = 0 ∧
          { src := 200, page := pRec, inj := false } ∈ u.dev.wires.faults ∧ u.dev.fld pRec R.REC_SEQ_SEQ = s.dev.fld pRec R.REC_SEQ_SEQ ∧
          u.dev.rcd.slot = (s.dev.rcd.slot + 1) % max 1 s.dev.flash.n ∧ u.onlyDev s)) ∧
    (s.dev.reachable = true →
      (s.dev.rcd.deferred = none → exec .faultGapExpiry s = .next (State.finish s.dev s)) ∧
      ∀ (f t : Nat), s.dev.rcd.deferred = some f → s.dev.rcd.lastFault = some t →
        t + 60 * s.dev.fld pRec R.REC_CFG_FAULT_GAP ≤ s.dev.rcd.secs → s.dev.flag pPin R.PIN_STRAP_TEST = false →
        s.dev.flag pRec R.PG_CTL_EN = true → s.dev.fld pRec R.REC_STAT_STATE = 1 →
        ∃ (u : State) (x : Snapshot), exec .faultGapExpiry s = .next (State.finish s.dev u) ∧ u.dev.rcd.deferred = none ∧
          u.dev.rcd.shadow = some x ∧ x.reason = 1 ∧ x.source = f ∧ u.dev.fld pRec R.REC_STAT_STATE = 2 ∧ u.onlyDev s)

/-- Power failure and clearing (R378, R380 to R382, R395): PFAIL_N with a tail slot ready gives up a flush and begins the tail, and without one
is a missed tail; its release lets the recorder go on. CLEAR and ADOPT are refused while LOCKED, in a wrong STATE and with a wrong token, each
with its code and a counted event; an accepted CLEAR empties what its scope names, logs itself and forces a flush, and an accepted ADOPT
leaves one entry in the log. -/
def Obligations.PowerFailureAndClearing : Prop :=
  ∀ s : State,
    (s.dev.pins.held = false → s.dev.flag pPin R.PIN_STRAP_TEST = false →
      (s.dev.fld pRec R.REC_STAT_STATE = 1 ∨ s.dev.fld pRec R.REC_STAT_STATE = 2 → s.dev.flag pRec R.REC_STAT_TAIL_READY = true →
        ∃ (u : State) (t : TailRec), exec .pfailAssert s = .next (State.finish s.dev u) ∧ u.dev.pins = { s.dev.pins with pfailN := false } ∧
          u.dev.rcd.tail = some t ∧ t.secs = s.dev.seconds ∧ t.snapSeq = s.dev.fld pRec R.REC_SEQ_SEQ ∧ u.dev.rcd.shadow = none ∧
          u.dev.rcd.stage = 5 ∧ u.dev.fld pRec R.REC_STAT_STATE = 3 ∧ u.dev.flag pRec R.REC_STAT_TAIL_READY = false ∧
          mat 0 u.dev.rcd.live.ctrs 1020 = min (mat 0 s.dev.rcd.live.ctrs 1020 + 1) 0xFFFFFFFF ∧ u.dev.flash = s.dev.flash ∧
          u.dev.regsBut s.dev [pRec + R.REC_STAT_STATE.off] ∧ u.onlyDev s) ∧
      (s.dev.flag pRec R.REC_STAT_TAIL_READY = false →
        ∃ u, exec .pfailAssert s = .next (State.finish s.dev u) ∧ u.dev.pins = { s.dev.pins with pfailN := false } ∧
          mat 0 u.dev.rcd.live.ctrs 1009 = min (mat 0 s.dev.rcd.live.ctrs 1009 + 1) 0xFFFFFFFF ∧
          { src := 203, page := pRec, inj := false } ∈ u.dev.wires.faults ∧ u.dev.regsBut s.dev [] ∧ u.onlyDev s)) ∧
    (∃ u, exec .pfailRelease s = .next (State.finish s.dev u) ∧ u.dev.pins = { s.dev.pins with pfailN := true } ∧
      (s.dev.rcd.stage = 5 ∨ s.dev.rcd.stage = 6 → u.dev.rcd = s.dev.rcd ∧ u.dev.regsBut s.dev []) ∧ u.onlyDev s) ∧
    (∀ scope : BitVec 3, s.dev.reachable = true → s.dev.resets.contains pRec = false →
      (∀ x ∈ [Instr.clear scope, Instr.adopt scope],
        (s.dev.flag pRec R.REC_STAT_LOCKED = true →
          ∃ u, exec x s = .next (State.finish s.dev u) ∧ u.dev.fld pRec R.REC_STAT_CLR_RESULT = 7 ∧
            u.dev.flag pRec (R.PG_EVT_EVT.bit 4) = true ∧ u.dev.rcd.live = s.dev.rcd.live ∧ u.onlyDev s) ∧
        (s.dev.flag pRec R.REC_STAT_LOCKED = false →
          s.dev.fld pRec R.REC_STAT_STATE ∉ (if x = .adopt scope then [5] else [1, 2]) →
          ∃ u, exec x s = .next (State.finish s.dev u) ∧ u.dev.fld pRec R.REC_STAT_CLR_RESULT = 6 ∧
            u.dev.rcd.live = s.dev.rcd.live ∧ u.onlyDev s) ∧
        (s.dev.flag pRec R.REC_STAT_LOCKED = false →
          s.dev.fld pRec R.REC_STAT_STATE ∈ (if x = .adopt scope then [5] else [1, 2]) → s.dev.tokenWritten ≠ s.dev.token →
          ∃ u, exec x s = .next (State.finish s.dev u) ∧ u.dev.fld pRec R.REC_STAT_CLR_RESULT = 3 ∧
            mat 0 u.dev.rcd.live.ctrs 1017 = min (mat 0 s.dev.rcd.live.ctrs 1017 + 1) 0xFFFFFFFF ∧
            (u.dev.flag pRec R.REC_STAT_LOCKED = true ↔ 8 ≤ s.dev.rcd.refusedTok + 1) ∧
            u.dev.rcd.live.bins = s.dev.rcd.live.bins ∧ u.dev.rcd.live.ext = s.dev.rcd.live.ext ∧
            u.dev.rcd.live.log = s.dev.rcd.live.log ∧ u.onlyDev s)) ∧
      (s.dev.flag pRec R.REC_STAT_LOCKED = false → s.dev.tokenWritten = s.dev.token →
        ((s.dev.fld pRec R.REC_STAT_STATE = 1 ∨ s.dev.fld pRec R.REC_STAT_STATE = 2) → scope.toNat ≠ 0 → s.dev.rcd.live.log.length < 48 →
          ∃ u, exec (.clear scope) s = .next (State.finish s.dev u) ∧
            u.dev.rcd.live.bins = (if scope.toNat.testBit 0 then [] else s.dev.rcd.live.bins) ∧
            u.dev.rcd.live.ext = (if scope.toNat.testBit 1 then [] else s.dev.rcd.live.ext) ∧
            (scope.toNat.testBit 2 = true → ∀ k, k < 1016 → mat 0 u.dev.rcd.live.ctrs k = 0) ∧
            (∃ e : ClearLog, u.dev.rcd.live.log = s.dev.rcd.live.log ++ [e] ∧ e.scope = scope.toNat ∧ e.adoption = false ∧
              e.secs = s.dev.seconds) ∧
            mat 0 u.dev.rcd.live.ctrs 1016 = min (mat 0 s.dev.rcd.live.ctrs 1016 + 1) 0xFFFFFFFF ∧
            u.dev.fld pRec R.REC_STAT_CLR_RESULT = 1 ∧ u.onlyDev s) ∧
        (s.dev.fld pRec R.REC_STAT_STATE = 5 →
          ∃ u, exec (.adopt scope) s = .next (State.finish s.dev u) ∧
            (∃ e : ClearLog, u.dev.rcd.live.log = [e] ∧ e.adoption = true ∧ e.secs = s.dev.seconds) ∧
            mat 0 u.dev.rcd.live.ctrs 1018 = min (mat 0 s.dev.rcd.live.ctrs 1018 + 1) 0xFFFFFFFF ∧ u.dev.rcd.adopt = true ∧
            u.dev.fld pRec R.REC_STAT_CLR_RESULT = 1 ∧ u.onlyDev s)))

/-! ### The observation port and the test access port (R387 to R394) -/

/-- Packets and performance counters (R388, R389, R391, R392): a packet boundary of an enabled port sends 24 bytes, with the next SEQ and
their CRC: a SYNC packet first, then TIME, GAP, TRACE, COUNTER, and IDLE when nothing waits; FREEZE stops the counters and FROZEN shows it;
CLEAR puts them all to zero. -/
def Obligations.PacketsAndCounters : Prop :=
  ∀ s : State, s.dev.reachable = true →
    (s.dev.flag pObs R.PG_CTL_EN = false → exec .obsPacketSlot s = .next (State.finish s.dev s)) ∧
    (s.dev.flag pObs R.PG_CTL_EN = true → s.dev.obs.seq < 2 ^ 16 →
      ∃ (u : State) (typ source : Nat) (body : List Nat), exec .obsPacketSlot s = .next (State.finish s.dev u) ∧
        u.dev.obs.packet = [typ, source] ++ le 2 s.dev.obs.seq ++ padTo 16 body ++
          le 4 (crc32c ([typ, source] ++ le 2 s.dev.obs.seq ++ padTo 16 body)) ∧
        u.dev.obs.packet.length = 24 ∧ u.dev.obs.seq = (s.dev.obs.seq + 1) % 2 ^ 16 ∧ u.dev.obs.ctrs = s.dev.obs.ctrs ∧
        typ = (if s.dev.obs.seq % 256 = 0 then 0x5A
          else if s.dev.obs.timeDue && s.dev.flag pObs R.OBS_CTL_TIME_EN then 3
          else if s.dev.obs.dropped ≠ 0 then 4
          else if s.dev.obs.fifo ≠ [] then 1 else if s.dev.obs.sweep.isSome then 2 else 0) ∧
        (∀ e rec rest, typ = 1 → s.dev.obs.fifo = (e, rec) :: rest →
          source = e ∧ body = le 16 rec.toNat ∧ u.dev.obs.fifo = rest) ∧
        (∀ c, typ = 2 → s.dev.obs.sweep = some c →
          body = le 2 c ++ le 6 (s.dev.perfAt c) ++ le 4 (s.dev.frame.tick + s.dev.frame.frame % 512 * 2 ^ 23) ∧
          u.dev.obs.sweep = if c < s.dev.fld pObs R.OBS_CNT_RANGE_LAST then some (c + 1) else none) ∧
        u.dev.regsBut s.dev [pObs + R.OBS_STAT_FIFO_LVL.off] ∧ u.onlyDev s) ∧
    (s.dev.resets.contains pObs = false →
      (∀ x ∈ [(true, Instr.counterFreeze), (false, Instr.counterUnfreeze)],
        ∃ u, exec x.2 s = .next (State.finish s.dev u) ∧ u.dev.flag pObs R.OBS_STAT_FROZEN = x.1 ∧
          u.dev.flag pObs R.OBS_PC_CTL_FREEZE = x.1 ∧ (x.1 = true → ∀ c n, (u.dev.perf c n).obs = u.dev.obs) ∧
          u.onlyRegs s [pObs + R.OBS_STAT_FROZEN.off, pObs + R.OBS_PC_CTL_FREEZE.off]) ∧
      ∃ u, exec .counterClear s = .next (State.finish s.dev u) ∧ (∀ c, mat 0 u.dev.obs.ctrs c = 0) ∧
        u.dev.obs = { s.dev.obs with ctrs := [] } ∧
        u.dev.regsBut s.dev [pObs + R.OBS_STAT_FROZEN.off, pObs + R.OBS_PC_CTL_FREEZE.off] ∧ u.onlyDev s)

/-- The test access port (R394): with the TEST strap high each instruction is loaded, in reset as well; EXTEST and CLAMP
drive the pins from the boundary register, HIGHZ releases them, SAMPLE takes the pins' levels or the loaded values, IDCODE and JTAG_TRST_N
select the identity; with the strap low every one is ignored. -/
def Obligations.TestAccessPort : Prop :=
  ∀ (s : State) (load : Option (List Bool)),
    (s.dev.flag pPin R.PIN_STRAP_TEST = false →
      ∀ c ∈ [Instr.bypass, .idcode, .samplePreload load, .extest, .jtagClamp, .highz, .jtagTrstNAssert],
        exec c s = .next (State.finish s.dev s)) ∧
    (s.dev.flag pPin R.PIN_STRAP_TEST = true →
      ∀ c ∈ [(Instr.bypass, { s.dev.jtag with ir := 0xFF, drive := false, highz := false }),
          (.idcode, { s.dev.jtag with ir := 0x01, drive := false, highz := false, shift := idcode }),
          (.samplePreload load, { s.dev.jtag with ir := 0x02, drive := false, highz := false, boundary := load.getD s.dev.pinLevels }),
          (.extest, { s.dev.jtag with ir := 0x03, drive := true, highz := false }),
          (.jtagClamp, { s.dev.jtag with ir := 0x04, drive := true, highz := false }),
          (.highz, { s.dev.jtag with ir := 0x05, drive := false, highz := true }),
          (.jtagTrstNAssert, { s.dev.jtag with ir := 0x01, drive := false, highz := false, shift := idcode })],
        ∃ u, exec c.1 s = .next (State.finish s.dev u) ∧ u = { s with dev := { s.dev with jtag := c.2 } }) ∧
    idcode.toNat % 2 = 1 ∧ idcode.toNat / 2 ^ 12 % 2 ^ 16 = 0x7192 ∧ idcode.toNat / 2 % 2 ^ 11 = Config.jep106.toNat
end

