-- ==== Sys2Proof/Laws/Map.lean ====
section
/-! SUPPORT. The laws of the sparse maps: a read after a write, and the canonical form, which every write keeps. -/

namespace Sys2Proof.Machine

variable {α : Type}

/-! ### A read after a write -/

theorem mget_mdel_same (d : Nat → α) (m : SMap α) (k : Nat) : mget d (mdel m k) k = d k := by
  induction m with
  | nil => rfl
  | cons e r ih =>
    obtain ⟨a, v⟩ := e
    by_cases h : a = k <;> simp [mdel, h, mget, ih]

theorem mget_mdel_other (d : Nat → α) (m : SMap α) {k j : Nat} (h : j ≠ k) : mget d (mdel m k) j = mget d m j := by
  induction m with
  | nil => rfl
  | cons e r ih =>
    obtain ⟨a, v⟩ := e
    by_cases ha : a = k
    · subst ha
      simp [mdel, mget, ih, Ne.symm h]
    · rw [mdel, if_neg ha]
      simp only [mget, ih]

theorem mget_mins_same (d : Nat → α) (m : SMap α) (k : Nat) (v : α) : mget d (mins m k v) k = v := by
  induction m with
  | nil => simp [mins, mget]
  | cons e r ih =>
    obtain ⟨a, w⟩ := e
    unfold mins
    split
    · simp [mget]
    · split
      · simp [mget]
      · rename_i h
        simp [mget, h, ih]

theorem mget_mins_other (d : Nat → α) (m : SMap α) {k j : Nat} (v : α) (h : j ≠ k) :
    mget d (mins m k v) j = mget d m j := by
  induction m with
  | nil => simp [mins, mget, Ne.symm h]
  | cons e r ih =>
    obtain ⟨a, w⟩ := e
    unfold mins
    split
    · simp [mget, Ne.symm h]
    · split
      · rename_i hk
        subst hk
        simp [mget, Ne.symm h]
      · by_cases hj : a = j <;> simp [mget, hj, ih]

/-- A key reads as what was written to it. -/
@[simp] theorem mget_mset_same [DecidableEq α] (d : Nat → α) (m : SMap α) (k : Nat) (v : α) : mget d (mset d m k v) k = v := by
  unfold mset
  split
  · rename_i h
    rw [mget_mdel_same, h]
  · exact mget_mins_same d m k v

/-- A write leaves every other key as it was. -/
theorem mget_mset_other [DecidableEq α] (d : Nat → α) (m : SMap α) {k j : Nat} (v : α) (h : j ≠ k) :
    mget d (mset d m k v) j = mget d m j := by
  unfold mset
  split
  · exact mget_mdel_other d m h
  · exact mget_mins_other d m v h

/-- A cleared range reads as unlisted; every other key as before. -/
theorem mget_mclear (d : Nat → α) (m : SMap α) (lo hi k : Nat) :
    mget d (mclear m lo hi) k = if lo ≤ k ∧ k < hi then d k else mget d m k := by
  induction m with
  | nil => simp [mclear, mget]
  | cons e r ih =>
    obtain ⟨a, v⟩ := e
    unfold mclear
    by_cases hak : a = k
    · subst hak
      by_cases h : lo ≤ a ∧ a < hi <;> simp [h, mget, ih]
    · by_cases h : lo ≤ a ∧ a < hi
      · simp [h, mget, ih, hak]
      · simp only [if_neg h, mget, if_neg hak, ih]

/-! ### The canonical form -/

/-- A map whose keys lie above a bound has keys above any lower bound. -/
theorem mwfFrom_weaken [DecidableEq α] (d : Nat → α) {lo : Option Nat} {b : Nat} {m : SMap α} (h : mwfFrom d (some b) m = true)
    (hl : ∀ l, lo = some l → l ≤ b) : mwfFrom d lo m = true := by
  cases m with
  | nil => rfl
  | cons e r =>
    obtain ⟨a, v⟩ := e
    simp only [mwfFrom, Bool.and_eq_true, decide_eq_true_eq] at h ⊢
    refine ⟨⟨?_, h.1.2⟩, h.2⟩
    cases lo with
    | none => rfl
    | some l => simpa using lt_of_le_of_lt (hl l rfl) h.1.1

theorem mwfFrom_mdel [DecidableEq α] (d : Nat → α) {lo : Option Nat} {m : SMap α} (k : Nat) (h : mwfFrom d lo m = true) :
    mwfFrom d lo (mdel m k) = true := by
  induction m generalizing lo with
  | nil => rfl
  | cons e r ih =>
    obtain ⟨a, v⟩ := e
    simp only [mwfFrom, Bool.and_eq_true, decide_eq_true_eq] at h
    unfold mdel
    split
    · refine mwfFrom_weaken d (ih h.2) fun l hl => ?_
      subst hl
      have := h.1.1
      simp at this
      omega
    · simp only [mwfFrom, Bool.and_eq_true, decide_eq_true_eq]
      exact ⟨h.1, ih h.2⟩

theorem bound_of_lt (lo : Option Nat) (k : Nat) : (∀ l, lo = some l → l < k) →
    (match lo with
      | none => true
      | some l => decide (l < k)) = true := by
  cases lo with
  | none => exact fun _ => rfl
  | some l => exact fun h => by simpa using h l rfl

theorem mwfFrom_mins [DecidableEq α] (d : Nat → α) {lo : Option Nat} {m : SMap α} (k : Nat) (v : α) (hv : v ≠ d k)
    (hlo : ∀ l, lo = some l → l < k) (h : mwfFrom d lo m = true) : mwfFrom d lo (mins m k v) = true := by
  induction m generalizing lo with
  | nil =>
    simp only [mins, mwfFrom, Bool.and_eq_true, decide_eq_true_eq]
    exact ⟨⟨bound_of_lt lo k hlo, hv⟩, trivial⟩
  | cons e r ih =>
    obtain ⟨a, w⟩ := e
    simp only [mwfFrom, Bool.and_eq_true, decide_eq_true_eq] at h
    unfold mins
    split
    · rename_i hka
      simp only [mwfFrom, Bool.and_eq_true, decide_eq_true_eq]
      exact ⟨⟨bound_of_lt lo k hlo, hv⟩, ⟨⟨hka, h.1.2⟩, h.2⟩⟩
    · split
      · rename_i hak
        subst hak
        simp only [mwfFrom, Bool.and_eq_true, decide_eq_true_eq]
        exact ⟨⟨bound_of_lt lo a hlo, hv⟩, h.2⟩
      · rename_i h1 h2
        have hak : a < k := by omega
        simp only [mwfFrom, Bool.and_eq_true, decide_eq_true_eq]
        refine ⟨h.1, ih (lo := some a) ?_ h.2⟩
        intro l hl
        cases hl
        exact hak

theorem mwfFrom_mclear [DecidableEq α] (d : Nat → α) {lo : Option Nat} {m : SMap α} (a b : Nat) (h : mwfFrom d lo m = true) :
    mwfFrom d lo (mclear m a b) = true := by
  induction m generalizing lo with
  | nil => rfl
  | cons e r ih =>
    obtain ⟨x, v⟩ := e
    simp only [mwfFrom, Bool.and_eq_true, decide_eq_true_eq] at h
    unfold mclear
    split
    · refine mwfFrom_weaken d (ih h.2) fun l hl => ?_
      subst hl
      have := h.1.1
      simp at this
      omega
    · simp only [mwfFrom, Bool.and_eq_true, decide_eq_true_eq]
      exact ⟨h.1, ih h.2⟩

/-- A write keeps the canonical form. -/
@[simp] theorem mwf_mset [DecidableEq α] (d : Nat → α) {m : SMap α} (k : Nat) (v : α) (h : mwf d m = true) :
    mwf d (mset d m k v) = true := by
  unfold mset
  split
  · exact mwfFrom_mdel d k h
  · exact mwfFrom_mins d k v (by assumption) (by simp) h

/-- Clearing a range keeps the canonical form. -/
@[simp] theorem mwf_mclear [DecidableEq α] (d : Nat → α) {m : SMap α} (lo hi : Nat) (h : mwf d m = true) :
    mwf d (mclear m lo hi) = true := mwfFrom_mclear d lo hi h

end Sys2Proof.Machine
end

