-- ==== Sys2Proof/Laws/State.lean ====
section
/-! SUPPORT. What each small update of the state leaves as it was: one lemma per field per update. -/

namespace Sys2Proof.Machine

/-! ### Registers -/

@[simp] theorem Dev.setReg_shadow (d : Dev) (a : Nat) (w : Word) : (d.setReg a w).shadow = d.shadow := rfl
@[simp] theorem Dev.setReg_free (d : Dev) (a : Nat) (w : Word) : (d.setReg a w).free = d.free := rfl
@[simp] theorem Dev.setReg_wires (d : Dev) (a : Nat) (w : Word) : (d.setReg a w).wires = d.wires := rfl
@[simp] theorem Dev.setReg_frame (d : Dev) (a : Nat) (w : Word) : (d.setReg a w).frame = d.frame := rfl
@[simp] theorem Dev.setReg_conv (d : Dev) (a : Nat) (w : Word) : (d.setReg a w).conv = d.conv := rfl
@[simp] theorem Dev.setReg_rx (d : Dev) (a : Nat) (w : Word) : (d.setReg a w).rx = d.rx := rfl
@[simp] theorem Dev.setReg_tx (d : Dev) (a : Nat) (w : Word) : (d.setReg a w).tx = d.tx := rfl
@[simp] theorem Dev.setReg_sieve (d : Dev) (a : Nat) (w : Word) : (d.setReg a w).sieve = d.sieve := rfl
@[simp] theorem Dev.setReg_canc (d : Dev) (a : Nat) (w : Word) : (d.setReg a w).canc = d.canc := rfl
@[simp] theorem Dev.setReg_eng (d : Dev) (a : Nat) (w : Word) : (d.setReg a w).eng = d.eng := rfl
@[simp] theorem Dev.setReg_bench (d : Dev) (a : Nat) (w : Word) : (d.setReg a w).bench = d.bench := rfl
@[simp] theorem Dev.setReg_benchCyc (d : Dev) (a : Nat) (w : Word) : (d.setReg a w).benchCyc = d.benchCyc := rfl
@[simp] theorem Dev.setReg_streams (d : Dev) (a : Nat) (w : Word) : (d.setReg a w).streams = d.streams := rfl
@[simp] theorem Dev.setReg_applies (d : Dev) (a : Nat) (w : Word) : (d.setReg a w).applies = d.applies := rfl
@[simp] theorem Dev.setReg_gain (d : Dev) (a : Nat) (w : Word) : (d.setReg a w).gain = d.gain := rfl
@[simp] theorem Dev.setReg_energy (d : Dev) (a : Nat) (w : Word) : (d.setReg a w).energy = d.energy := rfl
@[simp] theorem Dev.setReg_prot (d : Dev) (a : Nat) (w : Word) : (d.setReg a w).prot = d.prot := rfl
@[simp] theorem Dev.setReg_syn (d : Dev) (a : Nat) (w : Word) : (d.setReg a w).syn = d.syn := rfl
@[simp] theorem Dev.setReg_adc (d : Dev) (a : Nat) (w : Word) : (d.setReg a w).adc = d.adc := rfl
@[simp] theorem Dev.setReg_cal (d : Dev) (a : Nat) (w : Word) : (d.setReg a w).cal = d.cal := rfl
@[simp] theorem Dev.setReg_front (d : Dev) (a : Nat) (w : Word) : (d.setReg a w).front = d.front := rfl
@[simp] theorem Dev.setReg_mon (d : Dev) (a : Nat) (w : Word) : (d.setReg a w).mon = d.mon := rfl
@[simp] theorem Dev.setReg_bias (d : Dev) (a : Nat) (w : Word) : (d.setReg a w).bias = d.bias := rfl
@[simp] theorem Dev.setReg_biasLast (d : Dev) (a : Nat) (w : Word) : (d.setReg a w).biasLast = d.biasLast := rfl
@[simp] theorem Dev.setReg_therm (d : Dev) (a : Nat) (w : Word) : (d.setReg a w).therm = d.therm := rfl
@[simp] theorem Dev.setReg_haul (d : Dev) (a : Nat) (w : Word) : (d.setReg a w).haul = d.haul := rfl
@[simp] theorem Dev.setReg_casc (d : Dev) (a : Nat) (w : Word) : (d.setReg a w).casc = d.casc := rfl
@[simp] theorem Dev.setReg_fault (d : Dev) (a : Nat) (w : Word) : (d.setReg a w).fault = d.fault := rfl
@[simp] theorem Dev.setReg_rcd (d : Dev) (a : Nat) (w : Word) : (d.setReg a w).rcd = d.rcd := rfl
@[simp] theorem Dev.setReg_flash (d : Dev) (a : Nat) (w : Word) : (d.setReg a w).flash = d.flash := rfl
@[simp] theorem Dev.setReg_obs (d : Dev) (a : Nat) (w : Word) : (d.setReg a w).obs = d.obs := rfl
@[simp] theorem Dev.setReg_jtag (d : Dev) (a : Nat) (w : Word) : (d.setReg a w).jtag = d.jtag := rfl
@[simp] theorem Dev.setReg_pins (d : Dev) (a : Nat) (w : Word) : (d.setReg a w).pins = d.pins := rfl
@[simp] theorem Dev.setReg_paths (d : Dev) (a : Nat) (w : Word) : (d.setReg a w).paths = d.paths := rfl
@[simp] theorem Dev.setReg_spi (d : Dev) (a : Nat) (w : Word) : (d.setReg a w).spi = d.spi := rfl
@[simp] theorem Dev.setReg_commits (d : Dev) (a : Nat) (w : Word) : (d.setReg a w).commits = d.commits := rfl
@[simp] theorem Dev.setReg_resets (d : Dev) (a : Nat) (w : Word) : (d.setReg a w).resets = d.resets := rfl
@[simp] theorem Dev.setReg_profile (d : Dev) (a : Nat) (w : Word) : (d.setReg a w).profile = d.profile := rfl
@[simp] theorem Dev.setReg_portSum (d : Dev) (a : Nat) (w : Word) : (d.setReg a w).portSum = d.portSum := rfl
@[simp] theorem Dev.setReg_dacOut (d : Dev) (a : Nat) (w : Word) : (d.setReg a w).dacOut = d.dacOut := rfl
@[simp] theorem Dev.setReg_outbox (d : Dev) (a : Nat) (w : Word) : (d.setReg a w).outbox = d.outbox := rfl
@[simp] theorem Dev.setReg_seqOut (d : Dev) (a : Nat) (w : Word) : (d.setReg a w).seqOut = d.seqOut := rfl
@[simp] theorem Dev.setReg_snapFeed (d : Dev) (a : Nat) (w : Word) : (d.setReg a w).snapFeed = d.snapFeed := rfl
@[simp] theorem Dev.setReg_monFeed (d : Dev) (a : Nat) (w : Word) : (d.setReg a w).monFeed = d.monFeed := rfl
@[simp] theorem Dev.setReg_traceFeed (d : Dev) (a : Nat) (w : Word) : (d.setReg a w).traceFeed = d.traceFeed := rfl

@[simp] theorem Dev.setShadow_regs (d : Dev) (a : Nat) (w : Word) : (d.setShadow a w).regs = d.regs := rfl
@[simp] theorem Dev.setShadow_free (d : Dev) (a : Nat) (w : Word) : (d.setShadow a w).free = d.free := rfl
@[simp] theorem Dev.setShadow_wires (d : Dev) (a : Nat) (w : Word) : (d.setShadow a w).wires = d.wires := rfl
@[simp] theorem Dev.setShadow_frame (d : Dev) (a : Nat) (w : Word) : (d.setShadow a w).frame = d.frame := rfl
@[simp] theorem Dev.setShadow_conv (d : Dev) (a : Nat) (w : Word) : (d.setShadow a w).conv = d.conv := rfl
@[simp] theorem Dev.setShadow_rx (d : Dev) (a : Nat) (w : Word) : (d.setShadow a w).rx = d.rx := rfl
@[simp] theorem Dev.setShadow_tx (d : Dev) (a : Nat) (w : Word) : (d.setShadow a w).tx = d.tx := rfl
@[simp] theorem Dev.setShadow_sieve (d : Dev) (a : Nat) (w : Word) : (d.setShadow a w).sieve = d.sieve := rfl
@[simp] theorem Dev.setShadow_canc (d : Dev) (a : Nat) (w : Word) : (d.setShadow a w).canc = d.canc := rfl
@[simp] theorem Dev.setShadow_eng (d : Dev) (a : Nat) (w : Word) : (d.setShadow a w).eng = d.eng := rfl
@[simp] theorem Dev.setShadow_bench (d : Dev) (a : Nat) (w : Word) : (d.setShadow a w).bench = d.bench := rfl
@[simp] theorem Dev.setShadow_benchCyc (d : Dev) (a : Nat) (w : Word) : (d.setShadow a w).benchCyc = d.benchCyc := rfl
@[simp] theorem Dev.setShadow_streams (d : Dev) (a : Nat) (w : Word) : (d.setShadow a w).streams = d.streams := rfl
@[simp] theorem Dev.setShadow_applies (d : Dev) (a : Nat) (w : Word) : (d.setShadow a w).applies = d.applies := rfl
@[simp] theorem Dev.setShadow_gain (d : Dev) (a : Nat) (w : Word) : (d.setShadow a w).gain = d.gain := rfl
@[simp] theorem Dev.setShadow_energy (d : Dev) (a : Nat) (w : Word) : (d.setShadow a w).energy = d.energy := rfl
@[simp] theorem Dev.setShadow_prot (d : Dev) (a : Nat) (w : Word) : (d.setShadow a w).prot = d.prot := rfl
@[simp] theorem Dev.setShadow_syn (d : Dev) (a : Nat) (w : Word) : (d.setShadow a w).syn = d.syn := rfl
@[simp] theorem Dev.setShadow_adc (d : Dev) (a : Nat) (w : Word) : (d.setShadow a w).adc = d.adc := rfl
@[simp] theorem Dev.setShadow_cal (d : Dev) (a : Nat) (w : Word) : (d.setShadow a w).cal = d.cal := rfl
@[simp] theorem Dev.setShadow_front (d : Dev) (a : Nat) (w : Word) : (d.setShadow a w).front = d.front := rfl
@[simp] theorem Dev.setShadow_mon (d : Dev) (a : Nat) (w : Word) : (d.setShadow a w).mon = d.mon := rfl
@[simp] theorem Dev.setShadow_bias (d : Dev) (a : Nat) (w : Word) : (d.setShadow a w).bias = d.bias := rfl
@[simp] theorem Dev.setShadow_biasLast (d : Dev) (a : Nat) (w : Word) : (d.setShadow a w).biasLast = d.biasLast := rfl
@[simp] theorem Dev.setShadow_therm (d : Dev) (a : Nat) (w : Word) : (d.setShadow a w).therm = d.therm := rfl
@[simp] theorem Dev.setShadow_haul (d : Dev) (a : Nat) (w : Word) : (d.setShadow a w).haul = d.haul := rfl
@[simp] theorem Dev.setShadow_casc (d : Dev) (a : Nat) (w : Word) : (d.setShadow a w).casc = d.casc := rfl
@[simp] theorem Dev.setShadow_fault (d : Dev) (a : Nat) (w : Word) : (d.setShadow a w).fault = d.fault := rfl
@[simp] theorem Dev.setShadow_rcd (d : Dev) (a : Nat) (w : Word) : (d.setShadow a w).rcd = d.rcd := rfl
@[simp] theorem Dev.setShadow_flash (d : Dev) (a : Nat) (w : Word) : (d.setShadow a w).flash = d.flash := rfl
@[simp] theorem Dev.setShadow_obs (d : Dev) (a : Nat) (w : Word) : (d.setShadow a w).obs = d.obs := rfl
@[simp] theorem Dev.setShadow_jtag (d : Dev) (a : Nat) (w : Word) : (d.setShadow a w).jtag = d.jtag := rfl
@[simp] theorem Dev.setShadow_pins (d : Dev) (a : Nat) (w : Word) : (d.setShadow a w).pins = d.pins := rfl
@[simp] theorem Dev.setShadow_paths (d : Dev) (a : Nat) (w : Word) : (d.setShadow a w).paths = d.paths := rfl
@[simp] theorem Dev.setShadow_spi (d : Dev) (a : Nat) (w : Word) : (d.setShadow a w).spi = d.spi := rfl
@[simp] theorem Dev.setShadow_commits (d : Dev) (a : Nat) (w : Word) : (d.setShadow a w).commits = d.commits := rfl
@[simp] theorem Dev.setShadow_resets (d : Dev) (a : Nat) (w : Word) : (d.setShadow a w).resets = d.resets := rfl
@[simp] theorem Dev.setShadow_profile (d : Dev) (a : Nat) (w : Word) : (d.setShadow a w).profile = d.profile := rfl
@[simp] theorem Dev.setShadow_portSum (d : Dev) (a : Nat) (w : Word) : (d.setShadow a w).portSum = d.portSum := rfl
@[simp] theorem Dev.setShadow_dacOut (d : Dev) (a : Nat) (w : Word) : (d.setShadow a w).dacOut = d.dacOut := rfl
@[simp] theorem Dev.setShadow_outbox (d : Dev) (a : Nat) (w : Word) : (d.setShadow a w).outbox = d.outbox := rfl
@[simp] theorem Dev.setShadow_seqOut (d : Dev) (a : Nat) (w : Word) : (d.setShadow a w).seqOut = d.seqOut := rfl
@[simp] theorem Dev.setShadow_snapFeed (d : Dev) (a : Nat) (w : Word) : (d.setShadow a w).snapFeed = d.snapFeed := rfl
@[simp] theorem Dev.setShadow_monFeed (d : Dev) (a : Nat) (w : Word) : (d.setShadow a w).monFeed = d.monFeed := rfl
@[simp] theorem Dev.setShadow_traceFeed (d : Dev) (a : Nat) (w : Word) : (d.setShadow a w).traceFeed = d.traceFeed := rfl

/-! ### Fields -/

@[simp] theorem Dev.setFld_shadow (d : Dev) (pg : Nat) (F : Fld) (v : Nat) : (d.setFld pg F v).shadow = d.shadow := rfl
@[simp] theorem Dev.setFld_free (d : Dev) (pg : Nat) (F : Fld) (v : Nat) : (d.setFld pg F v).free = d.free := rfl
@[simp] theorem Dev.setFld_wires (d : Dev) (pg : Nat) (F : Fld) (v : Nat) : (d.setFld pg F v).wires = d.wires := rfl
@[simp] theorem Dev.setFld_frame (d : Dev) (pg : Nat) (F : Fld) (v : Nat) : (d.setFld pg F v).frame = d.frame := rfl
@[simp] theorem Dev.setFld_conv (d : Dev) (pg : Nat) (F : Fld) (v : Nat) : (d.setFld pg F v).conv = d.conv := rfl
@[simp] theorem Dev.setFld_rx (d : Dev) (pg : Nat) (F : Fld) (v : Nat) : (d.setFld pg F v).rx = d.rx := rfl
@[simp] theorem Dev.setFld_tx (d : Dev) (pg : Nat) (F : Fld) (v : Nat) : (d.setFld pg F v).tx = d.tx := rfl
@[simp] theorem Dev.setFld_sieve (d : Dev) (pg : Nat) (F : Fld) (v : Nat) : (d.setFld pg F v).sieve = d.sieve := rfl
@[simp] theorem Dev.setFld_canc (d : Dev) (pg : Nat) (F : Fld) (v : Nat) : (d.setFld pg F v).canc = d.canc := rfl
@[simp] theorem Dev.setFld_eng (d : Dev) (pg : Nat) (F : Fld) (v : Nat) : (d.setFld pg F v).eng = d.eng := rfl
@[simp] theorem Dev.setFld_bench (d : Dev) (pg : Nat) (F : Fld) (v : Nat) : (d.setFld pg F v).bench = d.bench := rfl
@[simp] theorem Dev.setFld_benchCyc (d : Dev) (pg : Nat) (F : Fld) (v : Nat) : (d.setFld pg F v).benchCyc = d.benchCyc := rfl
@[simp] theorem Dev.setFld_streams (d : Dev) (pg : Nat) (F : Fld) (v : Nat) : (d.setFld pg F v).streams = d.streams := rfl
@[simp] theorem Dev.setFld_applies (d : Dev) (pg : Nat) (F : Fld) (v : Nat) : (d.setFld pg F v).applies = d.applies := rfl
@[simp] theorem Dev.setFld_gain (d : Dev) (pg : Nat) (F : Fld) (v : Nat) : (d.setFld pg F v).gain = d.gain := rfl
@[simp] theorem Dev.setFld_energy (d : Dev) (pg : Nat) (F : Fld) (v : Nat) : (d.setFld pg F v).energy = d.energy := rfl
@[simp] theorem Dev.setFld_prot (d : Dev) (pg : Nat) (F : Fld) (v : Nat) : (d.setFld pg F v).prot = d.prot := rfl
@[simp] theorem Dev.setFld_syn (d : Dev) (pg : Nat) (F : Fld) (v : Nat) : (d.setFld pg F v).syn = d.syn := rfl
@[simp] theorem Dev.setFld_adc (d : Dev) (pg : Nat) (F : Fld) (v : Nat) : (d.setFld pg F v).adc = d.adc := rfl
@[simp] theorem Dev.setFld_cal (d : Dev) (pg : Nat) (F : Fld) (v : Nat) : (d.setFld pg F v).cal = d.cal := rfl
@[simp] theorem Dev.setFld_front (d : Dev) (pg : Nat) (F : Fld) (v : Nat) : (d.setFld pg F v).front = d.front := rfl
@[simp] theorem Dev.setFld_mon (d : Dev) (pg : Nat) (F : Fld) (v : Nat) : (d.setFld pg F v).mon = d.mon := rfl
@[simp] theorem Dev.setFld_bias (d : Dev) (pg : Nat) (F : Fld) (v : Nat) : (d.setFld pg F v).bias = d.bias := rfl
@[simp] theorem Dev.setFld_biasLast (d : Dev) (pg : Nat) (F : Fld) (v : Nat) : (d.setFld pg F v).biasLast = d.biasLast := rfl
@[simp] theorem Dev.setFld_therm (d : Dev) (pg : Nat) (F : Fld) (v : Nat) : (d.setFld pg F v).therm = d.therm := rfl
@[simp] theorem Dev.setFld_haul (d : Dev) (pg : Nat) (F : Fld) (v : Nat) : (d.setFld pg F v).haul = d.haul := rfl
@[simp] theorem Dev.setFld_casc (d : Dev) (pg : Nat) (F : Fld) (v : Nat) : (d.setFld pg F v).casc = d.casc := rfl
@[simp] theorem Dev.setFld_fault (d : Dev) (pg : Nat) (F : Fld) (v : Nat) : (d.setFld pg F v).fault = d.fault := rfl
@[simp] theorem Dev.setFld_rcd (d : Dev) (pg : Nat) (F : Fld) (v : Nat) : (d.setFld pg F v).rcd = d.rcd := rfl
@[simp] theorem Dev.setFld_flash (d : Dev) (pg : Nat) (F : Fld) (v : Nat) : (d.setFld pg F v).flash = d.flash := rfl
@[simp] theorem Dev.setFld_obs (d : Dev) (pg : Nat) (F : Fld) (v : Nat) : (d.setFld pg F v).obs = d.obs := rfl
@[simp] theorem Dev.setFld_jtag (d : Dev) (pg : Nat) (F : Fld) (v : Nat) : (d.setFld pg F v).jtag = d.jtag := rfl
@[simp] theorem Dev.setFld_pins (d : Dev) (pg : Nat) (F : Fld) (v : Nat) : (d.setFld pg F v).pins = d.pins := rfl
@[simp] theorem Dev.setFld_paths (d : Dev) (pg : Nat) (F : Fld) (v : Nat) : (d.setFld pg F v).paths = d.paths := rfl
@[simp] theorem Dev.setFld_spi (d : Dev) (pg : Nat) (F : Fld) (v : Nat) : (d.setFld pg F v).spi = d.spi := rfl
@[simp] theorem Dev.setFld_commits (d : Dev) (pg : Nat) (F : Fld) (v : Nat) : (d.setFld pg F v).commits = d.commits := rfl
@[simp] theorem Dev.setFld_resets (d : Dev) (pg : Nat) (F : Fld) (v : Nat) : (d.setFld pg F v).resets = d.resets := rfl
@[simp] theorem Dev.setFld_profile (d : Dev) (pg : Nat) (F : Fld) (v : Nat) : (d.setFld pg F v).profile = d.profile := rfl
@[simp] theorem Dev.setFld_portSum (d : Dev) (pg : Nat) (F : Fld) (v : Nat) : (d.setFld pg F v).portSum = d.portSum := rfl
@[simp] theorem Dev.setFld_dacOut (d : Dev) (pg : Nat) (F : Fld) (v : Nat) : (d.setFld pg F v).dacOut = d.dacOut := rfl
@[simp] theorem Dev.setFld_outbox (d : Dev) (pg : Nat) (F : Fld) (v : Nat) : (d.setFld pg F v).outbox = d.outbox := rfl
@[simp] theorem Dev.setFld_seqOut (d : Dev) (pg : Nat) (F : Fld) (v : Nat) : (d.setFld pg F v).seqOut = d.seqOut := rfl
@[simp] theorem Dev.setFld_snapFeed (d : Dev) (pg : Nat) (F : Fld) (v : Nat) : (d.setFld pg F v).snapFeed = d.snapFeed := rfl
@[simp] theorem Dev.setFld_monFeed (d : Dev) (pg : Nat) (F : Fld) (v : Nat) : (d.setFld pg F v).monFeed = d.monFeed := rfl
@[simp] theorem Dev.setFld_traceFeed (d : Dev) (pg : Nat) (F : Fld) (v : Nat) : (d.setFld pg F v).traceFeed = d.traceFeed := rfl

@[simp] theorem Dev.setS_shadow (d : Dev) (pg : Nat) (F : Fld) (v : Int) : (d.setS pg F v).shadow = d.shadow := rfl
@[simp] theorem Dev.setS_free (d : Dev) (pg : Nat) (F : Fld) (v : Int) : (d.setS pg F v).free = d.free := rfl
@[simp] theorem Dev.setS_wires (d : Dev) (pg : Nat) (F : Fld) (v : Int) : (d.setS pg F v).wires = d.wires := rfl
@[simp] theorem Dev.setS_frame (d : Dev) (pg : Nat) (F : Fld) (v : Int) : (d.setS pg F v).frame = d.frame := rfl
@[simp] theorem Dev.setS_conv (d : Dev) (pg : Nat) (F : Fld) (v : Int) : (d.setS pg F v).conv = d.conv := rfl
@[simp] theorem Dev.setS_rx (d : Dev) (pg : Nat) (F : Fld) (v : Int) : (d.setS pg F v).rx = d.rx := rfl
@[simp] theorem Dev.setS_tx (d : Dev) (pg : Nat) (F : Fld) (v : Int) : (d.setS pg F v).tx = d.tx := rfl
@[simp] theorem Dev.setS_sieve (d : Dev) (pg : Nat) (F : Fld) (v : Int) : (d.setS pg F v).sieve = d.sieve := rfl
@[simp] theorem Dev.setS_canc (d : Dev) (pg : Nat) (F : Fld) (v : Int) : (d.setS pg F v).canc = d.canc := rfl
@[simp] theorem Dev.setS_eng (d : Dev) (pg : Nat) (F : Fld) (v : Int) : (d.setS pg F v).eng = d.eng := rfl
@[simp] theorem Dev.setS_bench (d : Dev) (pg : Nat) (F : Fld) (v : Int) : (d.setS pg F v).bench = d.bench := rfl
@[simp] theorem Dev.setS_benchCyc (d : Dev) (pg : Nat) (F : Fld) (v : Int) : (d.setS pg F v).benchCyc = d.benchCyc := rfl
@[simp] theorem Dev.setS_streams (d : Dev) (pg : Nat) (F : Fld) (v : Int) : (d.setS pg F v).streams = d.streams := rfl
@[simp] theorem Dev.setS_applies (d : Dev) (pg : Nat) (F : Fld) (v : Int) : (d.setS pg F v).applies = d.applies := rfl
@[simp] theorem Dev.setS_gain (d : Dev) (pg : Nat) (F : Fld) (v : Int) : (d.setS pg F v).gain = d.gain := rfl
@[simp] theorem Dev.setS_energy (d : Dev) (pg : Nat) (F : Fld) (v : Int) : (d.setS pg F v).energy = d.energy := rfl
@[simp] theorem Dev.setS_prot (d : Dev) (pg : Nat) (F : Fld) (v : Int) : (d.setS pg F v).prot = d.prot := rfl
@[simp] theorem Dev.setS_syn (d : Dev) (pg : Nat) (F : Fld) (v : Int) : (d.setS pg F v).syn = d.syn := rfl
@[simp] theorem Dev.setS_adc (d : Dev) (pg : Nat) (F : Fld) (v : Int) : (d.setS pg F v).adc = d.adc := rfl
@[simp] theorem Dev.setS_cal (d : Dev) (pg : Nat) (F : Fld) (v : Int) : (d.setS pg F v).cal = d.cal := rfl
@[simp] theorem Dev.setS_front (d : Dev) (pg : Nat) (F : Fld) (v : Int) : (d.setS pg F v).front = d.front := rfl
@[simp] theorem Dev.setS_mon (d : Dev) (pg : Nat) (F : Fld) (v : Int) : (d.setS pg F v).mon = d.mon := rfl
@[simp] theorem Dev.setS_bias (d : Dev) (pg : Nat) (F : Fld) (v : Int) : (d.setS pg F v).bias = d.bias := rfl
@[simp] theorem Dev.setS_biasLast (d : Dev) (pg : Nat) (F : Fld) (v : Int) : (d.setS pg F v).biasLast = d.biasLast := rfl
@[simp] theorem Dev.setS_therm (d : Dev) (pg : Nat) (F : Fld) (v : Int) : (d.setS pg F v).therm = d.therm := rfl
@[simp] theorem Dev.setS_haul (d : Dev) (pg : Nat) (F : Fld) (v : Int) : (d.setS pg F v).haul = d.haul := rfl
@[simp] theorem Dev.setS_casc (d : Dev) (pg : Nat) (F : Fld) (v : Int) : (d.setS pg F v).casc = d.casc := rfl
@[simp] theorem Dev.setS_fault (d : Dev) (pg : Nat) (F : Fld) (v : Int) : (d.setS pg F v).fault = d.fault := rfl
@[simp] theorem Dev.setS_rcd (d : Dev) (pg : Nat) (F : Fld) (v : Int) : (d.setS pg F v).rcd = d.rcd := rfl
@[simp] theorem Dev.setS_flash (d : Dev) (pg : Nat) (F : Fld) (v : Int) : (d.setS pg F v).flash = d.flash := rfl
@[simp] theorem Dev.setS_obs (d : Dev) (pg : Nat) (F : Fld) (v : Int) : (d.setS pg F v).obs = d.obs := rfl
@[simp] theorem Dev.setS_jtag (d : Dev) (pg : Nat) (F : Fld) (v : Int) : (d.setS pg F v).jtag = d.jtag := rfl
@[simp] theorem Dev.setS_pins (d : Dev) (pg : Nat) (F : Fld) (v : Int) : (d.setS pg F v).pins = d.pins := rfl
@[simp] theorem Dev.setS_paths (d : Dev) (pg : Nat) (F : Fld) (v : Int) : (d.setS pg F v).paths = d.paths := rfl
@[simp] theorem Dev.setS_spi (d : Dev) (pg : Nat) (F : Fld) (v : Int) : (d.setS pg F v).spi = d.spi := rfl
@[simp] theorem Dev.setS_commits (d : Dev) (pg : Nat) (F : Fld) (v : Int) : (d.setS pg F v).commits = d.commits := rfl
@[simp] theorem Dev.setS_resets (d : Dev) (pg : Nat) (F : Fld) (v : Int) : (d.setS pg F v).resets = d.resets := rfl
@[simp] theorem Dev.setS_profile (d : Dev) (pg : Nat) (F : Fld) (v : Int) : (d.setS pg F v).profile = d.profile := rfl
@[simp] theorem Dev.setS_portSum (d : Dev) (pg : Nat) (F : Fld) (v : Int) : (d.setS pg F v).portSum = d.portSum := rfl
@[simp] theorem Dev.setS_dacOut (d : Dev) (pg : Nat) (F : Fld) (v : Int) : (d.setS pg F v).dacOut = d.dacOut := rfl
@[simp] theorem Dev.setS_outbox (d : Dev) (pg : Nat) (F : Fld) (v : Int) : (d.setS pg F v).outbox = d.outbox := rfl
@[simp] theorem Dev.setS_seqOut (d : Dev) (pg : Nat) (F : Fld) (v : Int) : (d.setS pg F v).seqOut = d.seqOut := rfl
@[simp] theorem Dev.setS_snapFeed (d : Dev) (pg : Nat) (F : Fld) (v : Int) : (d.setS pg F v).snapFeed = d.snapFeed := rfl
@[simp] theorem Dev.setS_monFeed (d : Dev) (pg : Nat) (F : Fld) (v : Int) : (d.setS pg F v).monFeed = d.monFeed := rfl
@[simp] theorem Dev.setS_traceFeed (d : Dev) (pg : Nat) (F : Fld) (v : Int) : (d.setS pg F v).traceFeed = d.traceFeed := rfl

@[simp] theorem Dev.setFlag_shadow (d : Dev) (pg : Nat) (F : Fld) (b : Bool) : (d.setFlag pg F b).shadow = d.shadow := rfl
@[simp] theorem Dev.setFlag_free (d : Dev) (pg : Nat) (F : Fld) (b : Bool) : (d.setFlag pg F b).free = d.free := rfl
@[simp] theorem Dev.setFlag_wires (d : Dev) (pg : Nat) (F : Fld) (b : Bool) : (d.setFlag pg F b).wires = d.wires := rfl
@[simp] theorem Dev.setFlag_frame (d : Dev) (pg : Nat) (F : Fld) (b : Bool) : (d.setFlag pg F b).frame = d.frame := rfl
@[simp] theorem Dev.setFlag_conv (d : Dev) (pg : Nat) (F : Fld) (b : Bool) : (d.setFlag pg F b).conv = d.conv := rfl
@[simp] theorem Dev.setFlag_rx (d : Dev) (pg : Nat) (F : Fld) (b : Bool) : (d.setFlag pg F b).rx = d.rx := rfl
@[simp] theorem Dev.setFlag_tx (d : Dev) (pg : Nat) (F : Fld) (b : Bool) : (d.setFlag pg F b).tx = d.tx := rfl
@[simp] theorem Dev.setFlag_sieve (d : Dev) (pg : Nat) (F : Fld) (b : Bool) : (d.setFlag pg F b).sieve = d.sieve := rfl
@[simp] theorem Dev.setFlag_canc (d : Dev) (pg : Nat) (F : Fld) (b : Bool) : (d.setFlag pg F b).canc = d.canc := rfl
@[simp] theorem Dev.setFlag_eng (d : Dev) (pg : Nat) (F : Fld) (b : Bool) : (d.setFlag pg F b).eng = d.eng := rfl
@[simp] theorem Dev.setFlag_bench (d : Dev) (pg : Nat) (F : Fld) (b : Bool) : (d.setFlag pg F b).bench = d.bench := rfl
@[simp] theorem Dev.setFlag_benchCyc (d : Dev) (pg : Nat) (F : Fld) (b : Bool) : (d.setFlag pg F b).benchCyc = d.benchCyc := rfl
@[simp] theorem Dev.setFlag_streams (d : Dev) (pg : Nat) (F : Fld) (b : Bool) : (d.setFlag pg F b).streams = d.streams := rfl
@[simp] theorem Dev.setFlag_applies (d : Dev) (pg : Nat) (F : Fld) (b : Bool) : (d.setFlag pg F b).applies = d.applies := rfl
@[simp] theorem Dev.setFlag_gain (d : Dev) (pg : Nat) (F : Fld) (b : Bool) : (d.setFlag pg F b).gain = d.gain := rfl
@[simp] theorem Dev.setFlag_energy (d : Dev) (pg : Nat) (F : Fld) (b : Bool) : (d.setFlag pg F b).energy = d.energy := rfl
@[simp] theorem Dev.setFlag_prot (d : Dev) (pg : Nat) (F : Fld) (b : Bool) : (d.setFlag pg F b).prot = d.prot := rfl
@[simp] theorem Dev.setFlag_syn (d : Dev) (pg : Nat) (F : Fld) (b : Bool) : (d.setFlag pg F b).syn = d.syn := rfl
@[simp] theorem Dev.setFlag_adc (d : Dev) (pg : Nat) (F : Fld) (b : Bool) : (d.setFlag pg F b).adc = d.adc := rfl
@[simp] theorem Dev.setFlag_cal (d : Dev) (pg : Nat) (F : Fld) (b : Bool) : (d.setFlag pg F b).cal = d.cal := rfl
@[simp] theorem Dev.setFlag_front (d : Dev) (pg : Nat) (F : Fld) (b : Bool) : (d.setFlag pg F b).front = d.front := rfl
@[simp] theorem Dev.setFlag_mon (d : Dev) (pg : Nat) (F : Fld) (b : Bool) : (d.setFlag pg F b).mon = d.mon := rfl
@[simp] theorem Dev.setFlag_bias (d : Dev) (pg : Nat) (F : Fld) (b : Bool) : (d.setFlag pg F b).bias = d.bias := rfl
@[simp] theorem Dev.setFlag_biasLast (d : Dev) (pg : Nat) (F : Fld) (b : Bool) : (d.setFlag pg F b).biasLast = d.biasLast := rfl
@[simp] theorem Dev.setFlag_therm (d : Dev) (pg : Nat) (F : Fld) (b : Bool) : (d.setFlag pg F b).therm = d.therm := rfl
@[simp] theorem Dev.setFlag_haul (d : Dev) (pg : Nat) (F : Fld) (b : Bool) : (d.setFlag pg F b).haul = d.haul := rfl
@[simp] theorem Dev.setFlag_casc (d : Dev) (pg : Nat) (F : Fld) (b : Bool) : (d.setFlag pg F b).casc = d.casc := rfl
@[simp] theorem Dev.setFlag_fault (d : Dev) (pg : Nat) (F : Fld) (b : Bool) : (d.setFlag pg F b).fault = d.fault := rfl
@[simp] theorem Dev.setFlag_rcd (d : Dev) (pg : Nat) (F : Fld) (b : Bool) : (d.setFlag pg F b).rcd = d.rcd := rfl
@[simp] theorem Dev.setFlag_flash (d : Dev) (pg : Nat) (F : Fld) (b : Bool) : (d.setFlag pg F b).flash = d.flash := rfl
@[simp] theorem Dev.setFlag_obs (d : Dev) (pg : Nat) (F : Fld) (b : Bool) : (d.setFlag pg F b).obs = d.obs := rfl
@[simp] theorem Dev.setFlag_jtag (d : Dev) (pg : Nat) (F : Fld) (b : Bool) : (d.setFlag pg F b).jtag = d.jtag := rfl
@[simp] theorem Dev.setFlag_pins (d : Dev) (pg : Nat) (F : Fld) (b : Bool) : (d.setFlag pg F b).pins = d.pins := rfl
@[simp] theorem Dev.setFlag_paths (d : Dev) (pg : Nat) (F : Fld) (b : Bool) : (d.setFlag pg F b).paths = d.paths := rfl
@[simp] theorem Dev.setFlag_spi (d : Dev) (pg : Nat) (F : Fld) (b : Bool) : (d.setFlag pg F b).spi = d.spi := rfl
@[simp] theorem Dev.setFlag_commits (d : Dev) (pg : Nat) (F : Fld) (b : Bool) : (d.setFlag pg F b).commits = d.commits := rfl
@[simp] theorem Dev.setFlag_resets (d : Dev) (pg : Nat) (F : Fld) (b : Bool) : (d.setFlag pg F b).resets = d.resets := rfl
@[simp] theorem Dev.setFlag_profile (d : Dev) (pg : Nat) (F : Fld) (b : Bool) : (d.setFlag pg F b).profile = d.profile := rfl
@[simp] theorem Dev.setFlag_portSum (d : Dev) (pg : Nat) (F : Fld) (b : Bool) : (d.setFlag pg F b).portSum = d.portSum := rfl
@[simp] theorem Dev.setFlag_dacOut (d : Dev) (pg : Nat) (F : Fld) (b : Bool) : (d.setFlag pg F b).dacOut = d.dacOut := rfl
@[simp] theorem Dev.setFlag_outbox (d : Dev) (pg : Nat) (F : Fld) (b : Bool) : (d.setFlag pg F b).outbox = d.outbox := rfl
@[simp] theorem Dev.setFlag_seqOut (d : Dev) (pg : Nat) (F : Fld) (b : Bool) : (d.setFlag pg F b).seqOut = d.seqOut := rfl
@[simp] theorem Dev.setFlag_snapFeed (d : Dev) (pg : Nat) (F : Fld) (b : Bool) : (d.setFlag pg F b).snapFeed = d.snapFeed := rfl
@[simp] theorem Dev.setFlag_monFeed (d : Dev) (pg : Nat) (F : Fld) (b : Bool) : (d.setFlag pg F b).monFeed = d.monFeed := rfl
@[simp] theorem Dev.setFlag_traceFeed (d : Dev) (pg : Nat) (F : Fld) (b : Bool) : (d.setFlag pg F b).traceFeed = d.traceFeed := rfl

@[simp] theorem Dev.bump_shadow (d : Dev) (pg : Nat) (F : Fld) : (d.bump pg F).shadow = d.shadow := rfl
@[simp] theorem Dev.bump_free (d : Dev) (pg : Nat) (F : Fld) : (d.bump pg F).free = d.free := rfl
@[simp] theorem Dev.bump_wires (d : Dev) (pg : Nat) (F : Fld) : (d.bump pg F).wires = d.wires := rfl
@[simp] theorem Dev.bump_frame (d : Dev) (pg : Nat) (F : Fld) : (d.bump pg F).frame = d.frame := rfl
@[simp] theorem Dev.bump_conv (d : Dev) (pg : Nat) (F : Fld) : (d.bump pg F).conv = d.conv := rfl
@[simp] theorem Dev.bump_rx (d : Dev) (pg : Nat) (F : Fld) : (d.bump pg F).rx = d.rx := rfl
@[simp] theorem Dev.bump_tx (d : Dev) (pg : Nat) (F : Fld) : (d.bump pg F).tx = d.tx := rfl
@[simp] theorem Dev.bump_sieve (d : Dev) (pg : Nat) (F : Fld) : (d.bump pg F).sieve = d.sieve := rfl
@[simp] theorem Dev.bump_canc (d : Dev) (pg : Nat) (F : Fld) : (d.bump pg F).canc = d.canc := rfl
@[simp] theorem Dev.bump_eng (d : Dev) (pg : Nat) (F : Fld) : (d.bump pg F).eng = d.eng := rfl
@[simp] theorem Dev.bump_bench (d : Dev) (pg : Nat) (F : Fld) : (d.bump pg F).bench = d.bench := rfl
@[simp] theorem Dev.bump_benchCyc (d : Dev) (pg : Nat) (F : Fld) : (d.bump pg F).benchCyc = d.benchCyc := rfl
@[simp] theorem Dev.bump_streams (d : Dev) (pg : Nat) (F : Fld) : (d.bump pg F).streams = d.streams := rfl
@[simp] theorem Dev.bump_applies (d : Dev) (pg : Nat) (F : Fld) : (d.bump pg F).applies = d.applies := rfl
@[simp] theorem Dev.bump_gain (d : Dev) (pg : Nat) (F : Fld) : (d.bump pg F).gain = d.gain := rfl
@[simp] theorem Dev.bump_energy (d : Dev) (pg : Nat) (F : Fld) : (d.bump pg F).energy = d.energy := rfl
@[simp] theorem Dev.bump_prot (d : Dev) (pg : Nat) (F : Fld) : (d.bump pg F).prot = d.prot := rfl
@[simp] theorem Dev.bump_syn (d : Dev) (pg : Nat) (F : Fld) : (d.bump pg F).syn = d.syn := rfl
@[simp] theorem Dev.bump_adc (d : Dev) (pg : Nat) (F : Fld) : (d.bump pg F).adc = d.adc := rfl
@[simp] theorem Dev.bump_cal (d : Dev) (pg : Nat) (F : Fld) : (d.bump pg F).cal = d.cal := rfl
@[simp] theorem Dev.bump_front (d : Dev) (pg : Nat) (F : Fld) : (d.bump pg F).front = d.front := rfl
@[simp] theorem Dev.bump_mon (d : Dev) (pg : Nat) (F : Fld) : (d.bump pg F).mon = d.mon := rfl
@[simp] theorem Dev.bump_bias (d : Dev) (pg : Nat) (F : Fld) : (d.bump pg F).bias = d.bias := rfl
@[simp] theorem Dev.bump_biasLast (d : Dev) (pg : Nat) (F : Fld) : (d.bump pg F).biasLast = d.biasLast := rfl
@[simp] theorem Dev.bump_therm (d : Dev) (pg : Nat) (F : Fld) : (d.bump pg F).therm = d.therm := rfl
@[simp] theorem Dev.bump_haul (d : Dev) (pg : Nat) (F : Fld) : (d.bump pg F).haul = d.haul := rfl
@[simp] theorem Dev.bump_casc (d : Dev) (pg : Nat) (F : Fld) : (d.bump pg F).casc = d.casc := rfl
@[simp] theorem Dev.bump_fault (d : Dev) (pg : Nat) (F : Fld) : (d.bump pg F).fault = d.fault := rfl
@[simp] theorem Dev.bump_rcd (d : Dev) (pg : Nat) (F : Fld) : (d.bump pg F).rcd = d.rcd := rfl
@[simp] theorem Dev.bump_flash (d : Dev) (pg : Nat) (F : Fld) : (d.bump pg F).flash = d.flash := rfl
@[simp] theorem Dev.bump_obs (d : Dev) (pg : Nat) (F : Fld) : (d.bump pg F).obs = d.obs := rfl
@[simp] theorem Dev.bump_jtag (d : Dev) (pg : Nat) (F : Fld) : (d.bump pg F).jtag = d.jtag := rfl
@[simp] theorem Dev.bump_pins (d : Dev) (pg : Nat) (F : Fld) : (d.bump pg F).pins = d.pins := rfl
@[simp] theorem Dev.bump_paths (d : Dev) (pg : Nat) (F : Fld) : (d.bump pg F).paths = d.paths := rfl
@[simp] theorem Dev.bump_spi (d : Dev) (pg : Nat) (F : Fld) : (d.bump pg F).spi = d.spi := rfl
@[simp] theorem Dev.bump_commits (d : Dev) (pg : Nat) (F : Fld) : (d.bump pg F).commits = d.commits := rfl
@[simp] theorem Dev.bump_resets (d : Dev) (pg : Nat) (F : Fld) : (d.bump pg F).resets = d.resets := rfl
@[simp] theorem Dev.bump_profile (d : Dev) (pg : Nat) (F : Fld) : (d.bump pg F).profile = d.profile := rfl
@[simp] theorem Dev.bump_portSum (d : Dev) (pg : Nat) (F : Fld) : (d.bump pg F).portSum = d.portSum := rfl
@[simp] theorem Dev.bump_dacOut (d : Dev) (pg : Nat) (F : Fld) : (d.bump pg F).dacOut = d.dacOut := rfl
@[simp] theorem Dev.bump_outbox (d : Dev) (pg : Nat) (F : Fld) : (d.bump pg F).outbox = d.outbox := rfl
@[simp] theorem Dev.bump_seqOut (d : Dev) (pg : Nat) (F : Fld) : (d.bump pg F).seqOut = d.seqOut := rfl
@[simp] theorem Dev.bump_snapFeed (d : Dev) (pg : Nat) (F : Fld) : (d.bump pg F).snapFeed = d.snapFeed := rfl
@[simp] theorem Dev.bump_monFeed (d : Dev) (pg : Nat) (F : Fld) : (d.bump pg F).monFeed = d.monFeed := rfl
@[simp] theorem Dev.bump_traceFeed (d : Dev) (pg : Nat) (F : Fld) : (d.bump pg F).traceFeed = d.traceFeed := rfl

/-! ### Signals -/

@[simp] theorem Dev.stir_regs (d : Dev) (pg : Nat) : (d.stir pg).regs = d.regs := rfl
@[simp] theorem Dev.stir_shadow (d : Dev) (pg : Nat) : (d.stir pg).shadow = d.shadow := rfl
@[simp] theorem Dev.stir_free (d : Dev) (pg : Nat) : (d.stir pg).free = d.free := rfl
@[simp] theorem Dev.stir_frame (d : Dev) (pg : Nat) : (d.stir pg).frame = d.frame := rfl
@[simp] theorem Dev.stir_conv (d : Dev) (pg : Nat) : (d.stir pg).conv = d.conv := rfl
@[simp] theorem Dev.stir_rx (d : Dev) (pg : Nat) : (d.stir pg).rx = d.rx := rfl
@[simp] theorem Dev.stir_tx (d : Dev) (pg : Nat) : (d.stir pg).tx = d.tx := rfl
@[simp] theorem Dev.stir_sieve (d : Dev) (pg : Nat) : (d.stir pg).sieve = d.sieve := rfl
@[simp] theorem Dev.stir_canc (d : Dev) (pg : Nat) : (d.stir pg).canc = d.canc := rfl
@[simp] theorem Dev.stir_eng (d : Dev) (pg : Nat) : (d.stir pg).eng = d.eng := rfl
@[simp] theorem Dev.stir_bench (d : Dev) (pg : Nat) : (d.stir pg).bench = d.bench := rfl
@[simp] theorem Dev.stir_benchCyc (d : Dev) (pg : Nat) : (d.stir pg).benchCyc = d.benchCyc := rfl
@[simp] theorem Dev.stir_streams (d : Dev) (pg : Nat) : (d.stir pg).streams = d.streams := rfl
@[simp] theorem Dev.stir_applies (d : Dev) (pg : Nat) : (d.stir pg).applies = d.applies := rfl
@[simp] theorem Dev.stir_gain (d : Dev) (pg : Nat) : (d.stir pg).gain = d.gain := rfl
@[simp] theorem Dev.stir_energy (d : Dev) (pg : Nat) : (d.stir pg).energy = d.energy := rfl
@[simp] theorem Dev.stir_prot (d : Dev) (pg : Nat) : (d.stir pg).prot = d.prot := rfl
@[simp] theorem Dev.stir_syn (d : Dev) (pg : Nat) : (d.stir pg).syn = d.syn := rfl
@[simp] theorem Dev.stir_adc (d : Dev) (pg : Nat) : (d.stir pg).adc = d.adc := rfl
@[simp] theorem Dev.stir_cal (d : Dev) (pg : Nat) : (d.stir pg).cal = d.cal := rfl
@[simp] theorem Dev.stir_front (d : Dev) (pg : Nat) : (d.stir pg).front = d.front := rfl
@[simp] theorem Dev.stir_mon (d : Dev) (pg : Nat) : (d.stir pg).mon = d.mon := rfl
@[simp] theorem Dev.stir_bias (d : Dev) (pg : Nat) : (d.stir pg).bias = d.bias := rfl
@[simp] theorem Dev.stir_biasLast (d : Dev) (pg : Nat) : (d.stir pg).biasLast = d.biasLast := rfl
@[simp] theorem Dev.stir_therm (d : Dev) (pg : Nat) : (d.stir pg).therm = d.therm := rfl
@[simp] theorem Dev.stir_haul (d : Dev) (pg : Nat) : (d.stir pg).haul = d.haul := rfl
@[simp] theorem Dev.stir_casc (d : Dev) (pg : Nat) : (d.stir pg).casc = d.casc := rfl
@[simp] theorem Dev.stir_fault (d : Dev) (pg : Nat) : (d.stir pg).fault = d.fault := rfl
@[simp] theorem Dev.stir_rcd (d : Dev) (pg : Nat) : (d.stir pg).rcd = d.rcd := rfl
@[simp] theorem Dev.stir_flash (d : Dev) (pg : Nat) : (d.stir pg).flash = d.flash := rfl
@[simp] theorem Dev.stir_obs (d : Dev) (pg : Nat) : (d.stir pg).obs = d.obs := rfl
@[simp] theorem Dev.stir_jtag (d : Dev) (pg : Nat) : (d.stir pg).jtag = d.jtag := rfl
@[simp] theorem Dev.stir_pins (d : Dev) (pg : Nat) : (d.stir pg).pins = d.pins := rfl
@[simp] theorem Dev.stir_paths (d : Dev) (pg : Nat) : (d.stir pg).paths = d.paths := rfl
@[simp] theorem Dev.stir_spi (d : Dev) (pg : Nat) : (d.stir pg).spi = d.spi := rfl
@[simp] theorem Dev.stir_commits (d : Dev) (pg : Nat) : (d.stir pg).commits = d.commits := rfl
@[simp] theorem Dev.stir_resets (d : Dev) (pg : Nat) : (d.stir pg).resets = d.resets := rfl
@[simp] theorem Dev.stir_profile (d : Dev) (pg : Nat) : (d.stir pg).profile = d.profile := rfl
@[simp] theorem Dev.stir_portSum (d : Dev) (pg : Nat) : (d.stir pg).portSum = d.portSum := rfl
@[simp] theorem Dev.stir_dacOut (d : Dev) (pg : Nat) : (d.stir pg).dacOut = d.dacOut := rfl
@[simp] theorem Dev.stir_outbox (d : Dev) (pg : Nat) : (d.stir pg).outbox = d.outbox := rfl
@[simp] theorem Dev.stir_seqOut (d : Dev) (pg : Nat) : (d.stir pg).seqOut = d.seqOut := rfl
@[simp] theorem Dev.stir_snapFeed (d : Dev) (pg : Nat) : (d.stir pg).snapFeed = d.snapFeed := rfl
@[simp] theorem Dev.stir_monFeed (d : Dev) (pg : Nat) : (d.stir pg).monFeed = d.monFeed := rfl
@[simp] theorem Dev.stir_traceFeed (d : Dev) (pg : Nat) : (d.stir pg).traceFeed = d.traceFeed := rfl

@[simp] theorem Dev.badAcc_shadow (d : Dev) (a : Nat) : (d.badAcc a).shadow = d.shadow := rfl
@[simp] theorem Dev.badAcc_free (d : Dev) (a : Nat) : (d.badAcc a).free = d.free := rfl
@[simp] theorem Dev.badAcc_frame (d : Dev) (a : Nat) : (d.badAcc a).frame = d.frame := rfl
@[simp] theorem Dev.badAcc_conv (d : Dev) (a : Nat) : (d.badAcc a).conv = d.conv := rfl
@[simp] theorem Dev.badAcc_rx (d : Dev) (a : Nat) : (d.badAcc a).rx = d.rx := rfl
@[simp] theorem Dev.badAcc_tx (d : Dev) (a : Nat) : (d.badAcc a).tx = d.tx := rfl
@[simp] theorem Dev.badAcc_sieve (d : Dev) (a : Nat) : (d.badAcc a).sieve = d.sieve := rfl
@[simp] theorem Dev.badAcc_canc (d : Dev) (a : Nat) : (d.badAcc a).canc = d.canc := rfl
@[simp] theorem Dev.badAcc_eng (d : Dev) (a : Nat) : (d.badAcc a).eng = d.eng := rfl
@[simp] theorem Dev.badAcc_bench (d : Dev) (a : Nat) : (d.badAcc a).bench = d.bench := rfl
@[simp] theorem Dev.badAcc_benchCyc (d : Dev) (a : Nat) : (d.badAcc a).benchCyc = d.benchCyc := rfl
@[simp] theorem Dev.badAcc_streams (d : Dev) (a : Nat) : (d.badAcc a).streams = d.streams := rfl
@[simp] theorem Dev.badAcc_applies (d : Dev) (a : Nat) : (d.badAcc a).applies = d.applies := rfl
@[simp] theorem Dev.badAcc_gain (d : Dev) (a : Nat) : (d.badAcc a).gain = d.gain := rfl
@[simp] theorem Dev.badAcc_energy (d : Dev) (a : Nat) : (d.badAcc a).energy = d.energy := rfl
@[simp] theorem Dev.badAcc_prot (d : Dev) (a : Nat) : (d.badAcc a).prot = d.prot := rfl
@[simp] theorem Dev.badAcc_syn (d : Dev) (a : Nat) : (d.badAcc a).syn = d.syn := rfl
@[simp] theorem Dev.badAcc_adc (d : Dev) (a : Nat) : (d.badAcc a).adc = d.adc := rfl
@[simp] theorem Dev.badAcc_cal (d : Dev) (a : Nat) : (d.badAcc a).cal = d.cal := rfl
@[simp] theorem Dev.badAcc_front (d : Dev) (a : Nat) : (d.badAcc a).front = d.front := rfl
@[simp] theorem Dev.badAcc_mon (d : Dev) (a : Nat) : (d.badAcc a).mon = d.mon := rfl
@[simp] theorem Dev.badAcc_bias (d : Dev) (a : Nat) : (d.badAcc a).bias = d.bias := rfl
@[simp] theorem Dev.badAcc_biasLast (d : Dev) (a : Nat) : (d.badAcc a).biasLast = d.biasLast := rfl
@[simp] theorem Dev.badAcc_therm (d : Dev) (a : Nat) : (d.badAcc a).therm = d.therm := rfl
@[simp] theorem Dev.badAcc_haul (d : Dev) (a : Nat) : (d.badAcc a).haul = d.haul := rfl
@[simp] theorem Dev.badAcc_casc (d : Dev) (a : Nat) : (d.badAcc a).casc = d.casc := rfl
@[simp] theorem Dev.badAcc_fault (d : Dev) (a : Nat) : (d.badAcc a).fault = d.fault := rfl
@[simp] theorem Dev.badAcc_rcd (d : Dev) (a : Nat) : (d.badAcc a).rcd = d.rcd := rfl
@[simp] theorem Dev.badAcc_flash (d : Dev) (a : Nat) : (d.badAcc a).flash = d.flash := rfl
@[simp] theorem Dev.badAcc_obs (d : Dev) (a : Nat) : (d.badAcc a).obs = d.obs := rfl
@[simp] theorem Dev.badAcc_jtag (d : Dev) (a : Nat) : (d.badAcc a).jtag = d.jtag := rfl
@[simp] theorem Dev.badAcc_pins (d : Dev) (a : Nat) : (d.badAcc a).pins = d.pins := rfl
@[simp] theorem Dev.badAcc_paths (d : Dev) (a : Nat) : (d.badAcc a).paths = d.paths := rfl
@[simp] theorem Dev.badAcc_spi (d : Dev) (a : Nat) : (d.badAcc a).spi = d.spi := rfl
@[simp] theorem Dev.badAcc_commits (d : Dev) (a : Nat) : (d.badAcc a).commits = d.commits := rfl
@[simp] theorem Dev.badAcc_resets (d : Dev) (a : Nat) : (d.badAcc a).resets = d.resets := rfl
@[simp] theorem Dev.badAcc_profile (d : Dev) (a : Nat) : (d.badAcc a).profile = d.profile := rfl
@[simp] theorem Dev.badAcc_portSum (d : Dev) (a : Nat) : (d.badAcc a).portSum = d.portSum := rfl
@[simp] theorem Dev.badAcc_dacOut (d : Dev) (a : Nat) : (d.badAcc a).dacOut = d.dacOut := rfl
@[simp] theorem Dev.badAcc_outbox (d : Dev) (a : Nat) : (d.badAcc a).outbox = d.outbox := rfl
@[simp] theorem Dev.badAcc_seqOut (d : Dev) (a : Nat) : (d.badAcc a).seqOut = d.seqOut := rfl
@[simp] theorem Dev.badAcc_snapFeed (d : Dev) (a : Nat) : (d.badAcc a).snapFeed = d.snapFeed := rfl
@[simp] theorem Dev.badAcc_monFeed (d : Dev) (a : Nat) : (d.badAcc a).monFeed = d.monFeed := rfl
@[simp] theorem Dev.badAcc_traceFeed (d : Dev) (a : Nat) : (d.badAcc a).traceFeed = d.traceFeed := rfl

/-! ### The host side -/

@[simp] theorem State.onDev_pending (s : State) (f : Dev → Dev) : (s.onDev f).pending = s.pending := rfl
@[simp] theorem State.onDev_dev (s : State) (f : Dev → Dev) : (s.onDev f).dev = f s.dev := rfl
@[simp] theorem State.onDev_host (s : State) (f : Dev → Dev) : (s.onDev f).host = s.host := rfl

@[simp] theorem State.setQm_pending (s : State) (q : QmgrSt) : (s.setQm q).pending = s.pending := rfl
@[simp] theorem State.setQm_dev (s : State) (q : QmgrSt) : (s.setQm q).dev = s.dev := rfl
@[simp] theorem State.setQm_mem (s : State) (q : QmgrSt) : (s.setQm q).host.mem = s.host.mem := rfl
@[simp] theorem State.setQm_xlat (s : State) (q : QmgrSt) : (s.setQm q).host.xlat = s.host.xlat := rfl
@[simp] theorem State.setQm_dma (s : State) (q : QmgrSt) : (s.setQm q).host.dma = s.host.dma := rfl
@[simp] theorem State.setQm_turn (s : State) (q : QmgrSt) : (s.setQm q).host.turn = s.host.turn := rfl
@[simp] theorem State.setQm_lastMsi (s : State) (q : QmgrSt) : (s.setQm q).host.lastMsi = s.host.lastMsi := rfl

@[simp] theorem State.setXlat_pending (s : State) (x : XlatSt) : (s.setXlat x).pending = s.pending := rfl
@[simp] theorem State.setXlat_dev (s : State) (x : XlatSt) : (s.setXlat x).dev = s.dev := rfl
@[simp] theorem State.setXlat_mem (s : State) (x : XlatSt) : (s.setXlat x).host.mem = s.host.mem := rfl
@[simp] theorem State.setXlat_qm (s : State) (x : XlatSt) : (s.setXlat x).host.qm = s.host.qm := rfl
@[simp] theorem State.setXlat_dma (s : State) (x : XlatSt) : (s.setXlat x).host.dma = s.host.dma := rfl
@[simp] theorem State.setXlat_turn (s : State) (x : XlatSt) : (s.setXlat x).host.turn = s.host.turn := rfl
@[simp] theorem State.setXlat_lastMsi (s : State) (x : XlatSt) : (s.setXlat x).host.lastMsi = s.host.lastMsi := rfl

@[simp] theorem State.setDma_pending (s : State) (c : Nat) (x : DmaSt) : (s.setDma c x).pending = s.pending := rfl
@[simp] theorem State.setDma_dev (s : State) (c : Nat) (x : DmaSt) : (s.setDma c x).dev = s.dev := rfl
@[simp] theorem State.setDma_mem (s : State) (c : Nat) (x : DmaSt) : (s.setDma c x).host.mem = s.host.mem := rfl
@[simp] theorem State.setDma_qm (s : State) (c : Nat) (x : DmaSt) : (s.setDma c x).host.qm = s.host.qm := rfl
@[simp] theorem State.setDma_xlat (s : State) (c : Nat) (x : DmaSt) : (s.setDma c x).host.xlat = s.host.xlat := rfl
@[simp] theorem State.setDma_turn (s : State) (c : Nat) (x : DmaSt) : (s.setDma c x).host.turn = s.host.turn := rfl
@[simp] theorem State.setDma_lastMsi (s : State) (c : Nat) (x : DmaSt) : (s.setDma c x).host.lastMsi = s.host.lastMsi := rfl

@[simp] theorem State.hostPut_pending (s : State) (a : Nat) (b : BitVec 8) : (s.hostPut a b).pending = s.pending := rfl
@[simp] theorem State.hostPut_dev (s : State) (a : Nat) (b : BitVec 8) : (s.hostPut a b).dev = s.dev := rfl
@[simp] theorem State.hostPut_qm (s : State) (a : Nat) (b : BitVec 8) : (s.hostPut a b).host.qm = s.host.qm := rfl
@[simp] theorem State.hostPut_xlat (s : State) (a : Nat) (b : BitVec 8) : (s.hostPut a b).host.xlat = s.host.xlat := rfl
@[simp] theorem State.hostPut_dma (s : State) (a : Nat) (b : BitVec 8) : (s.hostPut a b).host.dma = s.host.dma := rfl
@[simp] theorem State.hostPut_turn (s : State) (a : Nat) (b : BitVec 8) : (s.hostPut a b).host.turn = s.host.turn := rfl
@[simp] theorem State.hostPut_lastMsi (s : State) (a : Nat) (b : BitVec 8) : (s.hostPut a b).host.lastMsi = s.host.lastMsi := rfl

end Sys2Proof.Machine
end

