-- ==== Sys2Proof/Laws/Keep.lean ====
section
/-! SUPPORT. What no operation on the whole state does: the queue of waiting commands stays as it was, and host memory keeps its
canonical form. One lemma for each operation. -/

set_option linter.all false

namespace Sys2Proof.Machine

/-- `t` has the queue of `s`, and a host memory in canonical form if `s` has. -/
def Keeps (s t : State) : Prop :=
  t.pending = s.pending ∧ (Memory.wf s.host.mem = true → Memory.wf t.host.mem = true)

theorem Keeps.refl (s : State) : Keeps s s := ⟨rfl, id⟩

theorem Keeps.trans {s t u : State} (h : Keeps s t) (k : Keeps t u) : Keeps s u := ⟨k.1.trans h.1, fun w => k.2 (h.2 w)⟩

theorem Keeps.ite {s a b : State} {c : Prop} [Decidable c] (ha : Keeps s a) (hb : Keeps s b) : Keeps s (if c then a else b) := by
  split <;> assumption

theorem Keeps.iteFst {β : Type} {s : State} {a b : State × β} {c : Prop} [Decidable c] (ha : Keeps s a.1) (hb : Keeps s b.1) :
    Keeps s (if c then a else b).1 := by
  split <;> assumption

theorem Keeps.foldl {β : Type} {s t : State} {f : State → β → State} {l : List β} (h : Keeps s t)
    (hf : ∀ (u : State) (x : β), Keeps s u → Keeps s (f u x)) : Keeps s (l.foldl f t) := by
  induction l generalizing t with
  | nil => exact h
  | cons x r ih => exact ih (hf t x h)

theorem Keeps.lit {s t : State} {d : Dev} {q : QmgrSt} {x : XlatSt} {c : SMap DmaSt} {n : Nat} {m : Option (Nat × Nat × Nat)}
   (h : Keeps s t) :
    Keeps s { dev := d, host := { mem := t.host.mem, qm := q, xlat := x, dma := c, turn := n, lastMsi := m }, pending := t.pending } := h

theorem Keeps.litDev {s t : State} {d : Dev} (h : Keeps s t) : Keeps s { dev := d, host := t.host, pending := t.pending } := h

theorem State.onDev_keeps {s t : State} (f : Dev → Dev) (h : Keeps s t) : Keeps s (t.onDev f) := h

theorem State.setQm_keeps {s t : State} (q : QmgrSt) (h : Keeps s t) : Keeps s (t.setQm q) := h

theorem State.setXlat_keeps {s t : State} (x : XlatSt) (h : Keeps s t) : Keeps s (t.setXlat x) := h

theorem State.setDma_keeps {s t : State} (c : Nat) (x : DmaSt) (h : Keeps s t) : Keeps s (t.setDma c x) := h

theorem State.hostPut_keeps {s t : State} (a : Nat) (b : BitVec 8) (h : Keeps s t) : Keeps s (t.hostPut a b) :=
  ⟨h.1, fun w => mwf_mset unwritten a b (h.2 w)⟩


theorem State.hostStore_keeps {s t : State} (a : Nat) (l : List Nat) (h : Keeps s t) : Keeps s (t.hostStore a l) := by
  induction l generalizing t a with
  | nil => exact h
  | cons b r ih => exact ih (a + 1) (State.hostPut_keeps a _ h)

theorem State.cacheAdd_keeps {s t : State} (e : XlatEnt) (h : Keeps s t) : Keeps s (t.cacheAdd e) := by
  unfold State.cacheAdd
  repeat' (first
    | with_reducible assumption
    | with_reducible apply State.setXlat_keeps
    | with_reducible apply State.onDev_keeps
    | with_reducible apply State.setQm_keeps
    | with_reducible apply State.setDma_keeps
    | with_reducible apply Keeps.ite
    | with_reducible apply Keeps.iteFst
    | with_reducible refine Keeps.foldl ?_ fun _ _ _ => ?_
    | fail_if_no_progress with_reducible apply Keeps.litDev
    | fail_if_no_progress with_reducible apply Keeps.lit
    | dsimp only
    | split)

theorem State.translate_keeps {s t : State} (a : Nat) (write readOk : Bool) (h : Keeps s t) : Keeps s (t.translate a write readOk).1 := by
  unfold State.translate
  repeat' (first
    | with_reducible assumption
    | with_reducible apply State.onDev_keeps
    | with_reducible apply State.cacheAdd_keeps
    | with_reducible apply State.setQm_keeps
    | with_reducible apply State.setXlat_keeps
    | with_reducible apply State.setDma_keeps
    | with_reducible apply Keeps.ite
    | with_reducible apply Keeps.iteFst
    | with_reducible refine Keeps.foldl ?_ fun _ _ _ => ?_
    | fail_if_no_progress with_reducible apply Keeps.litDev
    | fail_if_no_progress with_reducible apply Keeps.lit
    | dsimp only
    | split)

theorem State.showFifo_keeps {s t : State} (h : Keeps s t) : Keeps s t.showFifo := by
  unfold State.showFifo
  repeat' (first
    | with_reducible assumption
    | with_reducible apply State.onDev_keeps
    | with_reducible apply State.setQm_keeps
    | with_reducible apply State.setXlat_keeps
    | with_reducible apply State.setDma_keeps
    | with_reducible apply Keeps.ite
    | with_reducible apply Keeps.iteFst
    | with_reducible refine Keeps.foldl ?_ fun _ _ _ => ?_
    | fail_if_no_progress with_reducible apply Keeps.litDev
    | fail_if_no_progress with_reducible apply Keeps.lit
    | dsimp only
    | split)

theorem State.xfault_keeps {s t : State} (c kind addr beat : Nat) (write walk : Bool) (h : Keeps s t) : Keeps s (t.xfault c kind addr beat write walk) := by
  unfold State.xfault
  repeat' (first
    | with_reducible assumption
    | with_reducible apply State.onDev_keeps
    | with_reducible apply State.setXlat_keeps
    | with_reducible apply State.showFifo_keeps
    | with_reducible apply State.setQm_keeps
    | with_reducible apply State.setDma_keeps
    | with_reducible apply Keeps.ite
    | with_reducible apply Keeps.iteFst
    | with_reducible refine Keeps.foldl ?_ fun _ _ _ => ?_
    | fail_if_no_progress with_reducible apply Keeps.litDev
    | fail_if_no_progress with_reducible apply Keeps.lit
    | dsimp only
    | split)

theorem State.fifoPop_keeps {s t : State} (h : Keeps s t) : Keeps s t.fifoPop := by
  unfold State.fifoPop
  repeat' (first
    | with_reducible assumption
    | with_reducible apply State.setXlat_keeps
    | with_reducible apply State.showFifo_keeps
    | with_reducible apply State.onDev_keeps
    | with_reducible apply State.setQm_keeps
    | with_reducible apply State.setDma_keeps
    | with_reducible apply Keeps.ite
    | with_reducible apply Keeps.iteFst
    | with_reducible refine Keeps.foldl ?_ fun _ _ _ => ?_
    | fail_if_no_progress with_reducible apply Keeps.litDev
    | fail_if_no_progress with_reducible apply Keeps.lit
    | dsimp only
    | split)

theorem State.xwrite_keeps {s t : State} (c beat fuel a : Nat) (l : List Nat) (h : Keeps s t) :
    Keeps s (t.xwrite c beat fuel a l).1 := by
  induction fuel generalizing t a l with
  | zero => exact h
  | succ fuel ih =>
    unfold State.xwrite
    repeat' (first
      | with_reducible apply ih
      | with_reducible assumption
      | with_reducible apply State.translate_keeps
      | with_reducible apply State.xfault_keeps
      | with_reducible apply State.hostStore_keeps
      | with_reducible apply State.onDev_keeps
      | with_reducible apply State.setQm_keeps
      | with_reducible apply State.setXlat_keeps
      | with_reducible apply State.setDma_keeps
      | with_reducible apply Keeps.ite
      | with_reducible apply Keeps.iteFst
      | with_reducible refine Keeps.foldl ?_ fun _ _ _ => ?_
      | fail_if_no_progress with_reducible apply Keeps.litDev
      | fail_if_no_progress with_reducible apply Keeps.lit
      | dsimp only
      | split)

theorem State.xread_keeps {s t : State} (c beat a n : Nat) (h : Keeps s t) : Keeps s (t.xread c beat a n).1 := by
  unfold State.xread
  repeat' (first
    | with_reducible assumption
    | with_reducible apply State.translate_keeps
    | with_reducible apply State.xfault_keeps
    | with_reducible apply State.onDev_keeps
    | with_reducible apply State.setQm_keeps
    | with_reducible apply State.setXlat_keeps
    | with_reducible apply State.setDma_keeps
    | with_reducible apply Keeps.ite
    | with_reducible apply Keeps.iteFst
    | with_reducible refine Keeps.foldl ?_ fun _ _ _ => ?_
    | fail_if_no_progress with_reducible apply Keeps.litDev
    | fail_if_no_progress with_reducible apply Keeps.lit
    | dsimp only
    | split)

theorem State.xinv_keeps {s t : State} (size : Nat) (all : Bool) (h : Keeps s t) : Keeps s (t.xinv size all) := by
  unfold State.xinv
  repeat' (first
    | with_reducible assumption
    | with_reducible apply State.onDev_keeps
    | with_reducible apply State.setXlat_keeps
    | with_reducible apply State.setQm_keeps
    | with_reducible apply State.setDma_keeps
    | with_reducible apply Keeps.ite
    | with_reducible apply Keeps.iteFst
    | with_reducible refine Keeps.foldl ?_ fun _ _ _ => ?_
    | fail_if_no_progress with_reducible apply Keeps.litDev
    | fail_if_no_progress with_reducible apply Keeps.lit
    | dsimp only
    | split)

theorem State.xinvDone_keeps {s t : State} (h : Keeps s t) : Keeps s t.xinvDone := by
  unfold State.xinvDone
  repeat' (first
    | with_reducible assumption
    | with_reducible apply State.onDev_keeps
    | with_reducible apply State.setQm_keeps
    | with_reducible apply State.setXlat_keeps
    | with_reducible apply State.setDma_keeps
    | with_reducible apply Keeps.ite
    | with_reducible apply Keeps.iteFst
    | with_reducible refine Keeps.foldl ?_ fun _ _ _ => ?_
    | fail_if_no_progress with_reducible apply Keeps.litDev
    | fail_if_no_progress with_reducible apply Keeps.lit
    | dsimp only
    | split)

theorem State.xflush_keeps {s t : State} (h : Keeps s t) : Keeps s t.xflush := by
  unfold State.xflush
  repeat' (first
    | with_reducible assumption
    | with_reducible apply State.setXlat_keeps
    | with_reducible apply State.onDev_keeps
    | with_reducible apply State.setQm_keeps
    | with_reducible apply State.setDma_keeps
    | with_reducible apply Keeps.ite
    | with_reducible apply Keeps.iteFst
    | with_reducible refine Keeps.foldl ?_ fun _ _ _ => ?_
    | fail_if_no_progress with_reducible apply Keeps.litDev
    | fail_if_no_progress with_reducible apply Keeps.lit
    | dsimp only
    | split)

theorem State.showOut_keeps {s t : State} (h : Keeps s t) : Keeps s t.showOut := by
  unfold State.showOut
  repeat' (first
    | with_reducible assumption
    | with_reducible apply State.onDev_keeps
    | with_reducible apply State.setQm_keeps
    | with_reducible apply State.setXlat_keeps
    | with_reducible apply State.setDma_keeps
    | with_reducible apply Keeps.ite
    | with_reducible apply Keeps.iteFst
    | with_reducible refine Keeps.foldl ?_ fun _ _ _ => ?_
    | fail_if_no_progress with_reducible apply Keeps.litDev
    | fail_if_no_progress with_reducible apply Keeps.lit
    | dsimp only
    | split)

theorem State.setReady_keeps {s t : State} (q : Nat) (h : Keeps s t) : Keeps s (t.setReady q) := by
  unfold State.setReady
  repeat' (first
    | with_reducible assumption
    | with_reducible apply State.setQm_keeps
    | with_reducible apply State.onDev_keeps
    | with_reducible apply State.setXlat_keeps
    | with_reducible apply State.setDma_keeps
    | with_reducible apply Keeps.ite
    | with_reducible apply Keeps.iteFst
    | with_reducible refine Keeps.foldl ?_ fun _ _ _ => ?_
    | fail_if_no_progress with_reducible apply Keeps.litDev
    | fail_if_no_progress with_reducible apply Keeps.lit
    | dsimp only
    | split)

theorem State.clearReady_keeps {s t : State} (q : Nat) (h : Keeps s t) : Keeps s (t.clearReady q) := by
  unfold State.clearReady
  repeat' (first
    | with_reducible assumption
    | with_reducible apply State.setQm_keeps
    | with_reducible apply State.onDev_keeps
    | with_reducible apply State.setXlat_keeps
    | with_reducible apply State.setDma_keeps
    | with_reducible apply Keeps.ite
    | with_reducible apply Keeps.iteFst
    | with_reducible refine Keeps.foldl ?_ fun _ _ _ => ?_
    | fail_if_no_progress with_reducible apply Keeps.litDev
    | fail_if_no_progress with_reducible apply Keeps.lit
    | dsimp only
    | split)

theorem State.setJob_keeps {s t : State} (j : QJob) (h : Keeps s t) : Keeps s (t.setJob j) := by
  unfold State.setJob
  repeat' (first
    | with_reducible assumption
    | with_reducible apply State.setQm_keeps
    | with_reducible apply State.onDev_keeps
    | with_reducible apply State.setXlat_keeps
    | with_reducible apply State.setDma_keeps
    | with_reducible apply Keeps.ite
    | with_reducible apply Keeps.iteFst
    | with_reducible refine Keeps.foldl ?_ fun _ _ _ => ?_
    | fail_if_no_progress with_reducible apply Keeps.litDev
    | fail_if_no_progress with_reducible apply Keeps.lit
    | dsimp only
    | split)

theorem State.readCtx_keeps {s t : State} (c q : Nat) (h : Keeps s t) : Keeps s (t.readCtx c q).1 := by
  unfold State.readCtx
  repeat' (first
    | with_reducible assumption
    | with_reducible apply State.xread_keeps
    | with_reducible apply State.onDev_keeps
    | with_reducible apply State.setQm_keeps
    | with_reducible apply State.setXlat_keeps
    | with_reducible apply State.setDma_keeps
    | with_reducible apply Keeps.ite
    | with_reducible apply Keeps.iteFst
    | with_reducible refine Keeps.foldl ?_ fun _ _ _ => ?_
    | fail_if_no_progress with_reducible apply Keeps.litDev
    | fail_if_no_progress with_reducible apply Keeps.lit
    | dsimp only
    | split)

theorem State.ringPut_keeps {s t : State} (c a : Nat) (r : OutRec) (h : Keeps s t) : Keeps s (t.ringPut c a r).1 := by
  unfold State.ringPut
  repeat' (first
    | with_reducible assumption
    | with_reducible apply State.onDev_keeps
    | with_reducible apply State.xwrite_keeps
    | with_reducible apply State.setJob_keeps
    | with_reducible apply State.readCtx_keeps
    | with_reducible apply State.setQm_keeps
    | with_reducible apply State.setXlat_keeps
    | with_reducible apply State.setDma_keeps
    | with_reducible apply Keeps.ite
    | with_reducible apply Keeps.iteFst
    | with_reducible refine Keeps.foldl ?_ fun _ _ _ => ?_
    | fail_if_no_progress with_reducible apply Keeps.litDev
    | fail_if_no_progress with_reducible apply Keeps.lit
    | dsimp only
    | split)

theorem State.piecePut_keeps {s t : State} (c a : Nat) (r : OutRec) (h : Keeps s t) : Keeps s (t.piecePut c a r).1 := by
  unfold State.piecePut
  repeat' (first
    | with_reducible assumption
    | with_reducible apply State.onDev_keeps
    | with_reducible apply State.xwrite_keeps
    | with_reducible apply State.setJob_keeps
    | with_reducible apply State.setQm_keeps
    | with_reducible apply State.setXlat_keeps
    | with_reducible apply State.setDma_keeps
    | with_reducible apply Keeps.ite
    | with_reducible apply Keeps.iteFst
    | with_reducible refine Keeps.foldl ?_ fun _ _ _ => ?_
    | fail_if_no_progress with_reducible apply Keeps.litDev
    | fail_if_no_progress with_reducible apply Keeps.lit
    | dsimp only
    | split)

theorem State.dropRec_keeps {s t : State} (a : Nat) (r : OutRec) (h : Keeps s t) : Keeps s (t.dropRec a r) := by
  unfold State.dropRec
  repeat' (first
    | with_reducible assumption
    | with_reducible apply State.onDev_keeps
    | with_reducible apply State.setQm_keeps
    | with_reducible apply State.setXlat_keeps
    | with_reducible apply State.setDma_keeps
    | with_reducible apply Keeps.ite
    | with_reducible apply Keeps.iteFst
    | with_reducible refine Keeps.foldl ?_ fun _ _ _ => ?_
    | fail_if_no_progress with_reducible apply Keeps.litDev
    | fail_if_no_progress with_reducible apply Keeps.lit
    | dsimp only
    | split)

theorem State.gapRec_keeps {s t : State} (idx drops : Nat) (h : Keeps s t) : Keeps s (t.gapRec idx drops).1 := by
  unfold State.gapRec
  repeat' (first
    | with_reducible assumption
    | with_reducible apply State.onDev_keeps
    | with_reducible apply State.setQm_keeps
    | with_reducible apply State.setXlat_keeps
    | with_reducible apply State.setDma_keeps
    | with_reducible apply Keeps.ite
    | with_reducible apply Keeps.iteFst
    | with_reducible refine Keeps.foldl ?_ fun _ _ _ => ?_
    | fail_if_no_progress with_reducible apply Keeps.litDev
    | fail_if_no_progress with_reducible apply Keeps.lit
    | dsimp only
    | split)

theorem State.putRec_keeps {s t : State} (c a : Nat) (r : OutRec) (h : Keeps s t) : Keeps s (t.putRec c a r).1 := by
  unfold State.putRec
  repeat' (first
    | with_reducible assumption
    | with_reducible apply State.setQm_keeps
    | with_reducible apply State.setJob_keeps
    | with_reducible apply State.readCtx_keeps
    | with_reducible apply State.ringPut_keeps
    | with_reducible apply State.piecePut_keeps
    | with_reducible apply State.gapRec_keeps
    | with_reducible apply State.onDev_keeps
    | with_reducible apply State.setXlat_keeps
    | with_reducible apply State.setDma_keeps
    | with_reducible apply Keeps.ite
    | with_reducible apply Keeps.iteFst
    | with_reducible refine Keeps.foldl ?_ fun _ _ _ => ?_
    | fail_if_no_progress with_reducible apply Keeps.litDev
    | fail_if_no_progress with_reducible apply Keeps.lit
    | dsimp only
    | split)

theorem State.offer_keeps {s t : State} (a : Nat) (r : OutRec) (h : Keeps s t) : Keeps s (t.offer a r) := by
  unfold State.offer
  repeat' (first
    | with_reducible assumption
    | with_reducible apply State.setQm_keeps
    | with_reducible apply State.setReady_keeps
    | with_reducible apply State.dropRec_keeps
    | with_reducible apply State.putRec_keeps
    | with_reducible apply State.onDev_keeps
    | with_reducible apply State.setXlat_keeps
    | with_reducible apply State.setDma_keeps
    | with_reducible apply Keeps.ite
    | with_reducible apply Keeps.iteFst
    | with_reducible refine Keeps.foldl ?_ fun _ _ _ => ?_
    | fail_if_no_progress with_reducible apply Keeps.litDev
    | fail_if_no_progress with_reducible apply Keeps.lit
    | dsimp only
    | split)

theorem State.masterError_keeps {s t : State} (a q tag code : Nat) (h : Keeps s t) : Keeps s (t.masterError a q tag code) := by
  unfold State.masterError
  repeat' (first
    | with_reducible assumption
    | with_reducible apply State.offer_keeps
    | with_reducible apply State.onDev_keeps
    | with_reducible apply State.setQm_keeps
    | with_reducible apply State.setXlat_keeps
    | with_reducible apply State.setDma_keeps
    | with_reducible apply Keeps.ite
    | with_reducible apply Keeps.iteFst
    | with_reducible refine Keeps.foldl ?_ fun _ _ _ => ?_
    | fail_if_no_progress with_reducible apply Keeps.litDev
    | fail_if_no_progress with_reducible apply Keeps.lit
    | dsimp only
    | split)

theorem State.writeHeld_keeps {s t : State} (c a idx fuel : Nat) (h : Keeps s t) : Keeps s (t.writeHeld c a idx fuel) := by
  induction fuel generalizing t with
  | zero => exact h
  | succ fuel ih =>
    unfold State.writeHeld
    repeat' (first
      | with_reducible apply ih
      | with_reducible assumption
      | with_reducible apply State.clearReady_keeps
      | with_reducible apply State.putRec_keeps
      | with_reducible apply State.onDev_keeps
      | with_reducible apply State.setQm_keeps
      | with_reducible apply State.setXlat_keeps
      | with_reducible apply State.setDma_keeps
      | with_reducible apply Keeps.ite
      | with_reducible apply Keeps.iteFst
      | with_reducible refine Keeps.foldl ?_ fun _ _ _ => ?_
      | fail_if_no_progress with_reducible apply Keeps.litDev
      | fail_if_no_progress with_reducible apply Keeps.lit
      | dsimp only
      | split)

theorem State.ringBell_keeps {s t : State} (q : Nat) (k : QCtx) (h : Keeps s t) : Keeps s (t.ringBell q k) := by
  unfold State.ringBell
  repeat' (first
    | with_reducible assumption
    | with_reducible apply State.onDev_keeps
    | with_reducible apply State.setReady_keeps
    | with_reducible apply State.setQm_keeps
    | with_reducible apply State.setXlat_keeps
    | with_reducible apply State.setDma_keeps
    | with_reducible apply Keeps.ite
    | with_reducible apply Keeps.iteFst
    | with_reducible refine Keeps.foldl ?_ fun _ _ _ => ?_
    | fail_if_no_progress with_reducible apply Keeps.litDev
    | fail_if_no_progress with_reducible apply Keeps.lit
    | dsimp only
    | split)

theorem State.doorbell_keeps {s t : State} (q : Nat) (h : Keeps s t) : Keeps s (t.doorbell q) := by
  unfold State.doorbell
  repeat' (first
    | with_reducible assumption
    | with_reducible apply State.onDev_keeps
    | with_reducible apply State.setReady_keeps
    | with_reducible apply State.setJob_keeps
    | with_reducible apply State.readCtx_keeps
    | with_reducible apply State.ringBell_keeps
    | with_reducible apply State.setQm_keeps
    | with_reducible apply State.setXlat_keeps
    | with_reducible apply State.setDma_keeps
    | with_reducible apply Keeps.ite
    | with_reducible apply Keeps.iteFst
    | with_reducible refine Keeps.foldl ?_ fun _ _ _ => ?_
    | fail_if_no_progress with_reducible apply Keeps.litDev
    | fail_if_no_progress with_reducible apply Keeps.lit
    | dsimp only
    | split)

theorem State.sendDesc_keeps {s t : State} (a q : Nat) (w : BitVec 128) (h : Keeps s t) : Keeps s (t.sendDesc a q w) := by
  unfold State.sendDesc
  repeat' (first
    | with_reducible assumption
    | with_reducible apply State.onDev_keeps
    | with_reducible apply State.setQm_keeps
    | with_reducible apply State.showOut_keeps
    | with_reducible apply State.masterError_keeps
    | with_reducible apply State.setXlat_keeps
    | with_reducible apply State.setDma_keeps
    | with_reducible apply Keeps.ite
    | with_reducible apply Keeps.iteFst
    | with_reducible refine Keeps.foldl ?_ fun _ _ _ => ?_
    | fail_if_no_progress with_reducible apply Keeps.litDev
    | fail_if_no_progress with_reducible apply Keeps.lit
    | dsimp only
    | split)

theorem State.serveHost_keeps {s t : State} (c a i : Nat) (h : Keeps s t) : Keeps s (t.serveHost c a i) := by
  unfold State.serveHost
  repeat' (first
    | with_reducible assumption
    | with_reducible apply State.onDev_keeps
    | with_reducible apply State.xwrite_keeps
    | with_reducible apply State.xread_keeps
    | with_reducible apply State.clearReady_keeps
    | with_reducible apply State.setJob_keeps
    | with_reducible apply State.readCtx_keeps
    | with_reducible apply State.sendDesc_keeps
    | with_reducible apply State.setQm_keeps
    | with_reducible apply State.setXlat_keeps
    | with_reducible apply State.setDma_keeps
    | with_reducible apply Keeps.ite
    | with_reducible apply Keeps.iteFst
    | with_reducible refine Keeps.foldl ?_ fun _ _ _ => ?_
    | fail_if_no_progress with_reducible apply Keeps.litDev
    | fail_if_no_progress with_reducible apply Keeps.lit
    | dsimp only
    | split)

theorem State.turn_keeps {s t : State} (l : List Nat) (h : Keeps s t) : Keeps s (t.turn l) := by
  induction l generalizing t with
  | nil => exact h
  | cons a r ih =>
    unfold State.turn
    repeat' (first
      | with_reducible apply ih
      | with_reducible assumption
      | with_reducible apply State.serveHost_keeps
      | with_reducible apply State.writeHeld_keeps
      | with_reducible apply State.onDev_keeps
      | with_reducible apply State.setQm_keeps
      | with_reducible apply State.setXlat_keeps
      | with_reducible apply State.setDma_keeps
      | with_reducible apply Keeps.ite
      | with_reducible apply Keeps.iteFst
      | with_reducible refine Keeps.foldl ?_ fun _ _ _ => ?_
      | fail_if_no_progress with_reducible apply Keeps.litDev
      | fail_if_no_progress with_reducible apply Keeps.lit
      | dsimp only
      | split)

theorem State.schedTurn_keeps {s t : State} (h : Keeps s t) : Keeps s t.schedTurn := by
  unfold State.schedTurn
  repeat' (first
    | with_reducible assumption
    | with_reducible apply State.turn_keeps
    | with_reducible apply State.onDev_keeps
    | with_reducible apply State.setQm_keeps
    | with_reducible apply State.setXlat_keeps
    | with_reducible apply State.setDma_keeps
    | with_reducible apply Keeps.ite
    | with_reducible apply Keeps.iteFst
    | with_reducible refine Keeps.foldl ?_ fun _ _ _ => ?_
    | fail_if_no_progress with_reducible apply Keeps.litDev
    | fail_if_no_progress with_reducible apply Keeps.lit
    | dsimp only
    | split)

theorem State.takeRec_keeps {s t : State} (a : Nat) (r : OutRec) (h : Keeps s t) : Keeps s (t.takeRec a r) := by
  unfold State.takeRec
  repeat' (first
    | with_reducible assumption
    | with_reducible apply State.onDev_keeps
    | with_reducible apply State.setQm_keeps
    | with_reducible apply State.showOut_keeps
    | with_reducible apply State.offer_keeps
    | with_reducible apply State.setXlat_keeps
    | with_reducible apply State.setDma_keeps
    | with_reducible apply Keeps.ite
    | with_reducible apply Keeps.iteFst
    | with_reducible refine Keeps.foldl ?_ fun _ _ _ => ?_
    | fail_if_no_progress with_reducible apply Keeps.litDev
    | fail_if_no_progress with_reducible apply Keeps.lit
    | dsimp only
    | split)

theorem State.recordRx_keeps {s t : State} (a idx : Nat) (w : BitVec 128) (h : Keeps s t) : Keeps s (t.recordRx a idx w) := by
  unfold State.recordRx
  repeat' (first
    | with_reducible assumption
    | with_reducible apply State.setQm_keeps
    | with_reducible apply State.takeRec_keeps
    | with_reducible apply State.onDev_keeps
    | with_reducible apply State.setXlat_keeps
    | with_reducible apply State.setDma_keeps
    | with_reducible apply Keeps.ite
    | with_reducible apply Keeps.iteFst
    | with_reducible refine Keeps.foldl ?_ fun _ _ _ => ?_
    | fail_if_no_progress with_reducible apply Keeps.litDev
    | fail_if_no_progress with_reducible apply Keeps.lit
    | dsimp only
    | split)

theorem State.timeout_keeps {s t : State} (h : Keeps s t) : Keeps s t.timeout := by
  unfold State.timeout
  repeat' (first
    | with_reducible assumption
    | with_reducible apply State.onDev_keeps
    | with_reducible apply State.setQm_keeps
    | with_reducible apply State.showOut_keeps
    | with_reducible apply State.masterError_keeps
    | with_reducible apply State.setXlat_keeps
    | with_reducible apply State.setDma_keeps
    | with_reducible apply Keeps.ite
    | with_reducible apply Keeps.iteFst
    | with_reducible refine Keeps.foldl ?_ fun _ _ _ => ?_
    | fail_if_no_progress with_reducible apply Keeps.litDev
    | fail_if_no_progress with_reducible apply Keeps.lit
    | dsimp only
    | split)

theorem State.enumAnswers_keeps {s t : State} (h : Keeps s t) : Keeps s t.enumAnswers := by
  unfold State.enumAnswers
  repeat' (first
    | with_reducible assumption
    | with_reducible apply State.setQm_keeps
    | with_reducible apply State.showOut_keeps
    | with_reducible apply State.masterError_keeps
    | with_reducible apply State.onDev_keeps
    | with_reducible apply State.setXlat_keeps
    | with_reducible apply State.setDma_keeps
    | with_reducible apply Keeps.ite
    | with_reducible apply Keeps.iteFst
    | with_reducible refine Keeps.foldl ?_ fun _ _ _ => ?_
    | fail_if_no_progress with_reducible apply Keeps.litDev
    | fail_if_no_progress with_reducible apply Keeps.lit
    | dsimp only
    | split)

theorem State.lostFrame_keeps {s t : State} (m : MgmtFrame) (h : Keeps s t) : Keeps s (t.lostFrame m) := by
  unfold State.lostFrame
  repeat' (first
    | with_reducible assumption
    | with_reducible apply State.setQm_keeps
    | with_reducible apply State.showOut_keeps
    | with_reducible apply State.masterError_keeps
    | with_reducible apply State.onDev_keeps
    | with_reducible apply State.setXlat_keeps
    | with_reducible apply State.setDma_keeps
    | with_reducible apply Keeps.ite
    | with_reducible apply Keeps.iteFst
    | with_reducible refine Keeps.foldl ?_ fun _ _ _ => ?_
    | fail_if_no_progress with_reducible apply Keeps.litDev
    | fail_if_no_progress with_reducible apply Keeps.lit
    | dsimp only
    | split)

theorem State.mailIn_keeps {s t : State} (a : Nat) (p : List Nat) (h : Keeps s t) : Keeps s (t.mailIn a p) := by
  unfold State.mailIn
  repeat' (first
    | with_reducible assumption
    | with_reducible apply State.setQm_keeps
    | with_reducible apply State.offer_keeps
    | with_reducible apply State.onDev_keeps
    | with_reducible apply State.setXlat_keeps
    | with_reducible apply State.setDma_keeps
    | with_reducible apply Keeps.ite
    | with_reducible apply Keeps.iteFst
    | with_reducible refine Keeps.foldl ?_ fun _ _ _ => ?_
    | fail_if_no_progress with_reducible apply Keeps.litDev
    | fail_if_no_progress with_reducible apply Keeps.lit
    | dsimp only
    | split)

theorem State.takeExec_keeps {s t : State} (q op : Nat) (tag : Nat) (h : Keeps s t) : Keeps s (t.takeExec q op tag) := by
  unfold State.takeExec
  repeat' (first
    | with_reducible assumption
    | with_reducible apply State.setQm_keeps
    | with_reducible apply State.onDev_keeps
    | with_reducible apply State.setXlat_keeps
    | with_reducible apply State.setDma_keeps
    | with_reducible apply Keeps.ite
    | with_reducible apply Keeps.iteFst
    | with_reducible refine Keeps.foldl ?_ fun _ _ _ => ?_
    | fail_if_no_progress with_reducible apply Keeps.litDev
    | fail_if_no_progress with_reducible apply Keeps.lit
    | dsimp only
    | split)

theorem State.upTrace_keeps {s t : State} (q tag addr buf len : Nat) (h : Keeps s t) : Keeps s (t.upTrace q tag addr buf len) := by
  unfold State.upTrace
  repeat' (first
    | with_reducible assumption
    | with_reducible apply State.onDev_keeps
    | with_reducible apply State.setQm_keeps
    | with_reducible apply State.setXlat_keeps
    | with_reducible apply State.setDma_keeps
    | with_reducible apply Keeps.ite
    | with_reducible apply Keeps.iteFst
    | with_reducible refine Keeps.foldl ?_ fun _ _ _ => ?_
    | fail_if_no_progress with_reducible apply Keeps.litDev
    | fail_if_no_progress with_reducible apply Keeps.lit
    | dsimp only
    | split)

theorem State.upRec_keeps {s t : State} (q tag buf len : Nat) (h : Keeps s t) : Keeps s (t.upRec q tag buf len) := by
  unfold State.upRec
  repeat' (first
    | with_reducible assumption
    | with_reducible apply State.setQm_keeps
    | with_reducible apply State.onDev_keeps
    | with_reducible apply State.setXlat_keeps
    | with_reducible apply State.setDma_keeps
    | with_reducible apply Keeps.ite
    | with_reducible apply Keeps.iteFst
    | with_reducible refine Keeps.foldl ?_ fun _ _ _ => ?_
    | fail_if_no_progress with_reducible apply Keeps.litDev
    | fail_if_no_progress with_reducible apply Keeps.lit
    | dsimp only
    | split)

theorem State.upDone_keeps {s t : State} (h : Keeps s t) : Keeps s t.upDone := by
  unfold State.upDone
  repeat' (first
    | with_reducible assumption
    | with_reducible apply State.onDev_keeps
    | with_reducible apply State.setQm_keeps
    | with_reducible apply State.setXlat_keeps
    | with_reducible apply State.setDma_keeps
    | with_reducible apply Keeps.ite
    | with_reducible apply Keeps.iteFst
    | with_reducible refine Keeps.foldl ?_ fun _ _ _ => ?_
    | fail_if_no_progress with_reducible apply Keeps.litDev
    | fail_if_no_progress with_reducible apply Keeps.lit
    | dsimp only
    | split)

theorem State.drainOut_keeps {s t : State} (h : Keeps s t) : Keeps s t.drainOut := by
  unfold State.drainOut
  repeat' (first
    | with_reducible assumption
    | with_reducible apply State.onDev_keeps
    | with_reducible apply State.offer_keeps
    | with_reducible apply State.takeRec_keeps
    | with_reducible apply State.setQm_keeps
    | with_reducible apply State.setXlat_keeps
    | with_reducible apply State.setDma_keeps
    | with_reducible apply Keeps.ite
    | with_reducible apply Keeps.iteFst
    | with_reducible refine Keeps.foldl ?_ fun _ _ _ => ?_
    | fail_if_no_progress with_reducible apply Keeps.litDev
    | fail_if_no_progress with_reducible apply Keeps.lit
    | dsimp only
    | split)

theorem State.qmResume_keeps {s t : State} (c : Nat) (h : Keeps s t) : Keeps s (t.qmResume c) := by
  unfold State.qmResume
  repeat' (first
    | with_reducible assumption
    | with_reducible apply State.setQm_keeps
    | with_reducible apply State.dropRec_keeps
    | with_reducible apply State.putRec_keeps
    | with_reducible apply State.doorbell_keeps
    | with_reducible apply State.serveHost_keeps
    | with_reducible apply State.onDev_keeps
    | with_reducible apply State.setXlat_keeps
    | with_reducible apply State.setDma_keeps
    | with_reducible apply Keeps.ite
    | with_reducible apply Keeps.iteFst
    | with_reducible refine Keeps.foldl ?_ fun _ _ _ => ?_
    | fail_if_no_progress with_reducible apply Keeps.litDev
    | fail_if_no_progress with_reducible apply Keeps.lit
    | dsimp only
    | split)

theorem State.qmAbort_keeps {s t : State} (c : Nat) (h : Keeps s t) : Keeps s (t.qmAbort c) := by
  unfold State.qmAbort
  repeat' (first
    | with_reducible assumption
    | with_reducible apply State.onDev_keeps
    | with_reducible apply State.setQm_keeps
    | with_reducible apply State.showOut_keeps
    | with_reducible apply State.offer_keeps
    | with_reducible apply State.setXlat_keeps
    | with_reducible apply State.setDma_keeps
    | with_reducible apply Keeps.ite
    | with_reducible apply Keeps.iteFst
    | with_reducible refine Keeps.foldl ?_ fun _ _ _ => ?_
    | fail_if_no_progress with_reducible apply Keeps.litDev
    | fail_if_no_progress with_reducible apply Keeps.lit
    | dsimp only
    | split)

theorem State.dmaGo_keeps {s t : State} (c : Nat) (h : Keeps s t) : Keeps s (t.dmaGo c) := by
  unfold State.dmaGo
  repeat' (first
    | with_reducible assumption
    | with_reducible apply State.onDev_keeps
    | with_reducible apply State.setDma_keeps
    | with_reducible apply State.setQm_keeps
    | with_reducible apply State.setXlat_keeps
    | with_reducible apply Keeps.ite
    | with_reducible apply Keeps.iteFst
    | with_reducible refine Keeps.foldl ?_ fun _ _ _ => ?_
    | fail_if_no_progress with_reducible apply Keeps.litDev
    | fail_if_no_progress with_reducible apply Keeps.lit
    | dsimp only
    | split)

theorem State.ringRec_keeps {s t : State} (c n : Nat) (bytes : List Nat) (h : Keeps s t) : Keeps s (t.ringRec c n bytes) := by
  unfold State.ringRec
  repeat' (first
    | with_reducible assumption
    | with_reducible apply State.onDev_keeps
    | with_reducible apply State.setDma_keeps
    | with_reducible apply State.setQm_keeps
    | with_reducible apply State.setXlat_keeps
    | with_reducible apply Keeps.ite
    | with_reducible apply Keeps.iteFst
    | with_reducible refine Keeps.foldl ?_ fun _ _ _ => ?_
    | fail_if_no_progress with_reducible apply Keeps.litDev
    | fail_if_no_progress with_reducible apply Keeps.lit
    | dsimp only
    | split)

theorem State.dmaResume_keeps {s t : State} (c : Nat) (h : Keeps s t) : Keeps s (t.dmaResume c) := by
  unfold State.dmaResume
  repeat' (first
    | with_reducible assumption
    | with_reducible apply State.onDev_keeps
    | with_reducible apply State.setDma_keeps
    | with_reducible apply State.qmResume_keeps
    | with_reducible apply State.setQm_keeps
    | with_reducible apply State.setXlat_keeps
    | with_reducible apply Keeps.ite
    | with_reducible apply Keeps.iteFst
    | with_reducible refine Keeps.foldl ?_ fun _ _ _ => ?_
    | fail_if_no_progress with_reducible apply Keeps.litDev
    | fail_if_no_progress with_reducible apply Keeps.lit
    | dsimp only
    | split)

theorem State.dmaAbort_keeps {s t : State} (c : Nat) (h : Keeps s t) : Keeps s (t.dmaAbort c) := by
  unfold State.dmaAbort
  repeat' (first
    | with_reducible assumption
    | with_reducible apply State.onDev_keeps
    | with_reducible apply State.setDma_keeps
    | with_reducible apply State.qmAbort_keeps
    | with_reducible apply State.setQm_keeps
    | with_reducible apply State.setXlat_keeps
    | with_reducible apply Keeps.ite
    | with_reducible apply Keeps.iteFst
    | with_reducible refine Keeps.foldl ?_ fun _ _ _ => ?_
    | fail_if_no_progress with_reducible apply Keeps.litDev
    | fail_if_no_progress with_reducible apply Keeps.lit
    | dsimp only
    | split)

theorem State.dmaReadTimeout_keeps {s t : State} (c : Nat) (h : Keeps s t) : Keeps s (t.dmaReadTimeout c) := by
  unfold State.dmaReadTimeout
  repeat' (first
    | with_reducible assumption
    | with_reducible apply State.xfault_keeps
    | with_reducible apply State.onDev_keeps
    | with_reducible apply State.setQm_keeps
    | with_reducible apply State.setXlat_keeps
    | with_reducible apply State.setDma_keeps
    | with_reducible apply Keeps.ite
    | with_reducible apply Keeps.iteFst
    | with_reducible refine Keeps.foldl ?_ fun _ _ _ => ?_
    | fail_if_no_progress with_reducible apply Keeps.litDev
    | fail_if_no_progress with_reducible apply Keeps.lit
    | dsimp only
    | split)

theorem State.showFeed_keeps {s t : State} (c : Nat) (h : Keeps s t) : Keeps s (t.showFeed c) := by
  unfold State.showFeed
  repeat' (first
    | with_reducible assumption
    | with_reducible apply State.onDev_keeps
    | with_reducible apply State.setQm_keeps
    | with_reducible apply State.setXlat_keeps
    | with_reducible apply State.setDma_keeps
    | with_reducible apply Keeps.ite
    | with_reducible apply Keeps.iteFst
    | with_reducible refine Keeps.foldl ?_ fun _ _ _ => ?_
    | fail_if_no_progress with_reducible apply Keeps.litDev
    | fail_if_no_progress with_reducible apply Keeps.lit
    | dsimp only
    | split)

theorem State.dmaFeed_keeps {s t : State} (c : Nat) (w : Word) (h : Keeps s t) : Keeps s (t.dmaFeed c w) := by
  unfold State.dmaFeed
  repeat' (first
    | with_reducible assumption
    | with_reducible apply State.onDev_keeps
    | with_reducible apply State.setDma_keeps
    | with_reducible apply State.showFeed_keeps
    | with_reducible apply State.setQm_keeps
    | with_reducible apply State.setXlat_keeps
    | with_reducible apply Keeps.ite
    | with_reducible apply Keeps.iteFst
    | with_reducible refine Keeps.foldl ?_ fun _ _ _ => ?_
    | fail_if_no_progress with_reducible apply Keeps.litDev
    | fail_if_no_progress with_reducible apply Keeps.lit
    | dsimp only
    | split)

theorem State.snapFlush_keeps {s t : State} (c : Nat) (h : Keeps s t) : Keeps s (t.snapFlush c) := by
  unfold State.snapFlush
  repeat' (first
    | with_reducible assumption
    | with_reducible apply State.setDma_keeps
    | with_reducible apply State.ringRec_keeps
    | with_reducible apply State.onDev_keeps
    | with_reducible apply State.setQm_keeps
    | with_reducible apply State.setXlat_keeps
    | with_reducible apply Keeps.ite
    | with_reducible apply Keeps.iteFst
    | with_reducible refine Keeps.foldl ?_ fun _ _ _ => ?_
    | fail_if_no_progress with_reducible apply Keeps.litDev
    | fail_if_no_progress with_reducible apply Keeps.lit
    | dsimp only
    | split)

theorem State.snapWord_keeps {s t : State} (c : Nat) (w : SampleWord) (h : Keeps s t) : Keeps s (t.snapWord c w) := by
  unfold State.snapWord
  repeat' (first
    | with_reducible assumption
    | with_reducible apply State.setDma_keeps
    | with_reducible apply State.snapFlush_keeps
    | with_reducible apply State.onDev_keeps
    | with_reducible apply State.setQm_keeps
    | with_reducible apply State.setXlat_keeps
    | with_reducible apply Keeps.ite
    | with_reducible apply Keeps.iteFst
    | with_reducible refine Keeps.foldl ?_ fun _ _ _ => ?_
    | fail_if_no_progress with_reducible apply Keeps.litDev
    | fail_if_no_progress with_reducible apply Keeps.lit
    | dsimp only
    | split)

theorem State.traceOut_keeps {s t : State} (e : Nat) (rec : BitVec 128) (h : Keeps s t) : Keeps s (t.traceOut e rec) := by
  unfold State.traceOut
  repeat' (first
    | with_reducible assumption
    | with_reducible apply State.onDev_keeps
    | with_reducible apply State.ringRec_keeps
    | with_reducible apply State.setQm_keeps
    | with_reducible apply State.setXlat_keeps
    | with_reducible apply State.setDma_keeps
    | with_reducible apply Keeps.ite
    | with_reducible apply Keeps.iteFst
    | with_reducible refine Keeps.foldl ?_ fun _ _ _ => ?_
    | fail_if_no_progress with_reducible apply Keeps.litDev
    | fail_if_no_progress with_reducible apply Keeps.lit
    | dsimp only
    | split)

theorem State.monOut_keeps {s t : State} (h : Keeps s t) : Keeps s t.monOut := by
  unfold State.monOut
  repeat' (first
    | with_reducible assumption
    | with_reducible apply State.onDev_keeps
    | with_reducible apply State.setDma_keeps
    | with_reducible apply State.setQm_keeps
    | with_reducible apply State.setXlat_keeps
    | with_reducible apply Keeps.ite
    | with_reducible apply Keeps.iteFst
    | with_reducible refine Keeps.foldl ?_ fun _ _ _ => ?_
    | fail_if_no_progress with_reducible apply Keeps.litDev
    | fail_if_no_progress with_reducible apply Keeps.lit
    | dsimp only
    | split)

theorem State.drainFeeds_keeps {s t : State} (h : Keeps s t) : Keeps s t.drainFeeds := by
  unfold State.drainFeeds
  repeat' (first
    | with_reducible assumption
    | with_reducible apply State.onDev_keeps
    | with_reducible apply State.snapWord_keeps
    | with_reducible apply State.traceOut_keeps
    | with_reducible apply State.monOut_keeps
    | with_reducible apply State.setQm_keeps
    | with_reducible apply State.setXlat_keeps
    | with_reducible apply State.setDma_keeps
    | with_reducible apply Keeps.ite
    | with_reducible apply Keeps.iteFst
    | with_reducible refine Keeps.foldl ?_ fun _ _ _ => ?_
    | fail_if_no_progress with_reducible apply Keeps.litDev
    | fail_if_no_progress with_reducible apply Keeps.lit
    | dsimp only
    | split)

theorem State.msiSend_keeps {s t : State} (v : Nat) (h : Keeps s t) : Keeps s (t.msiSend v) := by
  unfold State.msiSend
  repeat' (first
    | with_reducible assumption
    | with_reducible apply State.onDev_keeps
    | with_reducible apply State.setQm_keeps
    | with_reducible apply State.setXlat_keeps
    | with_reducible apply State.setDma_keeps
    | with_reducible apply Keeps.ite
    | with_reducible apply Keeps.iteFst
    | with_reducible refine Keeps.foldl ?_ fun _ _ _ => ?_
    | fail_if_no_progress with_reducible apply Keeps.litDev
    | fail_if_no_progress with_reducible apply Keeps.lit
    | dsimp only
    | split)

theorem State.msiAll_keeps {s t : State} (h : Keeps s t) : Keeps s t.msiAll := by
  unfold State.msiAll
  repeat' (first
    | with_reducible assumption
    | with_reducible apply State.onDev_keeps
    | with_reducible apply State.msiSend_keeps
    | with_reducible apply State.setQm_keeps
    | with_reducible apply State.setXlat_keeps
    | with_reducible apply State.setDma_keeps
    | with_reducible apply Keeps.ite
    | with_reducible apply Keeps.iteFst
    | with_reducible refine Keeps.foldl ?_ fun _ _ _ => ?_
    | fail_if_no_progress with_reducible apply Keeps.litDev
    | fail_if_no_progress with_reducible apply Keeps.lit
    | dsimp only
    | split)

theorem State.commitRun_keeps {s t : State} (pg : Nat) (snap : SMap Word) (h : Keeps s t) : Keeps s (t.commitRun pg snap) := by
  unfold State.commitRun
  repeat' (first
    | with_reducible assumption
    | with_reducible apply State.onDev_keeps
    | with_reducible apply State.xflush_keeps
    | with_reducible apply State.setQm_keeps
    | with_reducible apply State.setXlat_keeps
    | with_reducible apply State.setDma_keeps
    | with_reducible apply Keeps.ite
    | with_reducible apply Keeps.iteFst
    | with_reducible refine Keeps.foldl ?_ fun _ _ _ => ?_
    | fail_if_no_progress with_reducible apply Keeps.litDev
    | fail_if_no_progress with_reducible apply Keeps.lit
    | dsimp only
    | split)

theorem State.commitDone_keeps {s t : State} (pg : Nat) (h : Keeps s t) : Keeps s (t.commitDone pg) := by
  unfold State.commitDone
  repeat' (first
    | with_reducible assumption
    | with_reducible apply State.onDev_keeps
    | with_reducible apply State.commitRun_keeps
    | with_reducible apply State.setQm_keeps
    | with_reducible apply State.setXlat_keeps
    | with_reducible apply State.setDma_keeps
    | with_reducible apply Keeps.ite
    | with_reducible apply Keeps.iteFst
    | with_reducible refine Keeps.foldl ?_ fun _ _ _ => ?_
    | fail_if_no_progress with_reducible apply Keeps.litDev
    | fail_if_no_progress with_reducible apply Keeps.lit
    | dsimp only
    | split)

theorem State.commitAct_keeps {s t : State} (pg : Nat) (h : Keeps s t) : Keeps s (t.commitAct pg) := by
  unfold State.commitAct
  repeat' (first
    | with_reducible assumption
    | with_reducible apply State.onDev_keeps
    | with_reducible apply State.commitRun_keeps
    | with_reducible apply State.setQm_keeps
    | with_reducible apply State.setXlat_keeps
    | with_reducible apply State.setDma_keeps
    | with_reducible apply Keeps.ite
    | with_reducible apply Keeps.iteFst
    | with_reducible refine Keeps.foldl ?_ fun _ _ _ => ?_
    | fail_if_no_progress with_reducible apply Keeps.litDev
    | fail_if_no_progress with_reducible apply Keeps.lit
    | dsimp only
    | split)

theorem State.softReset_keeps {s t : State} (pg : Nat) (h : Keeps s t) : Keeps s (t.softReset pg) := by
  unfold State.softReset
  repeat' (first
    | with_reducible assumption
    | with_reducible apply State.onDev_keeps
    | with_reducible apply State.setQm_keeps
    | with_reducible apply State.setXlat_keeps
    | with_reducible apply State.setDma_keeps
    | with_reducible apply State.qmAbort_keeps
    | with_reducible apply Keeps.ite
    | with_reducible apply Keeps.iteFst
    | with_reducible refine Keeps.foldl ?_ fun _ _ _ => ?_
    | fail_if_no_progress with_reducible apply Keeps.litDev
    | fail_if_no_progress with_reducible apply Keeps.lit
    | dsimp only
    | split)

theorem State.enterReset_keeps {s t : State} (h : Keeps s t) : Keeps s t.enterReset := by
  unfold State.enterReset
  exact Keeps.lit h

theorem State.enterPor_keeps {s t : State} (h : Keeps s t) : Keeps s t.enterPor := h

theorem State.supplyDip_keeps {s t : State} (rail : Nat) (h : Keeps s t) : Keeps s (t.supplyDip rail) := by
  unfold State.supplyDip
  repeat' (first
    | with_reducible assumption
    | with_reducible apply State.onDev_keeps
    | with_reducible apply State.enterPor_keeps
    | with_reducible apply State.setQm_keeps
    | with_reducible apply State.setXlat_keeps
    | with_reducible apply State.setDma_keeps
    | with_reducible apply Keeps.ite
    | with_reducible apply Keeps.iteFst
    | with_reducible refine Keeps.foldl ?_ fun _ _ _ => ?_
    | fail_if_no_progress with_reducible apply Keeps.litDev
    | fail_if_no_progress with_reducible apply Keeps.lit
    | dsimp only
    | split)

theorem State.vaonLow_keeps {s t : State} (lost : Bool) (h : Keeps s t) : Keeps s (t.vaonLow lost) := by
  unfold State.vaonLow
  repeat' (first
    | with_reducible assumption
    | with_reducible apply State.onDev_keeps
    | with_reducible apply State.enterPor_keeps
    | with_reducible apply State.setQm_keeps
    | with_reducible apply State.setXlat_keeps
    | with_reducible apply State.setDma_keeps
    | with_reducible apply Keeps.ite
    | with_reducible apply Keeps.iteFst
    | with_reducible refine Keeps.foldl ?_ fun _ _ _ => ?_
    | fail_if_no_progress with_reducible apply Keeps.litDev
    | fail_if_no_progress with_reducible apply Keeps.lit
    | dsimp only
    | split)

theorem State.resetAssert_keeps {s t : State} (h : Keeps s t) : Keeps s t.resetAssert := by
  unfold State.resetAssert
  repeat' (first
    | with_reducible assumption
    | with_reducible apply State.onDev_keeps
    | with_reducible apply State.enterReset_keeps
    | with_reducible apply State.setQm_keeps
    | with_reducible apply State.setXlat_keeps
    | with_reducible apply State.setDma_keeps
    | with_reducible apply Keeps.ite
    | with_reducible apply Keeps.iteFst
    | with_reducible refine Keeps.foldl ?_ fun _ _ _ => ?_
    | fail_if_no_progress with_reducible apply Keeps.litDev
    | fail_if_no_progress with_reducible apply Keeps.lit
    | dsimp only
    | split)

theorem State.flr_keeps {s t : State} (h : Keeps s t) : Keeps s t.flr := by
  unfold State.flr
  repeat' (first
    | with_reducible assumption
    | with_reducible apply State.onDev_keeps
    | with_reducible apply State.enterReset_keeps
    | with_reducible apply State.setQm_keeps
    | with_reducible apply State.setXlat_keeps
    | with_reducible apply State.setDma_keeps
    | with_reducible apply Keeps.ite
    | with_reducible apply Keeps.iteFst
    | with_reducible refine Keeps.foldl ?_ fun _ _ _ => ?_
    | fail_if_no_progress with_reducible apply Keeps.litDev
    | fail_if_no_progress with_reducible apply Keeps.lit
    | dsimp only
    | split)

theorem State.react_keeps {s t : State} (xs : List FaultSig) (b f r : Nat) (h : Keeps s t) : Keeps s (t.react xs b f r) := by
  unfold State.react
  repeat' (first
    | with_reducible assumption
    | with_reducible apply State.onDev_keeps
    | with_reducible apply State.softReset_keeps
    | with_reducible apply State.setQm_keeps
    | with_reducible apply State.setXlat_keeps
    | with_reducible apply State.setDma_keeps
    | with_reducible apply Keeps.ite
    | with_reducible apply Keeps.iteFst
    | with_reducible refine Keeps.foldl ?_ fun _ _ _ => ?_
    | fail_if_no_progress with_reducible apply Keeps.litDev
    | fail_if_no_progress with_reducible apply Keeps.lit
    | dsimp only
    | split)

theorem State.chipReset_keeps {s t : State} (h : Keeps s t) : Keeps s t.chipReset := by
  unfold State.chipReset
  repeat' (first
    | with_reducible assumption
    | with_reducible apply State.onDev_keeps
    | with_reducible apply State.enterReset_keeps
    | with_reducible apply State.setQm_keeps
    | with_reducible apply State.setXlat_keeps
    | with_reducible apply State.setDma_keeps
    | with_reducible apply Keeps.ite
    | with_reducible apply Keeps.iteFst
    | with_reducible refine Keeps.foldl ?_ fun _ _ _ => ?_
    | fail_if_no_progress with_reducible apply Keeps.litDev
    | fail_if_no_progress with_reducible apply Keeps.lit
    | dsimp only
    | split)

theorem State.faultCycle_keeps {s t : State} (xs : List FaultSig) (h : Keeps s t) : Keeps s (t.faultCycle xs) := by
  unfold State.faultCycle
  repeat' (first
    | with_reducible assumption
    | with_reducible apply State.onDev_keeps
    | with_reducible apply State.react_keeps
    | with_reducible apply State.chipReset_keeps
    | with_reducible apply State.setQm_keeps
    | with_reducible apply State.setXlat_keeps
    | with_reducible apply State.setDma_keeps
    | with_reducible apply Keeps.ite
    | with_reducible apply Keeps.iteFst
    | with_reducible refine Keeps.foldl ?_ fun _ _ _ => ?_
    | fail_if_no_progress with_reducible apply Keeps.litDev
    | fail_if_no_progress with_reducible apply Keeps.lit
    | dsimp only
    | split)

theorem State.faultCycles_keeps {s t : State} (n : Nat) (h : Keeps s t) : Keeps s (State.faultCycles n t) := by
  induction n generalizing t with
  | zero => exact h
  | succ n ih =>
    unfold State.faultCycles
    repeat' (first
      | with_reducible apply ih
      | with_reducible assumption
      | with_reducible apply State.faultCycle_keeps
      | with_reducible apply State.onDev_keeps
      | with_reducible apply State.setQm_keeps
      | with_reducible apply State.setXlat_keeps
      | with_reducible apply State.setDma_keeps
      | with_reducible apply Keeps.ite
      | with_reducible apply Keeps.iteFst
      | with_reducible refine Keeps.foldl ?_ fun _ _ _ => ?_
      | fail_if_no_progress with_reducible apply Keeps.litDev
      | fail_if_no_progress with_reducible apply Keeps.lit
      | dsimp only
      | split)

theorem State.finish_keeps {s t : State} (o : Dev) (h : Keeps s t) : Keeps s (State.finish o t) := by
  unfold State.finish
  repeat' (first
    | with_reducible assumption
    | with_reducible apply State.faultCycles_keeps
    | with_reducible apply State.mailIn_keeps
    | with_reducible apply State.lostFrame_keeps
    | with_reducible apply State.drainFeeds_keeps
    | with_reducible apply State.drainOut_keeps
    | with_reducible apply State.msiAll_keeps
    | with_reducible apply State.onDev_keeps
    | with_reducible apply State.setQm_keeps
    | with_reducible apply State.setXlat_keeps
    | with_reducible apply State.setDma_keeps
    | with_reducible apply Keeps.ite
    | with_reducible apply Keeps.iteFst
    | with_reducible refine Keeps.foldl ?_ fun _ _ _ => ?_
    | fail_if_no_progress with_reducible apply Keeps.litDev
    | fail_if_no_progress with_reducible apply Keeps.lit
    | dsimp only
    | split)

theorem State.setPath_keeps {s t : State} (n : Nat) (p : PathSt) (h : Keeps s t) : Keeps s (t.setPath n p) := by
  unfold State.setPath
  repeat' (first
    | with_reducible assumption
    | with_reducible apply State.onDev_keeps
    | with_reducible apply State.setQm_keeps
    | with_reducible apply State.setXlat_keeps
    | with_reducible apply State.setDma_keeps
    | with_reducible apply Keeps.ite
    | with_reducible apply Keeps.iteFst
    | with_reducible refine Keeps.foldl ?_ fun _ _ _ => ?_
    | fail_if_no_progress with_reducible apply Keeps.litDev
    | fail_if_no_progress with_reducible apply Keeps.lit
    | dsimp only
    | split)

theorem State.entryWord_keeps {s t : State} (k n w : Nat) (h : Keeps s t) : Keeps s (t.entryWord k n w).1 := by
  unfold State.entryWord
  repeat' (first
    | with_reducible assumption
    | with_reducible apply State.setPath_keeps
    | with_reducible apply State.onDev_keeps
    | with_reducible apply State.setQm_keeps
    | with_reducible apply State.setXlat_keeps
    | with_reducible apply State.setDma_keeps
    | with_reducible apply Keeps.ite
    | with_reducible apply Keeps.iteFst
    | with_reducible refine Keeps.foldl ?_ fun _ _ _ => ?_
    | fail_if_no_progress with_reducible apply Keeps.litDev
    | fail_if_no_progress with_reducible apply Keeps.lit
    | dsimp only
    | split)

theorem State.badRead_keeps {s t : State} (a : Nat) (h : Keeps s t) : Keeps s (t.badRead a).1 := by
  unfold State.badRead
  repeat' (first
    | with_reducible assumption
    | with_reducible apply State.onDev_keeps
    | with_reducible apply State.setQm_keeps
    | with_reducible apply State.setXlat_keeps
    | with_reducible apply State.setDma_keeps
    | with_reducible apply Keeps.ite
    | with_reducible apply Keeps.iteFst
    | with_reducible refine Keeps.foldl ?_ fun _ _ _ => ?_
    | fail_if_no_progress with_reducible apply Keeps.litDev
    | fail_if_no_progress with_reducible apply Keeps.lit
    | dsimp only
    | split)

theorem State.readReg_keeps {s t : State} (k a : Nat) (h : Keeps s t) : Keeps s (t.readReg k a).1 := by
  unfold State.readReg
  repeat' (first
    | with_reducible assumption
    | with_reducible apply State.onDev_keeps
    | with_reducible apply State.fifoPop_keeps
    | with_reducible apply State.setPath_keeps
    | with_reducible apply State.entryWord_keeps
    | with_reducible apply State.badRead_keeps
    | with_reducible apply State.setQm_keeps
    | with_reducible apply State.setXlat_keeps
    | with_reducible apply State.setDma_keeps
    | with_reducible apply Keeps.ite
    | with_reducible apply Keeps.iteFst
    | with_reducible refine Keeps.foldl ?_ fun _ _ _ => ?_
    | fail_if_no_progress with_reducible apply Keeps.litDev
    | fail_if_no_progress with_reducible apply Keeps.lit
    | dsimp only
    | split)

theorem State.notePath_keeps {s t : State} (k : Nat) (w : Word) (h : Keeps s t) : Keeps s (t.notePath k w) := by
  unfold State.notePath
  repeat' (first
    | with_reducible assumption
    | with_reducible apply State.setPath_keeps
    | with_reducible apply State.onDev_keeps
    | with_reducible apply State.setQm_keeps
    | with_reducible apply State.setXlat_keeps
    | with_reducible apply State.setDma_keeps
    | with_reducible apply Keeps.ite
    | with_reducible apply Keeps.iteFst
    | with_reducible refine Keeps.foldl ?_ fun _ _ _ => ?_
    | fail_if_no_progress with_reducible apply Keeps.litDev
    | fail_if_no_progress with_reducible apply Keeps.lit
    | dsimp only
    | split)

theorem State.busRead_keeps {s t : State} (k a n : Nat) (h : Keeps s t) : Keeps s (t.busRead k a n).1 := by
  unfold State.busRead
  repeat' (first
    | with_reducible assumption
    | with_reducible apply State.onDev_keeps
    | with_reducible apply State.badRead_keeps
    | with_reducible apply State.readReg_keeps
    | with_reducible apply State.notePath_keeps
    | with_reducible apply State.setQm_keeps
    | with_reducible apply State.setXlat_keeps
    | with_reducible apply State.setDma_keeps
    | with_reducible apply Keeps.ite
    | with_reducible apply Keeps.iteFst
    | with_reducible refine Keeps.foldl ?_ fun _ _ _ => ?_
    | fail_if_no_progress with_reducible apply Keeps.litDev
    | fail_if_no_progress with_reducible apply Keeps.lit
    | dsimp only
    | split)

theorem State.ctlWritten_keeps {s t : State} (pg : Nat) (w : Word) (h : Keeps s t) : Keeps s (t.ctlWritten pg w) := by
  unfold State.ctlWritten
  repeat' (first
    | with_reducible assumption
    | with_reducible apply State.onDev_keeps
    | with_reducible apply State.softReset_keeps
    | with_reducible apply State.setQm_keeps
    | with_reducible apply State.setXlat_keeps
    | with_reducible apply State.setDma_keeps
    | with_reducible apply Keeps.ite
    | with_reducible apply Keeps.iteFst
    | with_reducible refine Keeps.foldl ?_ fun _ _ _ => ?_
    | fail_if_no_progress with_reducible apply Keeps.litDev
    | fail_if_no_progress with_reducible apply Keeps.lit
    | dsimp only
    | split)

theorem State.enumGo_keeps {s t : State} (keep : Bool) (h : Keeps s t) : Keeps s (t.enumGo keep) := by
  unfold State.enumGo
  repeat' (first
    | with_reducible assumption
    | with_reducible apply State.onDev_keeps
    | with_reducible apply State.enumAnswers_keeps
    | with_reducible apply State.setQm_keeps
    | with_reducible apply State.setXlat_keeps
    | with_reducible apply State.setDma_keeps
    | with_reducible apply Keeps.ite
    | with_reducible apply Keeps.iteFst
    | with_reducible refine Keeps.foldl ?_ fun _ _ _ => ?_
    | fail_if_no_progress with_reducible apply Keeps.litDev
    | fail_if_no_progress with_reducible apply Keeps.lit
    | dsimp only
    | split)

theorem State.dmaCtl_keeps {s t : State} (c : Nat) (w : Word) (h : Keeps s t) : Keeps s (t.dmaCtl c w) := by
  unfold State.dmaCtl
  repeat' (first
    | with_reducible assumption
    | with_reducible apply State.onDev_keeps
    | with_reducible apply State.dmaGo_keeps
    | with_reducible apply State.dmaResume_keeps
    | with_reducible apply State.dmaAbort_keeps
    | with_reducible apply State.setQm_keeps
    | with_reducible apply State.setXlat_keeps
    | with_reducible apply State.setDma_keeps
    | with_reducible apply Keeps.ite
    | with_reducible apply Keeps.iteFst
    | with_reducible refine Keeps.foldl ?_ fun _ _ _ => ?_
    | fail_if_no_progress with_reducible apply Keeps.litDev
    | fail_if_no_progress with_reducible apply Keeps.lit
    | dsimp only
    | split)

theorem State.regWrittenHost_keeps {s t : State} (o : Dev) (p : PageDef) (pg off : Nat) (w : Word) (h : Keeps s t) : Keeps s (t.regWrittenHost o p pg off w) := by
  unfold State.regWrittenHost
  repeat' (first
    | with_reducible assumption
    | with_reducible apply State.onDev_keeps
    | with_reducible apply State.xinv_keeps
    | with_reducible apply State.doorbell_keeps
    | with_reducible apply State.dmaFeed_keeps
    | with_reducible apply State.snapFlush_keeps
    | with_reducible apply State.enumGo_keeps
    | with_reducible apply State.dmaCtl_keeps
    | with_reducible apply State.setQm_keeps
    | with_reducible apply State.setXlat_keeps
    | with_reducible apply State.setDma_keeps
    | with_reducible apply Keeps.ite
    | with_reducible apply Keeps.iteFst
    | with_reducible refine Keeps.foldl ?_ fun _ _ _ => ?_
    | fail_if_no_progress with_reducible apply Keeps.litDev
    | fail_if_no_progress with_reducible apply Keeps.lit
    | dsimp only
    | split)

theorem State.putReg_keeps {s t : State} (p : PageDef) (r : RegRow) (pg off : Nat) (w : Word) (h : Keeps s t) : Keeps s (t.putReg p r pg off w) := by
  unfold State.putReg
  repeat' (first
    | with_reducible assumption
    | with_reducible apply State.onDev_keeps
    | with_reducible apply State.ctlWritten_keeps
    | with_reducible apply State.regWrittenHost_keeps
    | with_reducible apply State.setQm_keeps
    | with_reducible apply State.setXlat_keeps
    | with_reducible apply State.setDma_keeps
    | with_reducible apply Keeps.ite
    | with_reducible apply Keeps.iteFst
    | with_reducible refine Keeps.foldl ?_ fun _ _ _ => ?_
    | fail_if_no_progress with_reducible apply Keeps.litDev
    | fail_if_no_progress with_reducible apply Keeps.lit
    | dsimp only
    | split)

theorem State.writeReg_keeps {s t : State} (k a : Nat) (w : Word) (h : Keeps s t) : Keeps s (t.writeReg k a w) := by
  unfold State.writeReg
  repeat' (first
    | with_reducible assumption
    | with_reducible apply State.onDev_keeps
    | with_reducible apply State.setPath_keeps
    | with_reducible apply State.putReg_keeps
    | with_reducible apply State.setQm_keeps
    | with_reducible apply State.setXlat_keeps
    | with_reducible apply State.setDma_keeps
    | with_reducible apply Keeps.ite
    | with_reducible apply Keeps.iteFst
    | with_reducible refine Keeps.foldl ?_ fun _ _ _ => ?_
    | fail_if_no_progress with_reducible apply Keeps.litDev
    | fail_if_no_progress with_reducible apply Keeps.lit
    | dsimp only
    | split)

theorem State.busWrite_keeps {s t : State} (k a n : Nat) (w : Word) (h : Keeps s t) : Keeps s (t.busWrite k a n w) := by
  unfold State.busWrite
  repeat' (first
    | with_reducible assumption
    | with_reducible apply State.onDev_keeps
    | with_reducible apply State.notePath_keeps
    | with_reducible apply State.writeReg_keeps
    | with_reducible apply State.setQm_keeps
    | with_reducible apply State.setXlat_keeps
    | with_reducible apply State.setDma_keeps
    | with_reducible apply Keeps.ite
    | with_reducible apply Keeps.iteFst
    | with_reducible refine Keeps.foldl ?_ fun _ _ _ => ?_
    | fail_if_no_progress with_reducible apply Keeps.litDev
    | fail_if_no_progress with_reducible apply Keeps.lit
    | dsimp only
    | split)

theorem State.poke_keeps {s t : State} (a w : Nat) (h : Keeps s t) : Keeps s (t.poke a w) := by
  unfold State.poke
  repeat' (first
    | with_reducible assumption
    | with_reducible apply State.writeReg_keeps
    | with_reducible apply State.onDev_keeps
    | with_reducible apply State.setQm_keeps
    | with_reducible apply State.setXlat_keeps
    | with_reducible apply State.setDma_keeps
    | with_reducible apply Keeps.ite
    | with_reducible apply Keeps.iteFst
    | with_reducible refine Keeps.foldl ?_ fun _ _ _ => ?_
    | fail_if_no_progress with_reducible apply Keeps.litDev
    | fail_if_no_progress with_reducible apply Keeps.lit
    | dsimp only
    | split)

theorem State.strobe_keeps {s t : State} (a clear bits : Nat) (h : Keeps s t) : Keeps s (t.strobe a clear bits) := by
  unfold State.strobe
  repeat' (first
    | with_reducible assumption
    | with_reducible apply State.poke_keeps
    | with_reducible apply State.onDev_keeps
    | with_reducible apply State.setQm_keeps
    | with_reducible apply State.setXlat_keeps
    | with_reducible apply State.setDma_keeps
    | with_reducible apply Keeps.ite
    | with_reducible apply Keeps.iteFst
    | with_reducible refine Keeps.foldl ?_ fun _ _ _ => ?_
    | fail_if_no_progress with_reducible apply Keeps.litDev
    | fail_if_no_progress with_reducible apply Keeps.lit
    | dsimp only
    | split)

theorem State.regBytes_keeps {s t : State} (k fuel a n : Nat) (h : Keeps s t) : Keeps s (t.regBytes k fuel a n).1 := by
  induction fuel generalizing t a n with
  | zero => exact h
  | succ fuel ih =>
    unfold State.regBytes
    repeat' (first
      | with_reducible apply ih
      | with_reducible assumption
      | with_reducible apply State.busRead_keeps
      | with_reducible apply State.onDev_keeps
      | with_reducible apply State.setQm_keeps
      | with_reducible apply State.setXlat_keeps
      | with_reducible apply State.setDma_keeps
      | with_reducible apply Keeps.ite
      | with_reducible apply Keeps.iteFst
      | with_reducible refine Keeps.foldl ?_ fun _ _ _ => ?_
      | fail_if_no_progress with_reducible apply Keeps.litDev
      | fail_if_no_progress with_reducible apply Keeps.lit
      | dsimp only
      | split)

theorem State.regStore_keeps {s t : State} (k fuel a : Nat) (l : List Nat) (h : Keeps s t) : Keeps s (t.regStore k fuel a l) := by
  induction fuel generalizing t a l with
  | zero => exact h
  | succ fuel ih =>
    unfold State.regStore
    repeat' (first
      | with_reducible apply ih
      | with_reducible assumption
      | with_reducible apply State.busWrite_keeps
      | with_reducible apply State.onDev_keeps
      | with_reducible apply State.setQm_keeps
      | with_reducible apply State.setXlat_keeps
      | with_reducible apply State.setDma_keeps
      | with_reducible apply Keeps.ite
      | with_reducible apply Keeps.iteFst
      | with_reducible refine Keeps.foldl ?_ fun _ _ _ => ?_
      | fail_if_no_progress with_reducible apply Keeps.litDev
      | fail_if_no_progress with_reducible apply Keeps.lit
      | dsimp only
      | split)

theorem State.beatRead_keeps {s t : State} (c p n : Nat) (h : Keeps s t) : Keeps s (t.beatRead c p n).1 := by
  unfold State.beatRead
  repeat' (first
    | with_reducible assumption
    | with_reducible apply State.onDev_keeps
    | with_reducible apply State.setDma_keeps
    | with_reducible apply State.showFeed_keeps
    | with_reducible apply State.regBytes_keeps
    | with_reducible apply State.setQm_keeps
    | with_reducible apply State.setXlat_keeps
    | with_reducible apply Keeps.ite
    | with_reducible apply Keeps.iteFst
    | with_reducible refine Keeps.foldl ?_ fun _ _ _ => ?_
    | fail_if_no_progress with_reducible apply Keeps.litDev
    | fail_if_no_progress with_reducible apply Keeps.lit
    | dsimp only
    | split)

theorem State.beatWrite_keeps {s t : State} (c p : Nat) (bs : List Nat) (h : Keeps s t) : Keeps s (t.beatWrite c p bs) := by
  unfold State.beatWrite
  repeat' (first
    | with_reducible assumption
    | with_reducible apply State.onDev_keeps
    | with_reducible apply State.hostStore_keeps
    | with_reducible apply State.regStore_keeps
    | with_reducible apply State.setQm_keeps
    | with_reducible apply State.setXlat_keeps
    | with_reducible apply State.setDma_keeps
    | with_reducible apply Keeps.ite
    | with_reducible apply Keeps.iteFst
    | with_reducible refine Keeps.foldl ?_ fun _ _ _ => ?_
    | fail_if_no_progress with_reducible apply Keeps.litDev
    | fail_if_no_progress with_reducible apply Keeps.lit
    | dsimp only
    | split)

theorem State.beatSide_keeps {s t : State} (c a : Nat) (write readOk : Bool) (h : Keeps s t) : Keeps s (t.beatSide c a write readOk).1 := by
  unfold State.beatSide
  repeat' (first
    | with_reducible assumption
    | with_reducible apply State.translate_keeps
    | with_reducible apply State.xfault_keeps
    | with_reducible apply State.onDev_keeps
    | with_reducible apply State.setQm_keeps
    | with_reducible apply State.setXlat_keeps
    | with_reducible apply State.setDma_keeps
    | with_reducible apply Keeps.ite
    | with_reducible apply Keeps.iteFst
    | with_reducible refine Keeps.foldl ?_ fun _ _ _ => ?_
    | fail_if_no_progress with_reducible apply Keeps.litDev
    | fail_if_no_progress with_reducible apply Keeps.lit
    | dsimp only
    | split)

theorem State.transferEnd_keeps {s t : State} (c : Nat) (h : Keeps s t) : Keeps s (t.transferEnd c) := by
  unfold State.transferEnd
  repeat' (first
    | with_reducible assumption
    | with_reducible apply State.onDev_keeps
    | with_reducible apply State.setDma_keeps
    | with_reducible apply State.setQm_keeps
    | with_reducible apply State.setXlat_keeps
    | with_reducible apply Keeps.ite
    | with_reducible apply Keeps.iteFst
    | with_reducible refine Keeps.foldl ?_ fun _ _ _ => ?_
    | fail_if_no_progress with_reducible apply Keeps.litDev
    | fail_if_no_progress with_reducible apply Keeps.lit
    | dsimp only
    | split)

theorem State.transferBeat_keeps {s t : State} (c : Nat) (r : ReadResult) (h : Keeps s t) : Keeps s (t.transferBeat c r) := by
  unfold State.transferBeat
  repeat' (first
    | with_reducible assumption
    | with_reducible apply State.onDev_keeps
    | with_reducible apply State.xfault_keeps
    | with_reducible apply State.beatRead_keeps
    | with_reducible apply State.beatWrite_keeps
    | with_reducible apply State.beatSide_keeps
    | with_reducible apply State.transferEnd_keeps
    | with_reducible apply State.setQm_keeps
    | with_reducible apply State.setXlat_keeps
    | with_reducible apply State.setDma_keeps
    | with_reducible apply Keeps.ite
    | with_reducible apply Keeps.iteFst
    | with_reducible refine Keeps.foldl ?_ fun _ _ _ => ?_
    | fail_if_no_progress with_reducible apply Keeps.litDev
    | fail_if_no_progress with_reducible apply Keeps.lit
    | dsimp only
    | split)

theorem State.fetchBytes_keeps {s t : State} (c : Nat) (r : ReadResult) (fuel a n : Nat) (h : Keeps s t) :
    Keeps s (t.fetchBytes c r fuel a n).1 := by
  induction fuel generalizing t a n with
  | zero => exact h
  | succ fuel ih =>
    unfold State.fetchBytes
    repeat' (first
      | with_reducible apply ih
      | with_reducible assumption
      | with_reducible apply State.translate_keeps
      | with_reducible apply State.xfault_keeps
      | with_reducible apply State.onDev_keeps
      | with_reducible apply State.setQm_keeps
      | with_reducible apply State.setXlat_keeps
      | with_reducible apply State.setDma_keeps
      | with_reducible apply Keeps.ite
      | with_reducible apply Keeps.iteFst
      | with_reducible refine Keeps.foldl ?_ fun _ _ _ => ?_
      | fail_if_no_progress with_reducible apply Keeps.litDev
      | fail_if_no_progress with_reducible apply Keeps.lit
      | dsimp only
      | split)

theorem State.chainFetch_keeps {s t : State} (c : Nat) (r : ReadResult) (h : Keeps s t) : Keeps s (t.chainFetch c r) := by
  unfold State.chainFetch
  repeat' (first
    | with_reducible assumption
    | with_reducible apply State.onDev_keeps
    | with_reducible apply State.setDma_keeps
    | with_reducible apply State.fetchBytes_keeps
    | with_reducible apply State.setQm_keeps
    | with_reducible apply State.setXlat_keeps
    | with_reducible apply Keeps.ite
    | with_reducible apply Keeps.iteFst
    | with_reducible refine Keeps.foldl ?_ fun _ _ _ => ?_
    | fail_if_no_progress with_reducible apply Keeps.litDev
    | fail_if_no_progress with_reducible apply Keeps.lit
    | dsimp only
    | split)

theorem State.ringBeat_keeps {s t : State} (c : Nat) (r : ReadResult) (h : Keeps s t) : Keeps s (t.ringBeat c r) := by
  unfold State.ringBeat
  repeat' (first
    | with_reducible assumption
    | with_reducible apply State.onDev_keeps
    | with_reducible apply State.hostStore_keeps
    | with_reducible apply State.setDma_keeps
    | with_reducible apply State.translate_keeps
    | with_reducible apply State.xfault_keeps
    | with_reducible apply State.setQm_keeps
    | with_reducible apply State.setXlat_keeps
    | with_reducible apply Keeps.ite
    | with_reducible apply Keeps.iteFst
    | with_reducible refine Keeps.foldl ?_ fun _ _ _ => ?_
    | fail_if_no_progress with_reducible apply Keeps.litDev
    | fail_if_no_progress with_reducible apply Keeps.lit
    | dsimp only
    | split)

theorem State.dmaBeat_keeps {s t : State} (r : ReadResult) (h : Keeps s t) : Keeps s (t.dmaBeat r) := by
  unfold State.dmaBeat
  repeat' (first
    | with_reducible assumption
    | with_reducible apply State.onDev_keeps
    | with_reducible apply State.transferBeat_keeps
    | with_reducible apply State.chainFetch_keeps
    | with_reducible apply State.ringBeat_keeps
    | with_reducible apply State.setQm_keeps
    | with_reducible apply State.setXlat_keeps
    | with_reducible apply State.setDma_keeps
    | with_reducible apply Keeps.ite
    | with_reducible apply Keeps.iteFst
    | with_reducible refine Keeps.foldl ?_ fun _ _ _ => ?_
    | fail_if_no_progress with_reducible apply Keeps.litDev
    | fail_if_no_progress with_reducible apply Keeps.lit
    | dsimp only
    | split)

theorem State.doCommit_keeps {s t : State} (cls inst : Nat) (h : Keeps s t) : Keeps s (t.doCommit cls inst) := by
  unfold State.doCommit
  repeat' (first
    | with_reducible assumption
    | with_reducible apply State.commitAct_keeps
    | with_reducible apply State.onDev_keeps
    | with_reducible apply State.setQm_keeps
    | with_reducible apply State.setXlat_keeps
    | with_reducible apply State.setDma_keeps
    | with_reducible apply Keeps.ite
    | with_reducible apply Keeps.iteFst
    | with_reducible refine Keeps.foldl ?_ fun _ _ _ => ?_
    | fail_if_no_progress with_reducible apply Keeps.litDev
    | fail_if_no_progress with_reducible apply Keeps.lit
    | dsimp only
    | split)

theorem State.doAction_keeps {s t : State} (idx : Nat) (e : Entry) (allowed : Bool) (h : Keeps s t) : Keeps s (t.doAction idx e allowed) := by
  unfold State.doAction
  repeat' (first
    | with_reducible assumption
    | with_reducible apply State.onDev_keeps
    | with_reducible apply State.doCommit_keeps
    | with_reducible apply State.setQm_keeps
    | with_reducible apply State.setXlat_keeps
    | with_reducible apply State.setDma_keeps
    | with_reducible apply Keeps.ite
    | with_reducible apply Keeps.iteFst
    | with_reducible refine Keeps.foldl ?_ fun _ _ _ => ?_
    | fail_if_no_progress with_reducible apply Keeps.litDev
    | fail_if_no_progress with_reducible apply Keeps.lit
    | dsimp only
    | split)

theorem State.issueNext_keeps {s t : State} (h : Keeps s t) : Keeps s t.issueNext := by
  unfold State.issueNext
  repeat' (first
    | with_reducible assumption
    | with_reducible apply State.onDev_keeps
    | with_reducible apply State.doAction_keeps
    | with_reducible apply State.setQm_keeps
    | with_reducible apply State.setXlat_keeps
    | with_reducible apply State.setDma_keeps
    | with_reducible apply Keeps.ite
    | with_reducible apply Keeps.iteFst
    | with_reducible refine Keeps.foldl ?_ fun _ _ _ => ?_
    | fail_if_no_progress with_reducible apply Keeps.litDev
    | fail_if_no_progress with_reducible apply Keeps.lit
    | dsimp only
    | split)

theorem State.hostRead_keeps {s t : State} (path : HostPath) (a n : Nat) (h : Keeps s t) : Keeps s (t.hostRead path a n) := by
  unfold State.hostRead
  repeat' (first
    | with_reducible assumption
    | with_reducible apply State.onDev_keeps
    | with_reducible apply State.busRead_keeps
    | with_reducible apply State.setQm_keeps
    | with_reducible apply State.setXlat_keeps
    | with_reducible apply State.setDma_keeps
    | with_reducible apply Keeps.ite
    | with_reducible apply Keeps.iteFst
    | with_reducible refine Keeps.foldl ?_ fun _ _ _ => ?_
    | fail_if_no_progress with_reducible apply Keeps.litDev
    | fail_if_no_progress with_reducible apply Keeps.lit
    | dsimp only
    | split)

theorem State.hostWrite_keeps {s t : State} (path : HostPath) (a n : Nat) (w : Word) (h : Keeps s t) : Keeps s (t.hostWrite path a n w) := by
  unfold State.hostWrite
  repeat' (first
    | with_reducible assumption
    | with_reducible apply State.busWrite_keeps
    | with_reducible apply State.onDev_keeps
    | with_reducible apply State.setQm_keeps
    | with_reducible apply State.setXlat_keeps
    | with_reducible apply State.setDma_keeps
    | with_reducible apply Keeps.ite
    | with_reducible apply Keeps.iteFst
    | with_reducible refine Keeps.foldl ?_ fun _ _ _ => ?_
    | fail_if_no_progress with_reducible apply Keeps.litDev
    | fail_if_no_progress with_reducible apply Keeps.lit
    | dsimp only
    | split)

theorem State.spiBegin_keeps {s t : State} (cmd a : Nat) (h : Keeps s t) : Keeps s (t.spiBegin cmd a) := by
  unfold State.spiBegin
  repeat' (first
    | with_reducible assumption
    | with_reducible apply State.onDev_keeps
    | with_reducible apply State.setQm_keeps
    | with_reducible apply State.setXlat_keeps
    | with_reducible apply State.setDma_keeps
    | with_reducible apply Keeps.ite
    | with_reducible apply Keeps.iteFst
    | with_reducible refine Keeps.foldl ?_ fun _ _ _ => ?_
    | fail_if_no_progress with_reducible apply Keeps.litDev
    | fail_if_no_progress with_reducible apply Keeps.lit
    | dsimp only
    | split)

theorem State.spiWrite_keeps {s t : State} (l : List Word) (h : Keeps s t) : Keeps s (State.spiWrite l t) := by
  induction l generalizing t with
  | nil => exact h
  | cons w r ih =>
    unfold State.spiWrite
    repeat' (first
      | with_reducible apply ih
      | with_reducible assumption
      | with_reducible apply State.busWrite_keeps
      | with_reducible apply State.onDev_keeps
      | with_reducible apply State.setQm_keeps
      | with_reducible apply State.setXlat_keeps
      | with_reducible apply State.setDma_keeps
      | with_reducible apply Keeps.ite
      | with_reducible apply Keeps.iteFst
      | with_reducible refine Keeps.foldl ?_ fun _ _ _ => ?_
      | fail_if_no_progress with_reducible apply Keeps.litDev
      | fail_if_no_progress with_reducible apply Keeps.lit
      | dsimp only
      | split)

theorem State.spiRead_keeps {s t : State} (n : Nat) (h : Keeps s t) : Keeps s (State.spiRead n t) := by
  induction n generalizing t with
  | zero => exact h
  | succ n ih =>
    unfold State.spiRead
    repeat' (first
      | with_reducible apply ih
      | with_reducible assumption
      | with_reducible apply State.busRead_keeps
      | with_reducible apply State.onDev_keeps
      | with_reducible apply State.setQm_keeps
      | with_reducible apply State.setXlat_keeps
      | with_reducible apply State.setDma_keeps
      | with_reducible apply Keeps.ite
      | with_reducible apply Keeps.iteFst
      | with_reducible refine Keeps.foldl ?_ fun _ _ _ => ?_
      | fail_if_no_progress with_reducible apply Keeps.litDev
      | fail_if_no_progress with_reducible apply Keeps.lit
      | dsimp only
      | split)

theorem State.spiWrites_keeps {s t : State} (cmd a : Nat) (ws : List Word) (h : Keeps s t) : Keeps s (t.spiWrites cmd a ws) := by
  unfold State.spiWrites
  repeat' (first
    | with_reducible assumption
    | with_reducible apply State.spiBegin_keeps
    | with_reducible apply State.spiWrite_keeps
    | with_reducible apply State.onDev_keeps
    | with_reducible apply State.setQm_keeps
    | with_reducible apply State.setXlat_keeps
    | with_reducible apply State.setDma_keeps
    | with_reducible apply Keeps.ite
    | with_reducible apply Keeps.iteFst
    | with_reducible refine Keeps.foldl ?_ fun _ _ _ => ?_
    | fail_if_no_progress with_reducible apply Keeps.litDev
    | fail_if_no_progress with_reducible apply Keeps.lit
    | dsimp only
    | split)

theorem State.spiReads_keeps {s t : State} (cmd a n : Nat) (h : Keeps s t) : Keeps s (t.spiReads cmd a n) := by
  unfold State.spiReads
  repeat' (first
    | with_reducible assumption
    | with_reducible apply State.onDev_keeps
    | with_reducible apply State.spiBegin_keeps
    | with_reducible apply State.spiRead_keeps
    | with_reducible apply State.setQm_keeps
    | with_reducible apply State.setXlat_keeps
    | with_reducible apply State.setDma_keeps
    | with_reducible apply Keeps.ite
    | with_reducible apply Keeps.iteFst
    | with_reducible refine Keeps.foldl ?_ fun _ _ _ => ?_
    | fail_if_no_progress with_reducible apply Keeps.litDev
    | fail_if_no_progress with_reducible apply Keeps.lit
    | dsimp only
    | split)

theorem State.checkLossHost_keeps {s t : State} (f : Nat) (h : Keeps s t) : Keeps s (t.checkLossHost f) := by
  unfold State.checkLossHost
  repeat' (first
    | with_reducible assumption
    | with_reducible apply State.onDev_keeps
    | with_reducible apply State.setQm_keeps
    | with_reducible apply State.setXlat_keeps
    | with_reducible apply State.setReady_keeps
    | with_reducible apply State.setDma_keeps
    | with_reducible apply Keeps.ite
    | with_reducible apply Keeps.iteFst
    | with_reducible refine Keeps.foldl ?_ fun _ _ _ => ?_
    | fail_if_no_progress with_reducible apply Keeps.litDev
    | fail_if_no_progress with_reducible apply Keeps.lit
    | dsimp only
    | split)

theorem State.checkFails_keeps {s t : State} (x : FaultHit) (h : Keeps s t) : Keeps s (t.checkFails x) := by
  unfold State.checkFails
  repeat' (first
    | with_reducible assumption
    | with_reducible apply State.onDev_keeps
    | with_reducible apply State.checkLossHost_keeps
    | with_reducible apply State.setQm_keeps
    | with_reducible apply State.setXlat_keeps
    | with_reducible apply State.setDma_keeps
    | with_reducible apply Keeps.ite
    | with_reducible apply Keeps.iteFst
    | with_reducible refine Keeps.foldl ?_ fun _ _ _ => ?_
    | fail_if_no_progress with_reducible apply Keeps.litDev
    | fail_if_no_progress with_reducible apply Keeps.lit
    | dsimp only
    | split)

theorem State.rffeCommand_keeps {s t : State} (m kind : Nat) (c : RffeCmd) (h : Keeps s t) : Keeps s (t.rffeCommand m kind c) := by
  unfold State.rffeCommand
  repeat' (first
    | with_reducible assumption
    | with_reducible apply State.poke_keeps
    | with_reducible apply State.onDev_keeps
    | with_reducible apply State.setQm_keeps
    | with_reducible apply State.setXlat_keeps
    | with_reducible apply State.setDma_keeps
    | with_reducible apply Keeps.ite
    | with_reducible apply Keeps.iteFst
    | with_reducible refine Keeps.foldl ?_ fun _ _ _ => ?_
    | fail_if_no_progress with_reducible apply Keeps.litDev
    | fail_if_no_progress with_reducible apply Keeps.lit
    | dsimp only
    | split)

theorem State.pokeHead_keeps {s t : State} (page off w : Nat) (h : Keeps s t) : Keeps s (t.pokeHead page off w) := by
  unfold State.pokeHead
  repeat' (first
    | with_reducible assumption
    | with_reducible apply State.poke_keeps
    | with_reducible apply State.onDev_keeps
    | with_reducible apply State.setQm_keeps
    | with_reducible apply State.setXlat_keeps
    | with_reducible apply State.setDma_keeps
    | with_reducible apply Keeps.ite
    | with_reducible apply Keeps.iteFst
    | with_reducible refine Keeps.foldl ?_ fun _ _ _ => ?_
    | fail_if_no_progress with_reducible apply Keeps.litDev
    | fail_if_no_progress with_reducible apply Keeps.lit
    | dsimp only
    | split)

theorem State.pokeCtl_keeps {s t : State} (page clear bits : Nat) (h : Keeps s t) : Keeps s (t.pokeCtl page clear bits) := by
  unfold State.pokeCtl
  repeat' (first
    | with_reducible assumption
    | with_reducible apply State.strobe_keeps
    | with_reducible apply State.onDev_keeps
    | with_reducible apply State.setQm_keeps
    | with_reducible apply State.setXlat_keeps
    | with_reducible apply State.setDma_keeps
    | with_reducible apply Keeps.ite
    | with_reducible apply Keeps.iteFst
    | with_reducible refine Keeps.foldl ?_ fun _ _ _ => ?_
    | fail_if_no_progress with_reducible apply Keeps.litDev
    | fail_if_no_progress with_reducible apply Keeps.lit
    | dsimp only
    | split)

theorem State.recAccess_keeps {s t : State} (q op tag a span : Nat) (cpl : Bool) (kind : Nat) (f : State → State × Nat)
    (hf : ∀ u : State, Keeps s u → Keeps s (f u).1) (h : Keeps s t) : Keeps s (t.recAccess q op tag a span cpl kind f) := by
  unfold State.recAccess
  repeat' (first
    | apply hf
    | with_reducible assumption
    | with_reducible apply State.takeExec_keeps
    | with_reducible apply State.onDev_keeps
    | with_reducible apply State.setQm_keeps
    | with_reducible apply State.setXlat_keeps
    | with_reducible apply State.setDma_keeps
    | with_reducible apply Keeps.ite
    | with_reducible apply Keeps.iteFst
    | with_reducible refine Keeps.foldl ?_ fun _ _ _ => ?_
    | fail_if_no_progress with_reducible apply Keeps.litDev
    | fail_if_no_progress with_reducible apply Keeps.lit
    | dsimp only
    | split)

theorem State.recOther_keeps {s t : State} (q op tag : Nat) (f : State → State)
    (hf : ∀ u : State, Keeps s u → Keeps s (f u)) (h : Keeps s t) : Keeps s (t.recOther q op tag f) := by
  unfold State.recOther
  repeat' (first
    | apply hf
    | with_reducible assumption
    | with_reducible apply State.takeExec_keeps
    | with_reducible apply State.onDev_keeps
    | with_reducible apply State.setQm_keeps
    | with_reducible apply State.setXlat_keeps
    | with_reducible apply State.setDma_keeps
    | with_reducible apply Keeps.ite
    | with_reducible apply Keeps.iteFst
    | with_reducible refine Keeps.foldl ?_ fun _ _ _ => ?_
    | fail_if_no_progress with_reducible apply Keeps.litDev
    | fail_if_no_progress with_reducible apply Keeps.lit
    | dsimp only
    | split)

end Sys2Proof.Machine
end

