-- ==== Sys2Proof/Laws/Answer.lean ====
section
/-! SUPPORT. The forms a meaning answers in: what each answers where the command acts and where a device in reset takes nothing, and
what every answer leaves: the queue, the form of host memory, and no signal unsettled. -/

namespace Sys2Proof.Machine

/-! ### What a form answers -/

theorem State.after_next (s : State) (f : State → State) : s.after f = .next (State.finish s.dev (f s)) := rfl

/-- A device held in a reset takes no command of this form. -/
theorem State.afterLive_held {s : State} (f : State → State) (h : s.dev.pins.held = true) : s.afterLive f = .next s := if_pos h

theorem State.afterLive_live {s : State} (f : State → State) (h : s.dev.pins.held = false) :
    s.afterLive f = .next (State.finish s.dev (f s)) := by
  unfold State.afterLive
  rw [if_neg (by simp [h]), State.after_next]

theorem State.afterDev_held {s : State} (f : Dev → Dev) (h : s.dev.pins.held = true) : s.afterDev f = .next s :=
  State.afterLive_held _ h

theorem State.afterDev_live {s : State} (f : Dev → Dev) (h : s.dev.pins.held = false) :
    s.afterDev f = .next (State.finish s.dev (s.onDev f)) := State.afterLive_live _ h

/-- A device that is not running takes no command of this form. -/
theorem State.afterRun_stopped {s : State} (f : State → State) (h : s.dev.reachable = false) : s.afterRun f = .next s := by
  unfold State.afterRun
  rw [if_neg (by simp [h])]

theorem State.afterRun_runs {s : State} (f : State → State) (h : s.dev.reachable = true) :
    s.afterRun f = .next (State.finish s.dev (f s)) := if_pos h

theorem State.afterTick_stopped {s : State} (f : Dev → Dev) (h : s.dev.reachable = false) : s.afterTick f = .next s :=
  State.afterRun_stopped _ h

theorem State.afterTick_runs {s : State} (f : Dev → Dev) (h : s.dev.reachable = true) :
    s.afterTick f = .next (State.finish s.dev (s.onDev f)) := State.afterRun_runs _ h

theorem State.act_runs {s : State} (a : Nat) (f : State → State) (h : s.dev.reachable = true) :
    s.act a f = .next (State.finish s.dev ((f s).onDev fun d => d.acted a)) := State.afterRun_runs _ h

/-- A device held in a reset is not reachable. -/
theorem Dev.held_of_reachable {d : Dev} (h : d.reachable = true) : d.pins.held = false := by
  unfold Dev.reachable at h
  simp only [Bool.and_eq_true, Bool.not_eq_true'] at h
  exact h.1

/-! ### What every answer leaves -/

/-- A command's end leaves no signal. -/
theorem State.finish_wires (o : Dev) (s : State) : (State.finish o s).dev.wires = .init := by
  unfold State.finish
  refine iteInduction (motive := fun x : State => x.dev.wires = .init) ?_ ?_ <;> intro _ <;> rfl

/-- What one command does to the whole: the queue and the form of host memory are kept, and its signals are settled. -/
def Settles (s t : State) : Prop := Keeps s t ∧ (t.dev.wires = .init ∨ t = s)

theorem Settles.same (s : State) : Settles s s := ⟨Keeps.refl s, .inr rfl⟩

theorem State.after_settles {s t : State} {f : State → State} (hf : ∀ u, Keeps s u → Keeps s (f u)) (h : s.after f = .next t) :
    Settles s t := by
  rw [State.after_next] at h
  cases h
  exact ⟨State.finish_keeps _ (hf s (Keeps.refl s)), .inl (State.finish_wires _ _)⟩

theorem State.afterLive_settles {s t : State} {f : State → State} (hf : ∀ u, Keeps s u → Keeps s (f u))
    (h : s.afterLive f = .next t) : Settles s t := by
  unfold State.afterLive at h
  split at h
  · cases h
    exact Settles.same _
  · exact State.after_settles hf h

theorem State.afterDev_settles {s t : State} {f : Dev → Dev} (h : s.afterDev f = .next t) : Settles s t :=
  State.afterLive_settles (fun _ k => State.onDev_keeps f k) h

theorem State.afterRun_settles {s t : State} {f : State → State} (hf : ∀ u, Keeps s u → Keeps s (f u))
    (h : s.afterRun f = .next t) : Settles s t := by
  unfold State.afterRun at h
  split at h
  · exact State.after_settles hf h
  · cases h
    exact Settles.same _

theorem State.afterTick_settles {s t : State} {f : Dev → Dev} (h : s.afterTick f = .next t) : Settles s t :=
  State.afterRun_settles (fun _ k => State.onDev_keeps f k) h

end Sys2Proof.Machine
end

