-- ==== Sys2Proof/Laws/Fields.lean ====
section
/-! SUPPORT. Reading what was written: fields of a word, registers, fields of a page, and free values. -/

namespace Sys2Proof.Machine

/-! ### Fields of a word -/

/-- A bit of a field's mask. -/
theorem Fld.getLsbD_mask (F : Fld) (hF : F.lo + F.w ≤ 32) (i : Nat) :
    F.mask.getLsbD i = decide (F.lo ≤ i ∧ i < F.lo + F.w) := by
  unfold Fld.mask
  rw [BitVec.getLsbD_shiftLeft]
  by_cases hi : i < 32
  · by_cases hl : i < F.lo
    · simp [hl, Nat.not_le.mpr hl]
    · have h : i - F.lo < 32 := by omega
      have e : (i - F.lo < F.w) ↔ (i < F.lo + F.w) := by omega
      rw [BitVec.getLsbD_ofNat, Nat.testBit_two_pow_sub_one]
      simp only [hi, hl, h, e, Nat.not_lt.mp hl, decide_true, decide_false, Bool.not_false, Bool.true_and, true_and]
  · have : ¬ i < F.lo + F.w := by omega
    simp [hi, this]

/-- A bit of a word after a field was written. -/
theorem Fld.getLsbD_put (F : Fld) (hF : F.lo + F.w ≤ 32) (x : Word) (v i : Nat) :
    (F.put x v).getLsbD i = if F.lo ≤ i ∧ i < F.lo + F.w then v.testBit (i - F.lo) else x.getLsbD i := by
  unfold Fld.put
  rw [BitVec.getLsbD_or, BitVec.getLsbD_and, BitVec.getLsbD_not, Fld.getLsbD_mask F hF, BitVec.getLsbD_shiftLeft]
  by_cases hin : F.lo ≤ i ∧ i < F.lo + F.w
  · have h32 : i < 32 := by omega
    have hl : ¬ i < F.lo := by omega
    have h2 : i - F.lo < F.w := by omega
    have h3 : i - F.lo < 32 := by omega
    rw [BitVec.getLsbD_ofNat, Nat.testBit_mod_two_pow]
    simp [hin, h32, hl, h2, h3]
  · by_cases h32 : i < 32
    · by_cases hl : i < F.lo
      · simp [hin, h32, hl]
      · have h2 : ¬ i - F.lo < F.w := by omega
        rw [BitVec.getLsbD_ofNat, Nat.testBit_mod_two_pow, if_neg hin]
        simp only [hin, h32, h2, decide_true, decide_false, Bool.not_false, Bool.and_true, Bool.false_and, Bool.and_false, Bool.or_false]
    · simp [hin, h32, BitVec.getLsbD_of_ge x i (by omega)]

/-- A bit of what a field reads as. -/
theorem Fld.testBit_get (F : Fld) (x : Word) (i : Nat) :
    (F.get x).testBit i = (decide (i < F.w) && x.getLsbD (F.lo + i)) := by
  unfold Fld.get
  rw [Nat.testBit_mod_two_pow, BitVec.testBit_toNat, BitVec.getLsbD_ushiftRight]

/-- A field reads as what was written to it, modulo its width. -/
theorem Fld.get_put (F : Fld) (hF : F.lo + F.w ≤ 32) (x : Word) (v : Nat) : F.get (F.put x v) = v % 2 ^ F.w := by
  apply Nat.eq_of_testBit_eq
  intro i
  rw [Fld.testBit_get, Fld.getLsbD_put F hF, Nat.testBit_mod_two_pow]
  by_cases h : i < F.w
  · have : F.lo ≤ F.lo + i ∧ F.lo + i < F.lo + F.w := by omega
    simp [h]
  · simp [h]

/-- A write to a field leaves a field of other bits as it was. -/
theorem Fld.get_put_other (F G : Fld) (hF : F.lo + F.w ≤ 32) (h : F.lo + F.w ≤ G.lo ∨ G.lo + G.w ≤ F.lo) (x : Word) (v : Nat) :
    G.get (F.put x v) = G.get x := by
  apply Nat.eq_of_testBit_eq
  intro i
  rw [Fld.testBit_get, Fld.testBit_get, Fld.getLsbD_put F hF]
  by_cases hi : i < G.w
  · have : ¬ (F.lo ≤ G.lo + i ∧ G.lo + i < F.lo + F.w) := by omega
    simp [hi, this]
  · simp [hi]

/-- A field never reads above its width. -/
theorem Fld.get_lt (F : Fld) (x : Word) : F.get x < 2 ^ F.w := Nat.mod_lt _ (Nat.two_pow_pos _)

/-- The two's complement form read back is the number, where it fits. -/
theorem signed_twos {w : Nat} (hw : 0 < w) {v : Int} (h1 : -(2 ^ (w - 1) : Nat) ≤ v) (h2 : v < (2 ^ (w - 1) : Nat)) :
    signed w (twos w v) = v := by
  obtain ⟨k, rfl⟩ : ∃ k, w = k + 1 := ⟨w - 1, by omega⟩
  simp only [Nat.add_sub_cancel] at h1 h2
  unfold signed twos
  have hp : (2 ^ (k + 1) : Nat) = 2 ^ k + 2 ^ k := by rw [Nat.pow_succ]; omega
  have hpos : 0 < 2 ^ k := Nat.two_pow_pos k
  simp only [Nat.add_sub_cancel]
  rw [hp]
  generalize (2 ^ k : Nat) = p at *
  by_cases hv : 0 ≤ v
  · have e : v % ((p + p : Nat) : Int) = v := Int.emod_eq_of_lt hv (by push_cast; omega)
    rw [e]
    obtain ⟨n, rfl⟩ := Int.eq_ofNat_of_zero_le hv
    have hn : n < p + p := by omega
    rw [Int.toNat_natCast, Nat.mod_eq_of_lt hn]
    split <;> omega
  · have e : v % ((p + p : Nat) : Int) = v + ((p + p : Nat) : Int) := by
      rw [← Int.add_emod_right, Int.emod_eq_of_lt] <;> push_cast <;> omega
    rw [e]
    obtain ⟨n, hn⟩ := Int.eq_ofNat_of_zero_le (a := v + ((p + p : Nat) : Int)) (by push_cast; omega)
    rw [hn, Int.toNat_natCast, Nat.mod_eq_of_lt (by omega)]
    split <;> omega

/-- What a two's complement register limits stays a register's. -/
theorem satS_range (w : Nat) (v : Int) : -(2 ^ (w - 1) : Nat) ≤ satS w v ∧ satS w v < (2 ^ (w - 1) : Nat) := by
  have : 0 < 2 ^ (w - 1) := Nat.two_pow_pos _
  unfold satS
  split
  · omega
  · split <;> omega

/-- A value that fits is not limited. -/
theorem satS_of_range {w : Nat} {v : Int} (h1 : -(2 ^ (w - 1) : Nat) ≤ v) (h2 : v < (2 ^ (w - 1) : Nat)) : satS w v = v := by
  unfold satS
  split
  · omega
  · split <;> omega

/-! ### Registers -/

@[simp] theorem Dev.setReg_reg (d : Dev) (a : Nat) (x : Word) : (d.setReg a x).reg a = x := mget_mset_same resetReg d.regs a x

theorem Dev.setReg_reg_other (d : Dev) {a b : Nat} (x : Word) (h : b ≠ a) : (d.setReg a x).reg b = d.reg b :=
  mget_mset_other resetReg d.regs x h

@[simp] theorem Dev.setShadow_shadowReg (d : Dev) (a : Nat) (x : Word) : (d.setShadow a x).shadowReg a = x :=
  mget_mset_same resetReg d.shadow a x

theorem Dev.setShadow_shadowReg_other (d : Dev) {a b : Nat} (x : Word) (h : b ≠ a) :
    (d.setShadow a x).shadowReg b = d.shadowReg b := mget_mset_other resetReg d.shadow x h

@[simp] theorem Dev.setReg_shadowReg (d : Dev) (a b : Nat) (x : Word) : (d.setReg a x).shadowReg b = d.shadowReg b := rfl

@[simp] theorem Dev.setShadow_reg (d : Dev) (a b : Nat) (x : Word) : (d.setShadow a x).reg b = d.reg b := rfl

/-- A cleared range of registers reads its Reset values; every other register as before. -/
theorem Dev.clearRegs_reg (d : Dev) (lo hi a : Nat) :
    (d.clearRegs lo hi).reg a = if lo ≤ a ∧ a < hi then resetReg a else d.reg a := mget_mclear resetReg d.regs lo hi a

/-! ### Fields of a page -/

/-- A field reads as what was written to it, modulo its width. -/
theorem Dev.setFld_fld (d : Dev) (pg : Nat) (F : Fld) (v : Nat) (hF : F.lo + F.w ≤ 32) : (d.setFld pg F v).fld pg F = v % 2 ^ F.w := by
  unfold Dev.setFld Dev.fld
  rw [Dev.setReg_reg, Fld.get_put F hF]

/-- A write to a field leaves a field at other bits of the same register as it was. -/
theorem Dev.setFld_fld_bits (d : Dev) (pg : Nat) (F G : Fld) (v : Nat) (hF : F.lo + F.w ≤ 32) (ho : G.off = F.off)
    (h : F.lo + F.w ≤ G.lo ∨ G.lo + G.w ≤ F.lo) : (d.setFld pg F v).fld pg G = d.fld pg G := by
  unfold Dev.setFld Dev.fld
  rw [ho, Dev.setReg_reg, Fld.get_put_other F G hF h]

/-- A write to a field leaves every field of another register as it was. -/
theorem Dev.setFld_fld_other (d : Dev) (pg qg : Nat) (F G : Fld) (v : Nat) (h : qg + G.off ≠ pg + F.off) :
    (d.setFld pg F v).fld qg G = d.fld qg G := by
  unfold Dev.setFld Dev.fld
  rw [Dev.setReg_reg_other _ _ h]

/-- A write to a field leaves every other register as it was. -/
theorem Dev.setFld_reg_other (d : Dev) (pg a : Nat) (F : Fld) (v : Nat) (h : a ≠ pg + F.off) : (d.setFld pg F v).reg a = d.reg a :=
  Dev.setReg_reg_other _ _ h

/-- A field never reads above its width. -/
theorem Dev.fld_lt (d : Dev) (pg : Nat) (F : Fld) : d.fld pg F < 2 ^ F.w := Fld.get_lt F _

/-- A counter counts one, and stands still at its largest value. -/
theorem Dev.bump_fld (d : Dev) (pg : Nat) (F : Fld) (hF : F.lo + F.w ≤ 32) :
    (d.bump pg F).fld pg F = min (d.fld pg F + 1) (2 ^ F.w - 1) := by
  unfold Dev.bump Dev.bumpBy
  rw [Dev.setFld_fld _ _ _ _ hF, Nat.mod_eq_of_lt]
  have := Nat.two_pow_pos F.w
  omega

/-- A signed field reads as the value written to it, where it fits. -/
theorem Dev.setS_sfld (d : Dev) (pg : Nat) (F : Fld) (v : Int) (hF : F.lo + F.w ≤ 32) (hw : 0 < F.w)
    (h1 : -(2 ^ (F.w - 1) : Nat) ≤ v) (h2 : v < (2 ^ (F.w - 1) : Nat)) : (d.setS pg F v).sfld pg F = v := by
  unfold Dev.setS Dev.sfld
  rw [Dev.setFld_fld _ _ _ _ hF]
  have : signed F.w (twos F.w v % 2 ^ F.w) = signed F.w (twos F.w v) := by
    unfold signed
    rw [Nat.mod_mod]
  rw [this, signed_twos hw h1 h2]

/-- A bit reads as it was written. -/
theorem Dev.setFlag_flag (d : Dev) (pg : Nat) (F : Fld) (b : Bool) (hF : F.lo + F.w ≤ 32) (hw : F.w = 1) :
    (d.setFlag pg F b).flag pg F = b := by
  unfold Dev.setFlag Dev.flag
  rw [Dev.setFld_fld _ _ _ _ hF, hw]
  cases b <;> rfl

end Sys2Proof.Machine
end

