-- ==== Sys2Proof/Laws/Frame.lean ====
section
/-! SUPPORT. Bytes and checks of haul frames: numbers in bytes, padding, and the CRC. -/

namespace Sys2Proof.Machine

/-- A running CRC-32C stays in 32 bits. -/
theorem crcByte_lt (c b : Nat) (hc : c < 2 ^ 32) (hb : b < 2 ^ 32) : crc32cByte c b < 2 ^ 32 := by
  unfold crc32cByte
  have h : ∀ (l : List Nat) (x : Nat), x < 2 ^ 32 →
      l.foldl (fun c _ => if c % 2 = 1 then (c / 2) ^^^ 0x82F63B78 else c / 2) x < 2 ^ 32 := by
    intro l
    induction l with
    | nil => exact fun x hx => hx
    | cons a r ih =>
      intro x hx
      apply ih
      show (if x % 2 = 1 then (x / 2) ^^^ 0x82F63B78 else x / 2) < 2 ^ 32
      split
      · exact Nat.xor_lt_two_pow (by omega) (by decide)
      · omega
  exact h _ _ (Nat.xor_lt_two_pow hc hb)

/-- A CRC-32C has 32 bits. -/
theorem crc_lt (bs : List Nat) (h : ∀ b ∈ bs, b < 2 ^ 32) : crc32c bs < 2 ^ 32 := by
  unfold crc32c
  have h2 : ∀ (l : List Nat) (x : Nat), (∀ b ∈ l, b < 2 ^ 32) → x < 2 ^ 32 → l.foldl crc32cByte x < 2 ^ 32 := by
    intro l
    induction l with
    | nil => exact fun x _ hx => hx
    | cons a r ih => exact fun x hl hx => ih _ (fun b hb => hl b (List.mem_cons_of_mem _ hb)) (crcByte_lt _ _ hx (hl a List.mem_cons_self))
  exact Nat.xor_lt_two_pow (h2 _ _ h (by decide)) (by decide)

/-- The bytes of a number are bytes. -/
theorem le_lt : ∀ (n v : Nat), ∀ b ∈ le n v, b < 256
  | 0, _, b, h => by cases h
  | n + 1, _, b, h => by
    rcases List.mem_cons.mp h with rfl | h
    · exact Nat.mod_lt _ (by decide)
    · exact le_lt n _ b h

/-- A number of `n` bytes has `n` bytes. -/
theorem le_length : ∀ n v : Nat, (le n v).length = n
  | 0, _ => rfl
  | n + 1, _ => congrArg (· + 1) (le_length n _)

/-- A list of bytes is read as it was sent. -/
theorem nums_bytes {l : List Nat} (h : ∀ b ∈ l, b < 256) : frameNums (l.map (BitVec.ofNat 8)) = l := by
  unfold frameNums
  rw [List.map_map]
  refine (List.map_congr_left fun b hb => ?_).trans (List.map_id l)
  show (BitVec.ofNat 8 b).toNat = b
  rw [BitVec.toNat_ofNat]
  exact Nat.mod_eq_of_lt (h b hb)

/-- 3,228 bytes followed by their CRC pass the check of a frame (R308). -/
theorem sealed_ok (g : List Nat) (hl : g.length = 3228) (h : ∀ b ∈ g, b < 256) : frameOk (g ++ le 4 (crc32c g)) = true := by
  have hc : crc32c g < 2 ^ 32 := crc_lt g fun b hb => Nat.lt_trans (h b hb) (by decide)
  unfold frameOk
  rw [Bool.and_eq_true, beq_iff_eq, beq_iff_eq, List.length_append, le_length, hl]
  refine ⟨rfl, ?_⟩
  have ht : (g ++ le 4 (crc32c g)).take 3228 = g := by rw [← hl]; exact List.take_left
  rw [ht]
  generalize crc32c g = c at *
  simp only [bytesNum, List.getD_eq_getElem?_getD]
  rw [List.getElem?_append_right (by omega), List.getElem?_append_right (by omega), List.getElem?_append_right (by omega),
    List.getElem?_append_right (by omega), hl]
  show c = c % 256 + 256 * (c / 256 % 256 + 256 * (c / 256 / 256 % 256 + 256 * (c / 256 / 256 / 256 % 256 + 256 * 0)))
  omega

/-- A padded list has the length asked for. -/
theorem padTo_length (n : Nat) (l : List Nat) : (padTo n l).length = n := by
  unfold padTo
  rw [List.length_append, List.length_take, List.length_replicate]
  omega

/-- Padding adds zeros alone. -/
theorem padTo_lt (n : Nat) (l : List Nat) (h : ∀ b ∈ l, b < 256) : ∀ b ∈ padTo n l, b < 256 := by
  intro b hb
  rcases List.mem_append.mp hb with hm | hm
  · exact h b (List.mem_of_mem_take hm)
  · rw [List.eq_of_mem_replicate hm]; decide

/-- `n` bytes read as a number and written again are those bytes. -/
theorem le_bytesNum {f : List Nat} (h : ∀ b ∈ f, b < 256) : ∀ n a : Nat, a + n ≤ f.length → le n (bytesNum f a n) = (f.drop a).take n
  | 0, _, _ => rfl
  | n + 1, a, ha => by
    have hb : f.getD a 0 < 256 := by
      rw [List.getD_eq_getElem f 0 (by omega)]
      exact h _ (List.getElem_mem _)
    have ht := le_bytesNum h n (a + 1) (by omega)
    rw [List.drop_eq_getElem_cons (by omega : a < f.length), List.take_succ_cons, ← ht, ← List.getD_eq_getElem f 0 (by omega)]
    show (f.getD a 0 + 256 * bytesNum f (a + 1) n) % 256 :: le n ((f.getD a 0 + 256 * bytesNum f (a + 1) n) / 256) = _
    rw [show (f.getD a 0 + 256 * bytesNum f (a + 1) n) % 256 = f.getD a 0 by omega,
      show (f.getD a 0 + 256 * bytesNum f (a + 1) n) / 256 = bytesNum f (a + 1) n by omega]

/-- A number of `n` bytes is below 256 to the `n`. -/
theorem bytesNum_lt {f : List Nat} (h : ∀ b ∈ f, b < 256) : ∀ n a : Nat, bytesNum f a n < 256 ^ n
  | 0, _ => Nat.one_pos
  | n + 1, a => by
    have hb : f.getD a 0 < 256 := by
      rcases Nat.lt_or_ge a f.length with hl | hl
      · rw [List.getD_eq_getElem f 0 hl]
        exact h _ (List.getElem_mem _)
      · rw [List.getD_eq_default f 0 hl]
        decide
    have ht := bytesNum_lt h n (a + 1)
    show f.getD a 0 + 256 * bytesNum f (a + 1) n < 256 ^ (n + 1)
    rw [Nat.pow_succ]
    omega

end Sys2Proof.Machine
end

