-- ==== Sys2Proof/Laws/Pages.lean ====
section
/-! SUPPORT. Where addresses lie: each row of Table 01-16 holds exactly its own addresses, split into instance and offset, and a write
that reaches a register puts its word there. -/

namespace Sys2Proof.Machine

/-- A span of Table 01-16 ends before the next begins. -/
def rowsApart : List PageDef → Bool
  | [] => true
  | p :: r => decide (0 < p.span) && r.all (fun q => Nat.ble (p.base + p.count * p.span) q.base) && rowsApart r

theorem pageDefs_apart : rowsApart pageDefs = true := by decide +kernel

/-- The first row of a list that holds an address of one of its rows is that row. -/
theorem find_row {l : List PageDef} {p : PageDef} {a : Nat} (hl : rowsApart l = true) (hp : p ∈ l) (h1 : p.base ≤ a)
    (h2 : a < p.base + p.count * p.span) :
    l.find? (fun p => Nat.ble p.base a && Nat.blt a (p.base + p.count * p.span)) = some p := by
  induction l with
  | nil => cases hp
  | cons q r ih =>
    simp only [rowsApart, Bool.and_eq_true, List.all_eq_true, Nat.ble_eq] at hl
    rcases List.mem_cons.mp hp with rfl | hm
    · have : (Nat.ble p.base a && Nat.blt a (p.base + p.count * p.span)) = true := by
        simp only [Bool.and_eq_true, Nat.ble_eq, Nat.blt_eq]
        exact ⟨h1, h2⟩
      simp only [List.find?_cons, this]
    · have hq := hl.1.2 p hm
      have : (Nat.ble q.base a && Nat.blt a (q.base + q.count * q.span)) = false := by
        rw [Bool.and_eq_false_iff]
        right
        rw [Bool.eq_false_iff, ne_eq, Nat.blt_eq]
        omega
      simp only [List.find?_cons, this]
      exact ih hl.2 hm

/-- An address of a row of Table 01-16 lies in that row (R28). -/
theorem pageDefAt_row {p : PageDef} {a : Nat} (hp : p ∈ pageDefs) (h1 : p.base ≤ a) (h2 : a < p.base + p.count * p.span) :
    pageDefAt a = some p := find_row pageDefs_apart hp h1 h2

theorem span_pos {p : PageDef} (hp : p ∈ pageDefs) : 0 < p.span := by
  have h : ∀ q ∈ pageDefs, 0 < q.span := by decide +kernel
  exact h p hp

/-- The row, the instance and the offset of an address written as base, instance and offset. -/
theorem pageDefAt_inst {p : PageDef} {n off : Nat} (hp : p ∈ pageDefs) (hn : n < p.count) (ho : off < p.span) :
    pageDefAt (p.base + n * p.span + off) = some p := by
  refine pageDefAt_row hp (by omega) ?_
  have : (n + 1) * p.span ≤ p.count * p.span := Nat.mul_le_mul_right _ hn
  rw [Nat.add_mul] at this
  omega

theorem instOf_inst {p : PageDef} {n off : Nat} (ho : off < p.span) : instOf p (p.base + n * p.span + off) = n := by
  unfold instOf
  rw [Nat.add_assoc, Nat.add_sub_cancel_left, Nat.add_comm, Nat.add_mul_div_right _ _ (by omega), Nat.div_eq_of_lt ho]
  omega

theorem offOf_inst {p : PageDef} {n off : Nat} (ho : off < p.span) : offOf p (p.base + n * p.span + off) = off := by
  unfold offOf
  rw [Nat.add_assoc, Nat.add_sub_cancel_left, Nat.add_comm, Nat.add_mul_mod_self_right, Nat.mod_eq_of_lt ho]

/-- A write by a host that reaches the device, to a register of a listed page that has bits a write changes and that no pair, block reset
or window stands before, puts its word there (R10). -/
theorem State.poke_reg {s : State} {p : PageDef} {r : RegRow} {n off w : Nat} (hr : s.dev.reachable = true) (hp : p ∈ pageDefs)
    (hn : n < p.count) (ho : off < p.span) (ha : p.base + n * p.span + off < 0x4000000)
    (he : inEventWindow (p.base + n * p.span + off) = false) (hw : inRecWindow (p.base + n * p.span + off) = false)
    (hm : inMonWindow p.blk off = false) (hrow : rowIn p n off = some r) (hwr : r.writable ≠ 0) (hpl : pairLow p.blk off = none)
    (hrst : off < 0x40 ∨ s.dev.resets.contains (p.base + n * p.span) = false) :
    s.poke (p.base + n * p.span + off) w = s.putReg p r (p.base + n * p.span) off (BitVec.ofNat 32 w) := by
  have hread : r.readable ||| r.wo ≠ 0 := by
    intro h
    apply hwr
    unfold RegRow.writable
    unfold RegRow.readable at h
    have z : ∀ x y : Nat, x ||| y = 0 ↔ x = 0 ∧ y = 0 := fun x y => Nat.or_eq_zero_iff
    simp only [z] at h ⊢
    omega
  have hres : (decide (0x40 ≤ off) && s.dev.resets.contains (p.base + n * p.span)) = false := by
    rcases hrst with h | h
    · simp
      omega
    · simp only [h, Bool.and_false]
  unfold State.poke
  rw [if_pos hr]
  unfold State.writeReg
  rw [if_neg (by omega), he, hw, pageDefAt_inst hp hn ho]
  simp only [Bool.false_eq_true, if_false, offOf_inst ho, Nat.add_sub_cancel, hm, instOf, hres]
  have hi : (p.base + n * p.span - p.base) / p.span = n := by
    rw [Nat.add_sub_cancel_left, Nat.mul_div_cancel _ (by omega)]
  rw [hi, hrow]
  simp only [hread, hwr, if_false, hpl]

end Sys2Proof.Machine
end

