-- ==== Sys2Proof/Laws/Settle.lean ====
section
/-! SUPPORT. What follows a command that leaves the device quiet: nothing. -/

namespace Sys2Proof.Machine

/-- The parts of quietness, as equations. -/
theorem Dev.quiet_iff (d : Dev) : d.quiet = true ↔ d.pins.held = false ∧ { d.wires with bad := false } = Wires.init ∧
    d.fault.standing = [] ∧ d.fault.progress = [] ∧ d.stirred = [] ∧ d.snapFeed = [] ∧ d.traceFeed = [] ∧ d.monFeed = [] ∧
    d.outbox = [] := by
  unfold Dev.quiet
  simp only [Bool.and_eq_true, Bool.not_eq_true', decide_eq_true_eq, List.isEmpty_iff, and_assoc]

theorem State.faultCycles_quiet {s : State} (n : Nat) (hf : s.dev.fault.standing = []) (hw : s.dev.wires.faults = []) :
    State.faultCycles n s = s := by
  cases n with
  | zero => rfl
  | succ n =>
    have : s.onDev Dev.relevel = s := by
      unfold State.onDev Dev.relevel
      rw [hf]
      rfl
    unfold State.faultCycles
    simp only [this, hw]

theorem Dev.endReactions_quiet {d : Dev} (h : d.fault.progress = []) : d.endReactions = d := by
  unfold Dev.endReactions
  obtain ⟨⟩ := d
  rename_i f _ _ _ _ _ _ _ _ _ _ _ _ _ _ _ _ _
  obtain ⟨⟩ := f
  simp only at h
  subst h
  rfl

theorem State.drainFeeds_quiet {s : State} (h1 : s.dev.snapFeed = []) (h2 : s.dev.traceFeed = []) (h3 : s.dev.monFeed = []) :
    s.drainFeeds = s := by
  obtain ⟨d, h, p⟩ := s
  obtain ⟨⟩ := d
  simp only at h1 h2 h3
  subst h1 h2 h3
  unfold State.drainFeeds State.monOut
  simp only [ite_self, List.foldl_nil, State.onDev]
  split <;> rfl

theorem State.drainOut_quiet {s : State} (h : s.dev.outbox = []) : s.drainOut = s := by
  have e : (s.onDev fun d => { d with outbox := [] }) = s := by
    obtain ⟨d, x, p⟩ := s
    obtain ⟨⟩ := d
    simp only at h
    subst h
    rfl
  unfold State.drainOut
  simp only [h, e, List.foldl_nil, ite_self]

/-- After a command that leaves the device quiet, in the same frame and with the same gates open, nothing follows: only the signal of a
bad access is put out. -/
theorem State.finish_quiet {o : Dev} {s : State} (hq : s.dev.quiet = true) (hs : s.dev.sameFrame o = true) :
    State.finish o s = s.onDev fun d => { d with wires := .init } := by
  obtain ⟨h1, h2, h3, h4, h5, h6, h7, h8, h9⟩ := (Dev.quiet_iff _).mp hq
  unfold Dev.sameFrame at hs
  simp only [Bool.and_eq_true, beq_iff_eq] at hs
  obtain ⟨⟨f1, f2⟩, f3⟩ := hs
  have w1 : s.dev.wires.faults = [] := congrArg Wires.faults h2
  have w2 : s.dev.wires.boundary = false := congrArg Wires.boundary h2
  have w3 : s.dev.wires.events = [] := congrArg Wires.events h2
  have w4 : s.dev.wires.mail = [] := congrArg Wires.mail h2
  have w5 : s.dev.wires.lost = [] := congrArg Wires.lost h2
  have w6 : s.dev.wires.touched = [] := congrArg Wires.touched h2
  have e1 : s.onDev (fun d => ((d.endReactions).showStats).noteGates o) = s := by
    unfold State.onDev
    dsimp only
    rw [Dev.endReactions_quiet h4]
    unfold Dev.showStats
    rw [h5]
    unfold Dev.noteGates
    simp only [List.foldl_nil, f3, if_true]
  have e2 : s.onDev (fun d => d.sendStates o d.stirred) = s := by
    unfold State.onDev Dev.sendStates
    dsimp only
    rw [h5]
    rfl
  unfold State.finish
  simp only [w2, Bool.false_eq_true, if_false, State.faultCycles_quiet 8 h3 w1, h1, e1, e2, w3, w4, w5, List.eraseDups_nil,
    List.foldl_nil]
  have e3 : (s.onDev fun d => if d.isMaster = true then d else d) = s := by
    unfold State.onDev
    simp only [ite_self]
  have e4 : (s.onDev fun d => if d.frame.frame = o.frame.frame ∧ d.frame.hyper = o.frame.hyper then d else d.obsTime) = s := by
    unfold State.onDev
    simp only [f1, f2, and_self, if_true]
  simp only [e3, State.drainFeeds_quiet h6 h7 h8, State.drainOut_quiet h9, e4, w6, List.isEmpty_nil, if_true]

end Sys2Proof.Machine
end

