-- ==== Sys2Proof/Laws/Sha.lean ====
section
/-! SUPPORT. A digest is 32 bytes. -/

namespace Sys2Proof.Machine

theorem shaRound_length (v : List Word) (k : Word × Word) (h : v.length = 8) : (shaRound v k).length = 8 := by
  unfold shaRound
  split
  · rfl
  · exact h

theorem shaRounds_length (ks : List (Word × Word)) : ∀ v : List Word, v.length = 8 → (ks.foldl shaRound v).length = 8 := by
  induction ks with
  | nil => exact fun v h => h
  | cons k r ih => exact fun v h => ih _ (shaRound_length v k h)

theorem shaBlocks_length : ∀ (n : Nat) (h : List Word) (m : List Nat), h.length = 8 → (shaBlocks n h m).length = 8
  | 0, _, _, hh => hh
  | n + 1, h, m, hh => by
    refine shaBlocks_length n _ _ ?_
    unfold shaBlock
    rw [List.length_zipWith, shaRounds_length _ h hh, hh]
    rfl

/-- A digest has 32 bytes. -/
theorem sha256_length (m : List Nat) : (sha256 m).length = 32 := by
  have h : ∀ l : List Word, (l.flatMap wordBytes).length = 4 * l.length := by
    intro l
    induction l with
    | nil => rfl
    | cons a r ih => rw [List.flatMap_cons, List.length_append, ih, List.length_cons]; show 4 + _ = _; omega
  unfold sha256
  rw [h, shaBlocks_length _ shaInit _ rfl]

/-- Each of them below 256. -/
theorem sha256_lt (m : List Nat) : ∀ b ∈ sha256 m, b < 256 := by
  intro b hb
  obtain ⟨w, -, h⟩ := List.mem_flatMap.mp hb
  have hw := w.isLt
  simp only [wordBytes, List.mem_cons, List.not_mem_nil, or_false] at h
  rcases h with rfl | rfl | rfl | rfl <;> omega

end Sys2Proof.Machine
end

