-- ==== Sys2Proof/WellFormed.lean ====
section
/-! DEFINITION. Which commands say something the block can meet: the shapes that operand types alone do not fix. A command that is not
well formed still has its meaning; claims may assume the form. -/

namespace Sys2Proof

/-- The samples of one cycle come from eight ADCs, each one giving none, 30 (alternative plan) or 32 (main plan) of them (R56, R73). -/
def adcInOk (x : AdcIn) : Bool := x.length == 8 && x.all fun l => l.isEmpty || l.length == 30 || l.length == 32

/-- A haul frame has 3,232 bytes (R287). -/
def haulFrameOk (f : List Byte) : Bool := f.length == 3232

/-- A host access has 1, 2, 4 or 8 bytes (R8). -/
def widthOk (n : Nat) : Bool := n == 1 || n == 2 || n == 4 || n == 8

/-- An upload's buffer is aligned to 4 KiB and holds at least one unit (Table 14-3). -/
def uploadOk (buf : BitVec 48) (len : BitVec 16) : Bool := buf.toNat % 4096 == 0 && len != 0

/-- A preload brings one bit for each of the boundary register's 53 cells (log entry 31). -/
def preloadOk (load : Option (List Bool)) : Bool :=
  match load with
  | none => true
  | some l => l.length == 53

/-- Is the command well formed? -/
def wellFormed : Instr → Bool
  | .recorderRestoreDone usable slots _ _ => !usable || slots != 0
  | .registerWrite _ _ bytes _ => widthOk bytes
  | .badAccessRead _ _ bytes => widthOk bytes
  | .tick adc => adcInOk adc
  | .freqCorrAdjust adc => adcInOk adc
  | .slewAdjust adc => adcInOk adc
  | .frameBoundary adc => adcInOk adc
  | .taDetection _ _ _ tick16 => tick16.toNat < 4915200 * 16
  | .levelCheckDone ms => ms.length ≤ 8
  | .ctrlFrameRx _ f _ => haulFrameOk f
  | .mgmtFrameRx _ f _ => haulFrameOk f
  | .sampleFrameRx _ f => haulFrameOk f
  | .emptyFrameRx _ f => haulFrameOk f
  | .haulFrameFail _ f => haulFrameOk f
  | .uploadTrace _ _ _ buf len => uploadOk buf len
  | .uploadRec _ _ buf len => uploadOk buf len
  | .faultRaise fs => !fs.isEmpty
  | .samplePreload load => preloadOk load
  | _ => true

end Sys2Proof
end

