-- ==== Sys2Proof/Tests/Slice0.lean ====
section
/-! SUPPORT. The model's own checks: an ill-formed command for each check of `wellFormed`; for each obligation a concrete state and operands
that meet its hypotheses, clause by clause; and single steps with results the spec gives. -/

namespace Sys2Proof.Tests

open Sys2Proof Sys2Proof.Machine

set_option Elab.async false

/-- A device out of reset with its registers accessible, the link to the host up, and the fields of `l` (page, field, value) set. -/
def devWith (l : List (Nat × Fld × Nat)) : Dev :=
  ((pDev, R.DEV_BOOT_FABRIC, 1) :: l).foldl (fun d x => d.setFld x.1 x.2.1 x.2.2)
    { Dev.init with pins := { PinSt.init with porHold := false, pcieUp := true } }

/-- The block with that device. -/
def running (l : List (Nat × Fld × Nat)) : State := { State.reset with dev := devWith l }

/-- The block with a device of its own. -/
def withDev (d : Dev) : State := { State.reset with dev := d }

/-- The block with the device that `f` makes of such a one. -/
def edited (l : List (Nat × Fld × Nat)) (f : Dev → Dev) : State := withDev (f (devWith l))

/-- The row of a page at an offset. -/
def rowOf (p : PageDef) (n off : Nat) : RegRow := (rowIn p n off).getD ⟨0, [], 0, 0, 0, 0, 0, 0, 0, 0⟩

/-! ### Ill-formed commands -/

theorem test_restore_without_slots_refused : wellFormed (.recorderRestoreDone true 0 false 0) = false := by decide
theorem test_write_of_three_bytes_refused : wellFormed (.registerWrite .spi 0 3 0) = false := by decide
theorem test_read_of_three_bytes_refused : wellFormed (.badAccessRead .spi 0 3) = false := by decide
theorem test_seven_converters_refused : wellFormed (.tick (List.replicate 7 [])) = false := by decide
theorem test_freq_corr_samples_refused : wellFormed (.freqCorrAdjust (List.replicate 8 [0])) = false := by decide
theorem test_slew_samples_refused : wellFormed (.slewAdjust []) = false := by decide
theorem test_frame_boundary_samples_refused : wellFormed (.frameBoundary (List.replicate 9 [])) = false := by decide
theorem test_late_detection_refused : wellFormed (.taDetection 0 false 0 78643200) = false := by decide
theorem test_nine_levels_refused : wellFormed (.levelCheckDone (List.replicate 9 ⟨0, 0, 0⟩)) = false := by decide
theorem test_short_ctrl_frame_refused : wellFormed (.ctrlFrameRx 0 [0] 0) = false := by decide
theorem test_uneven_upload_buffer_refused : wellFormed (.uploadTrace 0 0 0 1 1) = false := by decide
theorem test_empty_record_upload_refused : wellFormed (.uploadRec 0 0 4096 0) = false := by decide
theorem test_short_mgmt_frame_refused : wellFormed (.mgmtFrameRx 0 [] false) = false := by decide
theorem test_short_sample_frame_refused : wellFormed (.sampleFrameRx 0 []) = false := by decide
theorem test_short_empty_frame_refused : wellFormed (.emptyFrameRx 0 []) = false := by decide
theorem test_short_failing_frame_refused : wellFormed (.haulFrameFail 0 []) = false := by decide
theorem test_no_failing_check_refused : wellFormed (.faultRaise []) = false := by decide
theorem test_short_preload_refused : wellFormed (.samplePreload (some [true])) = false := by decide
theorem test_full_samples_accepted : wellFormed (.tick (List.replicate 8 (List.replicate 32 0))) = true := by decide

/-! ### Concrete cases that meet each statement's hypotheses -/

theorem witness_QueueOrder :
    (∃ (s : State) (c : Instr) (rest : List Instr), s.pending = c :: rest) ∧ ∃ s : State, s.pending = [] :=
  ⟨⟨{ State.reset with pending := [.status, .bypass] }, .status, [.bypass], by decide⟩, State.reset, by decide⟩

theorem witness_StepKeepsInv :
    ∃ s t : State, s.Inv ∧ step s = .next t ∧ s.pending = [.status] :=
  ⟨{ State.reset with pending := [.status] }, _, ⟨rfl, rfl⟩, rfl, rfl⟩

theorem witness_HeldDeviceTakesNothing :
    ∃ (c : Instr) (s : State), s.dev.pins.held = true ∧ actsInReset c = false := ⟨.status, .reset, by decide⟩

theorem witness_QuietCommandSettles :
    ∃ (o : Dev) (s : State), s.dev.quiet = true ∧ s.dev.sameFrame o = true := ⟨devWith [], running [], by decide +kernel⟩

theorem witness_FieldWrite : (∃ F G : Fld, F.lo + F.w ≤ 32 ∧ G.off = F.off ∧ F.lo + F.w ≤ G.lo) ∧
    ∃ F G : Fld, F.lo + F.w ≤ 32 ∧ G.off = F.off ∧ G.lo + G.w ≤ F.lo :=
  ⟨⟨R.DEV_BAD_ACC_CNT_COUNT, R.DEV_BAD_ACC_CNT_LAST_PAGE, by decide⟩, R.DEV_BAD_ACC_CNT_LAST_PAGE, R.DEV_BAD_ACC_CNT_COUNT, by decide⟩

theorem witness_BadAccessCounts : ∃ s : State, s.dev.answers 0 = true ∧ s.dev.answers 1 = true ∧ accessBad 0 8 = true ∧
    accessBad 2 4 = true ∧ accessBad 0x002FFC 4 = true ∧ accessBad 0x4000000 4 = true ∧ accessBad 0xFFFFFFFC 4 = true :=
  ⟨running [], by decide +kernel⟩

theorem witness_UnwritableWriteCounts :
    ∃ (s : State) (p : PageDef) (n off : Nat) (r : RegRow), s.dev.answers 1 = true ∧ p ∈ pageDefs ∧ n < p.count ∧ off < p.span ∧
      off % 4 = 0 ∧ rowIn p n off = some r ∧ r.readable ||| r.wo ≠ 0 ∧ r.writable = 0 ∧ inMonWindow p.blk off = false ∧
      inRecWindow (p.base + n * p.span + off) = false ∧ off < 0x40 :=
  ⟨running [], pageDefs[2], 191, 0, rowOf pageDefs[2] 191 0, by decide +kernel⟩

theorem witness_PlainWriteByCode :
    ∃ (s : State) (p : PageDef) (n off : Nat) (r : RegRow), s.dev.answers 1 = true ∧ p ∈ pageDefs ∧
      p.blk ∈ [Blk.dev, Blk.frame, Blk.bench, Blk.adc, Blk.dac, Blk.pin] ∧ n < p.count ∧ 0x40 ≤ off ∧ off < p.span ∧ off % 4 = 0 ∧
      rowAt p off = some r ∧ r.writable ≠ 0 ∧ pairLow p.blk off = none ∧ s.dev.resets.contains (p.base + n * p.span) = false :=
  ⟨running [], pageDefs[5], 7, 0x40, rowOf pageDefs[5] 7 0x40, by decide +kernel⟩

theorem witness_ReadClears :
    ∃ (s : State) (p : PageDef) (n off : Nat) (r : RegRow), s.dev.answers 0 = true ∧ p ∈ pageDefs ∧ n < p.count ∧ off < p.span ∧
      off % 4 = 0 ∧ rowIn p n off = some r ∧ r.rc ≠ 0 ∧ pairLow p.blk off = none ∧ inMonWindow p.blk off = false ∧
      inRecWindow (p.base + n * p.span + off) = false ∧ ¬ (p.blk = .xlat ∧ off = 0x6C) :=
  ⟨running [], pageDefs[0], 0, 0x4C, rowOf pageDefs[0] 0 0x4C, by decide +kernel⟩

theorem witness_PairRead :
    ∃ (s : State) (p : PageDef) (n lo : Nat) (r q : RegRow), s.dev.answers 1 = true ∧ p ∈ pageDefs ∧ n < p.count ∧ lo + 4 < p.span ∧
      lo % 4 = 0 ∧ pairLow p.blk lo = some lo ∧ pairLow p.blk (lo + 4) = some lo ∧ rowIn p n lo = some r ∧ rowIn p n (lo + 4) = some q ∧
      inMonWindow p.blk lo = false ∧ inMonWindow p.blk (lo + 4) = false ∧ inRecWindow (p.base + n * p.span + lo) = false ∧
      inRecWindow (p.base + n * p.span + (lo + 4)) = false ∧ (s.path 1).latch = some (p.base + n * p.span + lo, 7) :=
  ⟨(running []).setPath 1 { PathSt.init with latch := some (0x001054, 7) }, pageDefs[1], 0, 0x54, rowOf pageDefs[1] 0 0x54,
    rowOf pageDefs[1] 0 0x58, by decide +kernel⟩

theorem witness_PairWrite :
    ∃ (s : State) (n lo : Nat), s.dev.answers 1 = true ∧ n < 192 ∧ (lo = 0x80 ∨ lo = 0xE0) ∧ s.dev.resets.contains (pCh n) = false ∧
      (s.path 1).stage = some (pCh n + lo, 7) :=
  ⟨(running []).setPath 1 { PathSt.init with stage := some (0x1BF0E0, 7) }, 191, 0xE0, by decide +kernel⟩

theorem witness_EventEntryAccess : ∃ s : State, s.dev.answers 0 = true ∧ s.dev.answers 1 = true ∧ s.dev.answers 2 = true :=
  ⟨running [], by decide +kernel⟩

theorem witness_SpiTransactions :
    (∃ s : State, s.dev.pins.held = false ∧ s.dev.answers 1 = true ∧ s.dev.spi.active = true ∧ s.dev.spi.ignored = false) ∧
      (∃ s : State, s.dev.pins.held = false ∧ s.dev.answers 1 = false) ∧ ∃ cmd : BitVec 8, cmd.toNat ∉ [0x02, 0x03, 0x32, 0x6B, 0x05] :=
  ⟨⟨withDev { devWith [] with spi := { SpiSt.init with active := true } }, by decide +kernel⟩,
    ⟨withDev { devWith [(pDev, R.DEV_BOOT_FABRIC, 0)] with free := 0 }, by decide +kernel⟩, 0x06, by decide⟩

theorem witness_CommitBegins :
    ∃ (s : State) (p : PageDef), s.dev.reachable = true ∧ pageBaseOf 0x100 = some 0x100000 ∧ pageDefAt 0x100000 = some p ∧
      (s.dev.commits.any fun x => x.page == 0x100000) = true ∧ pageBaseOf 0x1BF = some 0x1BF000 ∧ pageDefAt 0x1BF000 = some p ∧
      (s.dev.commits.any fun x => x.page == 0x1BF000) = false :=
  ⟨withDev { devWith [] with commits := [⟨0x100000, [], false⟩] }, pageDefs[2], by decide +kernel⟩

theorem witness_CommitArms : ∃ s : State, s.dev.reachable = true ∧ pageBaseOf 0 = some 0 ∧ pageBaseOf 0x3F8 = some 0x3F8000 :=
  ⟨running [], by decide +kernel⟩

theorem witness_CommitTakesTheShadow :
    ∃ (s : State) (p : PageDef) (x : CommitSt), s.dev.pins.held = false ∧ pageBaseOf 0x200 = some 0x200000 ∧
      pageDefAt 0x200000 = some p ∧ p.blk ∈ [Blk.eng, Blk.dac, Blk.qmgr, Blk.xlat, Blk.irq, Blk.fault, Blk.recorder] ∧
      (s.dev.commits.find? fun y => y.page == 0x200000) = some x ∧ x.held = false ∧ x.snap ≠ [] :=
  ⟨withDev { devWith [] with commits := [⟨0x200000, [(0x200040, 3)], false⟩] }, pageDefs[3], ⟨0x200000, [(0x200040, 3)], false⟩,
    by decide +kernel⟩

theorem witness_SoftReset :
    ∃ (s : State) (p : PageDef), s.dev.reachable = true ∧ pageBaseOf 0x3B0 = some 0x3B0000 ∧ pageDefAt 0x3B0000 = some p ∧
      p.blk ∈ [Blk.qmgr, Blk.xlat, Blk.dma] ∧ s.dev.resets.contains 0x3B0000 = true :=
  ⟨withDev { devWith [] with resets := [0x3B0000] }, pageDefs[17], by decide +kernel⟩

theorem witness_PageHeaderWrites :
    ∃ (s : State) (p : PageDef), s.dev.reachable = true ∧ pageBaseOf 0x200 = some 0x200000 ∧ pageDefAt 0x200000 = some p ∧
      R.PG_FLT_INJ_CHK.get 3 < checkers p.blk ∧ checkers p.blk ≤ R.PG_FLT_INJ_CHK.get 4 :=
  ⟨running [], pageDefs[3], by decide +kernel⟩

theorem witness_ProfileTakesEffect :
    (∃ s : State, s.dev.pins.held = false ∧ s.dev.profile = s.dev.fld pDev R.DEV_PROFILE_REQ ∧ s.dev.forceWanted.1 = false) ∧
      ∃ s : State, s.dev.pins.held = false ∧ s.dev.profile = s.dev.fld pDev R.DEV_PROFILE_REQ ∧ s.dev.forceWanted.1 = true :=
  ⟨⟨running [], by decide +kernel⟩, running [(pTherm, R.THERM_STAT_STEP, 1)], by decide +kernel⟩

theorem witness_DivergeRises :
    (∃ (s : State) (p : PageDef), s.dev.pins.held = false ∧ pageBaseOf 0x200 = some 0x200000 ∧ pageDefAt 0x200000 = some p ∧
      p.blk ≠ .fe ∧ s.dev.fld 0x200000 R.PG_STAT_REQ ≠ s.dev.fld 0x200000 R.PG_STAT_EFF ∧
      s.dev.flag 0x200000 R.PG_STAT_DIVERGE = false ∧
      ¬ (p.blk = .ch ∧ s.dev.fld 0x200000 R.PG_STAT_EFF = 3 ∧ s.dev.fld 0x200000 R.PG_STAT_REQ = 4 ∧
        s.dev.fld 0x200000 R.CH_DEF_ERR_CODE ≠ 23)) ∧
    ∃ (s : State) (p : PageDef), s.dev.pins.held = false ∧ pageBaseOf 0x320 = some 0x320000 ∧ pageDefAt 0x320000 = some p ∧
      p.blk = .fe ∧ s.dev.grpReq 3 ≠ s.dev.grpEff 3 ∧ s.dev.flag pFe (R.FE_PG_STAT_DIVERGE 3) = false :=
  ⟨⟨running [(0x200000, R.PG_STAT_REQ, 4)], pageDefs[3], by decide +kernel⟩,
    running [(pFe, R.FE_PG_STAT_REQ 3, 4)], pageDefs[9], by decide +kernel⟩

theorem witness_PowerComesUp :
    (∃ (s : State) (p : PorInputs), s.dev.pins.porHold = true ∧ p.ok = 0xFF ∧ s.dev.flag pTherm R.THERM_STAT_SHUT = false) ∧
      (∃ (s : State) (p : PorInputs), s.dev.pins.porHold = true ∧ p.ok ≠ 0xFF) ∧
      (∃ s : State, s.dev.pins.held = false ∧ s.dev.flag pDev R.DEV_BOOT_FABRIC = false) ∧
      ∃ s : State, s.dev.pins.held = false ∧ s.dev.flag pDev R.DEV_BOOT_FABRIC = true ∧ s.dev.flag pDev R.DEV_BOOT_REC_DONE = false ∧
        s.dev.flag pPin (R.PIN_SUPPLY_OK.bit 7) = true ∧ s.dev.flash.newest = none :=
  ⟨⟨.reset, ⟨true, false, false, false, true, true, 0, 0, 0xFF, true⟩, by decide +kernel⟩,
    ⟨.reset, ⟨true, false, false, false, true, true, 0, 0, 0x7F, true⟩, by decide +kernel⟩,
    ⟨running [(pDev, R.DEV_BOOT_FABRIC, 0)], by decide +kernel⟩, running [(pPin, R.PIN_SUPPLY_OK.bit 7, 1)], by decide +kernel⟩

theorem witness_ClocksGoAndReturn :
    (∃ s : State, s.dev.pins.porHold = false ∧ s.dev.pins.refHold = false) ∧
      (∃ s : State, s.dev.pins.refHold = true ∧ s.dev.flag pTherm R.THERM_STAT_SHUT = false) ∧
      ∃ s : State, s.dev.pins.held = false ∧ s.dev.flag pDev R.DEV_CLK_STAT_CORE_LOCK = true ∧
        s.dev.flag pDev R.DEV_CLK_STAT_SYS_LOCK = true ∧ s.dev.flag pDev R.DEV_CLK_STAT_HAUL_LOCK = true ∧
        (∀ h, h < 3 → s.dev.linkState h = 0) ∧ s.dev.flag pDev R.DEV_BOOT_FABRIC = true :=
  ⟨⟨running [], by decide +kernel⟩, ⟨withDev { devWith [] with pins := { PinSt.init with porHold := false, refHold := true } },
    by decide +kernel⟩, running [(pDev, R.DEV_CLK_STAT_CORE_LOCK, 1), (pDev, R.DEV_CLK_STAT_SYS_LOCK, 1),
      (pDev, R.DEV_CLK_STAT_HAUL_LOCK, 1)], by decide +kernel⟩

theorem witness_ResetsGoAndCome :
    (∃ s : State, s.dev.pins.resetN = true ∧ s.dev.pins.porHold = false) ∧
      (∃ s : State, s.dev.pins.resetN = true ∧ s.dev.pins.porHold = true) ∧
      (∃ s : State, s.dev.pins.porHold = false ∧ s.dev.pins.refHold = false ∧ s.dev.flag pTherm R.THERM_STAT_SHUT = false ∧
        s.dev.pins.cause < 16 ∧ s.dev.pins.resetN = false ∧ s.dev.pins.chipHold = false) ∧
      (∃ s : State, s.dev.pins.porHold = false ∧ s.dev.pins.refHold = false ∧ s.dev.flag pTherm R.THERM_STAT_SHUT = false ∧
        s.dev.pins.cause < 16 ∧ s.dev.pins.resetN = true ∧ s.dev.pins.chipHold = true) ∧
      ∃ s : State, s.dev.pins.held = false ∧ s.dev.pins.pcieUp = true ∧ s.dev.flag pTherm R.THERM_STAT_SHUT = false ∧
        s.dev.reachable = true ∧ s.dev.pins.perstN = true ∧ s.dev.spiHost = false :=
  ⟨⟨running [], by decide +kernel⟩, ⟨.reset, by decide +kernel⟩,
    ⟨withDev { devWith [] with pins := { PinSt.init with porHold := false, resetN := false, cause := 2 } }, by decide +kernel⟩,
    ⟨withDev { devWith [] with pins := { PinSt.init with porHold := false, chipHold := true, cause := 4 } }, by decide +kernel⟩,
    running [], by decide +kernel⟩

theorem witness_RailsOut :
    ∃ (s : State) (rail : Fin 12), rail.val < 6 ∧ s.dev.pins.vaonLost = false ∧ s.dev.rcd.stage = 0 ∧
      s.dev.flag pDev R.DEV_BOOT_REC_DONE = false :=
  ⟨withDev { devWith [] with pins := { PinSt.init with porHold := false, vaonLost := false } }, 5, by decide +kernel⟩

/-- That device with frame time as `f` makes it. -/
def timed (l : List (Nat × Fld × Nat)) (f : FrameSt → FrameSt) : State := withDev { devWith l with frame := f .init }

theorem witness_CounterAdvances :
    (∃ s : State, s.dev.reachable = true ∧ s.dev.frame.tick + 1 = frameTicks ∧ s.dev.frame.slew = 3 ∧
      ¬ s.dev.frame.clk < s.dev.frame.slewClk + 4096) ∧
    (∃ s : State, s.dev.reachable = true ∧ corrTick ≤ s.dev.frame.corrAcc + s.dev.sfld pFrame R.FRAME_FREQ_CORR_CORR) ∧
    ∃ s : State, s.dev.reachable = true ∧ s.dev.frame.corrAcc + s.dev.sfld pFrame R.FRAME_FREQ_CORR_CORR ≤ -corrTick :=
  ⟨⟨timed [] fun f => { f with tick := frameTicks - 1, slew := 3, clk := 4096 }, by decide +kernel⟩,
    ⟨timed [] fun f => { f with corrAcc := corrTick }, by decide +kernel⟩,
    timed [] fun f => { f with corrAcc := -corrTick }, by decide +kernel⟩

theorem witness_SourcesQualify :
    (∃ s : State, s.dev.reachable = true ∧ s.dev.taSearches 7 = true ∧ 2 ≤ mat 0 s.dev.frame.taRun 7 ∧ s.dev.taSearches 0 = false) ∧
    (∃ s : State, s.dev.reachable = true ∧ s.dev.flag pFrame R.FRAME_CTL_PPS_EN = true ∧ 2 ≤ s.dev.frame.ppsRun ∧
      s.dev.frame.ppsLast = some (s.dev.frame.clk - secondClk) ∧ secondClk ≤ s.dev.frame.clk) ∧
    (∃ s : State, s.dev.reachable = true ∧ s.dev.flag pFrame R.FRAME_CTL_PPS_EN = false) ∧
    ∃ s : State, s.dev.reachable = true ∧ s.dev.fld pFrame R.FRAME_STAT_ACTIVE ≠ 0 ∧
      (s.dev.srcOrder.takeWhile (· ≠ s.dev.fld pFrame R.FRAME_STAT_ACTIVE)).find? s.dev.srcQual = some 3 :=
  ⟨⟨withDev { devWith [(pFrame, R.FRAME_TA_CFG_EN 7, 1), (pFrame, R.FRAME_TA_CFG_CH 7, 5), (pCh 5, R.CH_DEF_SRC_LOCAL, 1),
      (pCh 5, R.PG_CTL_EN, 1)] with frame := { FrameSt.init with taRun := [(7, 2)] } }, by decide +kernel⟩,
    ⟨timed [(pFrame, R.FRAME_CTL_PPS_EN, 1)] fun f => { f with ppsRun := 2, clk := secondClk, ppsLast := some 0 }, by decide +kernel⟩,
    ⟨running [], by decide +kernel⟩,
    running [(pFrame, R.FRAME_SRC_PRIO_P0, 3), (pFrame, R.FRAME_SRC_PRIO_P1, 1), (pFrame, R.FRAME_STAT_ACTIVE, 1),
      (pFrame, R.FRAME_STAT_QUAL, 5)], by decide +kernel⟩

theorem witness_SideControlMessages :
    (∃ (s : State) (sfn : BitVec 10) (ago : BitVec 16), s.dev.reachable = true ∧ 2 ≤ s.dev.frame.scRun ∧ s.dev.frame.scLost = false ∧
      s.dev.frame.scLast = some (((sfn.toNat * frameTicks + ago.toNat : Nat) : Int) + s.dev.sfld pFrame R.FRAME_SC_DLY_DLY -
        s.dev.frame.clk)) ∧
    (∃ (s : State) (codes : BitVec 80), s.dev.reachable = true ∧ ∀ p ∈ slotSpans 2 codes.toNat,
      p.code ≠ spanCode (mat [] s.dev.frame.slots (s.dev.frameAhead 1)) p.lo →
        s.dev.now + lateTicks ≤ s.dev.frameAhead 1 * frameTicks + p.lo) ∧
    (∃ s : State, s.dev.reachable = true ∧ s.dev.now + lateTicks ≤ s.dev.frameAhead 1023 * frameTicks ∧
      s.dev.frameAhead 0 * frameTicks < s.dev.now + lateTicks ∧ s.dev.offAt (s.dev.frameAhead 0 * frameTicks) = false ∧
      1 ≤ (timed [] fun f => { f with scBad := 1 }).dev.frame.scBad) ∧
    (∃ msg : BitVec 128, scCrcOk msg = false) ∧ ∃ msg : BitVec 128, scCrcOk msg = true ∧ bitsOf msg.toNat 127 124 = 0 :=
  ⟨⟨timed [] fun f => { f with scRun := 2, scLast := some 7 }, 0, 7, by decide +kernel⟩,
    ⟨running [], 0x55555555555555555555, by decide +kernel⟩, ⟨running [], by decide +kernel⟩, ⟨0, by decide +kernel⟩,
    0xA96A, by decide +kernel⟩

theorem witness_SideControlLost :
    ∃ s : State, s.dev.reachable = true ∧ s.dev.flag pFrame R.FRAME_CTL_SC_EN = true ∧ s.dev.frame.scLost = false ∧
      s.dev.fld pFrame R.FRAME_CTL_SC_LOSS ≤ s.dev.frame.noValid ∧ s.dev.flag pFrame (R.FRAME_CTL_SC_GOV.bit 0) = true :=
  ⟨timed [(pFrame, R.FRAME_CTL_SC_EN, 1), (pFrame, R.FRAME_CTL_SC_GOV, 1)] fun f => { f with noValid := 255 }, by decide +kernel⟩

theorem witness_BeamsWaitTheirTime :
    (∃ (s : State) (len : Nat), s.dev.reachable = true ∧ s.dev.frameAhead 1 = 1 ∧ mat [] s.dev.frame.slots 1 = [] ∧
      len = frameTicks / (10 * 2 ^ s.dev.fld pFe R.FE_BEAM_CTL_SCS) ∧ 9 < frameTicks / len ∧
      bitsOf (s.dev.pair pFe (R.FE_BEAM_LO_ENTRY 255) (R.FE_BEAM_HI_ENTRY 255)) 63 60 ≠ 0 ∧
      s.dev.now ≤ frameTicks + 9 * len + 6 * len / 7 - s.dev.fld pFe R.FE_BEAM_CTL_LEAD) ∧
    (∃ (s : State) (len : Nat), s.dev.reachable = true ∧ s.dev.frameAhead 0 = 0 ∧ mat [] s.dev.frame.slots 0 = [] ∧
      len = frameTicks / (10 * 2 ^ s.dev.fld pFe R.FE_BEAM_CTL_SCS) ∧ 0 < frameTicks / len ∧
      bitsOf (s.dev.pair pFe (R.FE_BEAM_LO_ENTRY 255) (R.FE_BEAM_HI_ENTRY 255)) 63 60 ≠ 0 ∧
      0 * len / 7 - s.dev.fld pFe R.FE_BEAM_CTL_LEAD < s.dev.now ∧ (0 + 1) * len / 7 ≤ s.dev.now) ∧
    (∃ (s : State) (grp : BitVec 4), s.dev.reachable = true ∧ 6 < grp.toNat) ∧
    ∃ (s : State) (b : BeamWait) (rest : List BeamWait) (e : Nat), s.dev.reachable = true ∧ s.dev.front.beams = b :: rest ∧
      (∀ c ∈ rest, b.due ≤ c.due) ∧ e = s.dev.pair pFe (R.FE_BEAM_LO_ENTRY b.entry) (R.FE_BEAM_HI_ENTRY b.entry) ∧ bitsOf e 63 60 = 1 ∧
      s.dev.rffeFull (bitsOf e 57 56) = false :=
  ⟨⟨running [(pFe, R.FE_BEAM_HI_ENTRY 255, 0x13500000), (pFe, R.FE_BEAM_CTL_SCS, 0)], 491520, by decide +kernel⟩,
    ⟨timed [(pFe, R.FE_BEAM_HI_ENTRY 255, 0x13500000), (pFe, R.FE_BEAM_CTL_SCS, 0)] fun f => { f with tick := 400000 }, 491520, by decide +kernel⟩,
    ⟨running [], 7, by decide +kernel⟩,
    edited [(pFe, R.FE_BEAM_HI_ENTRY 3, 0x13500000)] fun d => { d with front := { FrontSt.init with beams := [⟨3, 10⟩, ⟨2, 10⟩] } },
    ⟨3, 10⟩, [⟨2, 10⟩], 0x13500000 * 2 ^ 32, by decide +kernel⟩

/-- An event-table word: a USER action in every frame at tick 0. -/
def userEntry : BitVec 128 := 0xC0000000002000100000000000000000

theorem witness_EntriesAndActions :
    (∃ s : State, s.dev.reachable = true ∧ s.dev.frame.queue.length < 1024 ∧ (s.dev.entry 5).valid = false) ∧
    (∃ s : State, s.dev.reachable = true ∧ s.dev.frame.queue.length < 1024 ∧ (s.dev.entry 32767).valid = true ∧
      (s.dev.entry 32767).malformed ≠ 0) ∧
    (∃ s : State, s.dev.reachable = true ∧ s.dev.frame.queue.length < 1024 ∧ (s.dev.entry 0).valid = true ∧
      (s.dev.entry 0).malformed = 0 ∧ s.dev.nextTarget 0 (s.dev.entry 0) = some 0 ∧ s.dev.now ≤ 0 ∧ s.dev.frame.suppress = none) ∧
    (∃ s : State, s.dev.reachable = true ∧ s.dev.frame.queue.length < 1024 ∧ (s.dev.entry 0).valid = true ∧
      (s.dev.entry 0).malformed = 0 ∧ s.dev.nextTarget 0 (s.dev.entry 0) = some 0 ∧ 0 < s.dev.now ∧ (s.dev.entry 0).action ≠ 3) ∧
    (∃ (s : State) (a : Act), s.dev.reachable = true ∧ s.dev.frame.queue = [a] ∧ s.dev.now < a.issue) ∧
    (∃ (s : State) (a : Act), s.dev.reachable = true ∧ s.dev.frame.queue = [a] ∧ a.issue ≤ s.dev.now ∧ s.dev.frame.issuedNow < 16 ∧
      s.dev.actAllowed a.ent a.target = false) ∧
    ∃ (s : State) (a : Act), s.dev.reachable = true ∧ s.dev.frame.queue = [a] ∧ a.issue < s.dev.now ∧ s.dev.frame.issuedNow = 15 ∧
      s.dev.actAllowed a.ent a.target = true ∧ a.ent.action = 16 ∧ a.issue ≤ s.dev.frame.lastNow :=
  ⟨⟨running [], by decide +kernel⟩,
    ⟨timed [] fun f => { f with events := [(32767, 0xC0000000002000110000000000000000)] }, by decide +kernel⟩,
    ⟨timed [] fun f => { f with events := [(0, userEntry)] }, by decide +kernel⟩,
    ⟨timed [] fun f => { f with events := [(0, userEntry)], tick := 1 }, by decide +kernel⟩,
    ⟨timed [] fun f => { f with queue := [⟨0, decodeEntry userEntry, 9, false, false, false, 0⟩] },
      ⟨0, decodeEntry userEntry, 9, false, false, false, 0⟩, by decide +kernel⟩,
    ⟨timed [(pFrame, R.FRAME_CTL_SC_EN, 1), (pFrame, R.FRAME_CTL_SC_GOV, 1)] fun f =>
        { f with scLost := true, queue := [⟨0, { decodeEntry userEntry with action := 4, govEn := true }, 0, false, false, false, 0⟩] },
      ⟨0, { decodeEntry userEntry with action := 4, govEn := true }, 0, false, false, false, 0⟩, by decide +kernel⟩,
    timed [] fun f => { f with tick := 9, lastNow := 8, issuedNow := 15, queue := [⟨0, decodeEntry userEntry, 4, false, false, false, 0⟩] },
    ⟨0, decodeEntry userEntry, 4, false, false, false, 0⟩, by decide +kernel⟩

theorem witness_QueueStandsInOrder :
    ([⟨3, decodeEntry userEntry, 9, false, false, false, 0⟩, ⟨5, decodeEntry userEntry, 9, false, false, false, 0⟩] : List Act).Pairwise
      (fun x y => ¬ (y.issue < x.issue ∨ (y.issue = x.issue ∧ y.idx < x.idx))) := by decide +kernel

theorem witness_FrontActions :
    (∃ s : State, s.dev.reachable = true ∧ (s.dev.timeConfirms && s.dev.grpEff 1 == 4 && s.dev.grpLocked 1 && s.dev.slotAllows 1 s.dev.now &&
      !s.dev.grpMuted 1 && !s.dev.flag pPin R.PIN_STRAP_TEST) = true ∧ s.dev.rffeFull 0 = false ∧
      s.dev.fld pFe (R.FE_GPIO_MODE_MODE 47) = 1 ∧ s.dev.fld pFe (R.FE_GPIO_MODE_MODE 0) ≠ 1 ∧ s.dev.flag pObs R.OBS_STAT_FROZEN = false) ∧
    ∃ s : State, s.dev.reachable = true ∧ s.dev.timeConfirms = false ∧ s.dev.rffeFull 3 = true :=
  ⟨⟨running [(pFrame, R.FRAME_CTL_FREERUN_TX, 1), (pFe, R.FE_PG_STAT_EFF 1, 4), (pSyn 0, R.SYN_STAT_LOCK, 1), (pSyn 1, R.SYN_STAT_LOCK, 1),
      (pFe, R.FE_GPIO_MODE_MODE 47, 1), (pFe, R.FE_GPIO_MODE_MODE 0, 0)], by decide +kernel⟩,
    edited [] fun d => { d with front := { d.front with rffe := [(3, { RffeSt.init with queue := List.replicate 32 ⟨0, 0, 0, false, 0, 0, 0, false⟩ })] } },
    by decide +kernel⟩

theorem witness_ConverterActions :
    (∃ s : State, s.dev.reachable = true ∧ 2 ≤ (s.dev.grp (convGroup 15)).pos ∧ (s.dev.convSt 15).powered = true ∧
      (s.dev.convSt 15).asleep = false ∧ (s.dev.convSt 15).runs = true ∧ (s.dev.convSt 0).runs = false ∧
      (s.dev.convSt 14).powered = true ∧ (s.dev.convSt 14).asleep = true) ∧
    (∃ s : State, s.dev.reachable = true ∧ s.dev.flag pMon R.MON_CTL_PAIR = false ∧ s.dev.monOn 0 = false) ∧
    ∃ s : State, s.dev.reachable = true ∧ s.dev.flag pMon R.MON_CTL_PAIR = false ∧ s.dev.monOn 1 = true ∧ s.dev.monCompat 1 = false ∧
      (s.dev.monSt 1).conv = none :=
  ⟨⟨edited [] fun d => (((d.setGrp 1 { GroupSt.init with pos := 3 }).setConv 15 { ConvSt.init with powered := true }).setConv 14
      { ConvSt.init with powered := true, asleep := true }), by decide +kernel⟩, ⟨running [], by decide +kernel⟩,
    running [(pMon, R.PG_CTL_EN, 1), (pMon, R.MON_CTL_EN_A.bit 1, 1)], by decide +kernel⟩

theorem witness_BlockActions :
    (∃ (s : State) (p : PageDef), s.dev.reachable = true ∧ pageAt 0x11 95 = some 0x25F000 ∧ pageDefAt 0x25F000 = some p ∧
      p.blk ∈ [Blk.eng, Blk.dac, Blk.qmgr, Blk.xlat, Blk.irq, Blk.fault, Blk.recorder] ∧ s.dev.flag 0x25F000 R.PG_CTL_ARMED = true ∧
      s.dev.flag (pEng 0) R.ENG_STAT_SHADOW_VALID = true ∧ s.dev.flag (pEng 95) R.ENG_STAT_SHADOW_VALID = false) ∧
    (∃ s : State, s.dev.reachable = true ∧ s.dev.fld (pBias 3) R.BIAS_CTL_GROUP = 2 ∧ s.dev.biasHeld 3 = false ∧
      s.dev.flag (pBias 3) R.BIAS_STAT_DEGLITCH = false ∧ s.dev.fld (pBias 3) R.BIAS_CODE_CODE < s.dev.biasCode 3 + 4096 ∧
      s.dev.biasCode 3 < s.dev.fld (pBias 3) R.BIAS_CODE_CODE + 4096 ∧ s.dev.fld (pBias 15) R.BIAS_CTL_GROUP = 2 ∧
      s.dev.biasCode 15 + 4096 ≤ s.dev.fld (pBias 15) R.BIAS_CODE_CODE) ∧
    (∃ s : State, s.dev.reachable = true ∧ s.dev.fld (pBias 0) R.BIAS_CTL_GROUP = 0 ∧ s.dev.biasHeld 0 = true) ∧
    ∃ s : State, s.dev.reachable = true ∧ s.dev.flag (pCh 191) R.CH_FIR_STAT_FADING = false ∧
      bankFault (s.dev.bankTaps 191 1) (lineLength s.dev.profile (s.dev.fld (pCh 191) R.CH_DEF_RATE_K)) = 0 ∧
      s.dev.fld (pCh 191) R.CH_FIR_STAT_ACTIVE ≠ 1 ∧ (s.dev.sieveCh 191).unfitM = none ∧ s.dev.firRuns 191 = true :=
  ⟨⟨running [(0x25F000, R.PG_CTL_ARMED, 1), (pEng 0, R.ENG_STAT_SHADOW_VALID, 1)], pageDefs[3], by decide +kernel⟩,
    ⟨edited [(pBias 3, R.BIAS_CTL_GROUP, 2), (pBias 3, R.BIAS_CODE_CODE, 4095), (pBias 15, R.BIAS_CTL_GROUP, 2),
      (pBias 15, R.BIAS_CODE_CODE, 4096)] fun d => { d with pins := { d.pins with clrN := true } }, by decide +kernel⟩,
    ⟨edited [] fun d => { d with pins := { d.pins with clrN := false } }, by decide +kernel⟩,
    edited [(pCh 191, R.PG_CTL_EN, 1), (pCh 191, R.CH_DEF_SRC_LOCAL, 1), (pCh 191, R.CH_DEF_IN_MASK, 1)]
      fun d => d.setConv (d.rxConv 191 0) { ConvSt.init with powered := true, ref := true }, by decide +kernel⟩

theorem witness_ChainsAndBanks :
    (∃ s : State, s.dev.reachable = true ∧ (s.dev.convSt 15).runs = true ∧ (s.dev.convSt 0).runs = false) ∧
    (∃ s : State, s.dev.reachable = true ∧ s.dev.chOn 191 = true ∧ 3 < s.dev.chRank 191 ∧
      (s.dev.rxChain 191 3).coarseOut = some (9, 4, true)) ∧
    (∃ s : State, s.dev.reachable = true ∧ s.dev.resets.contains (pCh 0) = false ∧ s.dev.flag (pCh 0) R.CH_FIR_STAT_FADING = false ∧
      bankFault (s.dev.bankTaps 0 1) (lineLength s.dev.profile (s.dev.fld (pCh 0) R.CH_DEF_RATE_K)) = 0 ∧
      s.dev.fld (pCh 0) R.CH_FIR_STAT_ACTIVE ≠ 1 ∧ (s.dev.sieveCh 0).unfitM = none ∧ s.dev.firRuns 0 = true ∧
      s.dev.bankLocked 0 0 = true ∧ s.dev.bankLocked 0 1 = false) ∧
    ∃ s : State, s.dev.reachable = true ∧ s.dev.resets.contains (pCh 0) = false ∧ s.dev.flag (pCh 0) R.CH_FIR_STAT_FADING = true ∧
      s.dev.flag (pCh 0) R.CH_FIR_STAT_QUEUED = false :=
  ⟨⟨edited [] fun d => d.setConv 15 { ConvSt.init with powered := true }, by decide +kernel⟩,
    ⟨edited [(pCh 191, R.PG_CTL_EN, 1), (pCh 191, R.CH_DEF_RANK, 2)] fun d =>
      d.setRx 191 3 { RxChain.init with coarseOut := some (9, 4, true) }, by decide +kernel⟩,
    ⟨edited [(pCh 0, R.PG_CTL_EN, 1), (pCh 0, R.CH_DEF_SRC_LOCAL, 1), (pCh 0, R.CH_DEF_IN_MASK, 1)] fun d =>
      d.setConv (d.rxConv 0 0) { ConvSt.init with powered := true, ref := true }, by decide +kernel⟩,
    running [(pCh 0, R.CH_FIR_STAT_FADING, 1)], by decide +kernel⟩

theorem witness_GainCommands :
    (∃ s : State, s.dev.reachable = true ∧ s.dev.hasCanc 0 = true ∧ s.dev.cancFrozen 0 = true ∧ s.dev.hasCanc 191 = false) ∧
    (∃ (s : State) (w : List SampleWord), s.dev.reachable = true ∧ s.dev.hasCanc 3 = true ∧ s.dev.chRank 3 = 1 ∧
      s.dev.cancFrozen 3 = false ∧ s.dev.adaptHeld 3 = false ∧ s.dev.outGates 3 = true ∧ s.dev.outHold 3 = false ∧
      s.dev.flag pProt (R.PROT_CH_STAT_GATED 3) = false ∧ s.dev.notServed 3 = false ∧ w = s.dev.refWindow 3 0 ∧
      (w.any fun v => v.spoil) = false ∧ (mat .init (s.dev.canceller 3).x 0).spoil = false ∧
      (w.map fun v => (v.z.1 * v.z.1 + v.z.2 * v.z.2).toNat).sum ≠ 0 ∧ w.length = 2) ∧
    (∃ s : State, s.dev.reachable = true ∧ s.dev.flag (pCh 191) R.CH_DEF_SRC_LOCAL = true ∧ 0 < s.dev.chRank 191 ∧
      (s.dev.strm 191 0).waiting = 0) ∧
    (∃ s : State, s.dev.reachable = true ∧ s.dev.flag (pCh 191) R.CH_DEF_SRC_LOCAL = true ∧ 0 < s.dev.chRank 191 ∧
      (s.dev.strm 191 0).waiting ≠ 0) ∧
    (∃ s : State, s.dev.reachable = true ∧ s.dev.ulgOn 33 = true ∧ (s.dev.gainSt 33).ulRelay = true) ∧
    ∃ s : State, s.dev.reachable = true ∧ s.dev.energy.bad = true ∧ s.dev.resets.contains (pCh 0) = false :=
  ⟨⟨running [(pCh 0, R.PG_CTL_EN, 1), (pCh 0, R.CH_DEF_SRC_LOCAL, 1), (pCh 0, R.CH_DEF_OUT_MASK, 1), (pCh 0, R.CH_CANC_CTL_ADAPT_EN, 0)], by decide +kernel⟩,
    ⟨edited [(pCh 3, R.PG_CTL_EN, 1), (pCh 3, R.CH_DEF_SRC_LOCAL, 1), (pCh 3, R.CH_DEF_OUT_MASK, 1), (pCh 3, R.CH_CANC_CTL_ADAPT_EN, 1)]
      fun d => { d.setCanc 3 { CancSt.init with eff := 2, ref := [(0, [⟨5, 0, false, false, false⟩, .init])] } with
        front := { FrontSt.init with gates := 0xFF } },
      [⟨5, 0, false, false, false⟩, .init], by decide +kernel⟩,
    ⟨running [(pCh 191, R.CH_DEF_SRC_LOCAL, 1)], by decide +kernel⟩,
    ⟨edited [(pCh 191, R.CH_DEF_SRC_LOCAL, 1)] fun d => d.setStrm 191 0 { StreamSt.init with waiting := 1 }, by decide +kernel⟩,
    ⟨edited [(pCh 33, R.PG_CTL_EN, 1), (pCh 33, R.CH_DEF_DIR, 1), (pProt, (R.PROT_ULG_EN_EN 1).bit 1, 1)] fun d =>
      d.setGain 33 { GainSt.init with ulRelay := true }, by decide +kernel⟩,
    edited [] fun d => { d with energy := { EnergySt.init with bad := true } }, by decide +kernel⟩

theorem witness_GainMovesInSteps :
    ∃ d : Dev, (d.gainSt 0).ramp = none ∧ max ((d.composition 0).1 - d.aFast 0) (-32768) ≤ (d.gainSt 0).applied ∧ 0 ≤ d.aFast 0 :=
  ⟨(devWith []).setGain 0 { GainSt.init with applied := 32767 }, by decide +kernel⟩

theorem witness_EnginesAreControlled :
    (∃ s : State, s.dev.reachable = true ∧ s.dev.resets.contains (pEng 95) = false ∧ (s.dev.engine 95).swapArmed = false ∧
      s.dev.engState 95 = 0 ∧ Image.some (s.dev.active 95) = true ∧ (s.dev.engine 95).verifying = true ∧
      s.dev.injArmed (pEng 95) 3 = false ∧ s.dev.engClock = true ∧ (s.dev.engine 95).startReq = true) ∧
    (∃ s : State, s.dev.reachable = true ∧ s.dev.resets.contains (pEng 0) = false ∧ (s.dev.engine 0).swapArmed = true ∧
      s.dev.engState 0 = 1 ∧ (s.dev.engine 0).issues = 0 ∧ s.dev.flag (pEng 0) R.ENG_STAT_SHADOW_VALID = true) ∧
    ∃ s : State, s.dev.reachable = true ∧ (s.dev.engine 0).swapArmed = true ∧ s.dev.engState 0 = 1 ∧ (s.dev.engine 0).issues ≠ 0 :=
  ⟨⟨edited [(pDev, R.DEV_PWR_EFF, 2)] fun d => d.setEng 95 { EngSt.init with verifying := true, startReq := true, bank0 := [(0, 1)] },
      by decide +kernel⟩,
    ⟨edited [(pEng 0, R.ENG_STAT_SHADOW_VALID, 1), (pEng 0, R.ENG_STAT_STATE, 1)] fun d => d.setEng 0 { EngSt.init with swapArmed := true },
      by decide +kernel⟩,
    edited [(pEng 0, R.ENG_STAT_STATE, 1)] fun d => d.setEng 0 { EngSt.init with swapArmed := true, issues := 1 }, by decide +kernel⟩

theorem witness_BundleIssues :
    (∃ s : State, s.dev.reachable = true ∧ s.dev.engClock = false) ∧
    (∃ s : State, s.dev.reachable = true ∧ s.dev.engClock = true ∧ s.dev.engState 7 = 1 ∧
      (s.dev.engine 7).pred (s.dev.active 7) (bitsOf (Image.bundle (s.dev.active 7) 0) 239 232) = false ∧
      bitsOf (Image.bundle (s.dev.active 7) 0) 255 252 = 3) ∧
    (∃ s : State, s.dev.reachable = true ∧ s.dev.engClock = true ∧ s.dev.engState 7 = 1 ∧
      (s.dev.engine 7).pred (s.dev.active 7) (bitsOf (Image.bundle (s.dev.active 7) 0) 239 232) = false ∧
      bitsOf (Image.bundle (s.dev.active 7) 0) 255 252 = 4 ∧ s.dev.injArmed (pEng 7) 2 = false ∧
      crc32cByte (crc32cByte (s.dev.engine 7).crc 0) 0 ^^^ 0xFFFFFFFF ≠ Image.sig (s.dev.active 7)) ∧
    (∃ s : State, s.dev.reachable = true ∧ s.dev.engClock = true ∧ s.dev.engState 7 = 1 ∧
      (s.dev.engine 7).pred (s.dev.active 7) (bitsOf (Image.bundle (s.dev.active 7) 0) 239 232) = false ∧
      bitsOf (Image.bundle (s.dev.active 7) 0) 255 252 = 4 ∧ s.dev.injArmed (pEng 7) 2 = false ∧
      crc32cByte (crc32cByte (s.dev.engine 7).crc 0) 0 ^^^ 0xFFFFFFFF = Image.sig (s.dev.active 7) ∧
      (s.dev.engine 7).issues + 1 = Image.cycles (s.dev.active 7)) ∧
    ∃ s : State, s.dev.reachable = true ∧ s.dev.engState 7 = 2 ∧ 1024 ≤ (s.dev.engine 7).tailIssues :=
  ⟨⟨running [(pDev, R.DEV_PWR_EFF, 1)], by decide +kernel⟩,
    ⟨edited [(pDev, R.DEV_PWR_EFF, 2), (pEng 7, R.ENG_STAT_STATE, 1)] fun d =>
      d.setEng 7 { EngSt.init with bank0 := [(0xA1F, 0x30002000)] }, by decide +kernel⟩,
    ⟨edited [(pDev, R.DEV_PWR_EFF, 2), (pEng 7, R.ENG_STAT_STATE, 1)] fun d =>
      d.setEng 7 { EngSt.init with bank0 := [(0xA1F, 0x40002000)] }, by decide +kernel⟩,
    ⟨edited [(pDev, R.DEV_PWR_EFF, 2), (pEng 7, R.ENG_STAT_STATE, 1)] fun d =>
      d.setEng 7 { EngSt.init with bank0 := [(5, 1), (7, 0xFFFFFFFF), (0xA1F, 0x40002000)] }, by decide +kernel⟩,
    edited [(pEng 7, R.ENG_STAT_STATE, 2)] fun d => d.setEng 7 { EngSt.init with tailIssues := 1024 }, by decide +kernel⟩

theorem witness_PeriodsAndBlocks :
    ∃ (s : State) (a : ApplyMsg), s.dev.reachable = true ∧ s.dev.engClock = true ∧ s.dev.engState 95 = 1 ∧
      (s.dev.strm 191 3).cur.length < s.dev.blockLen 191 ∧ s.dev.blockLen 0 ≤ (s.dev.strm 0 0).cur.length ∧ s.dev.applies = [a] ∧
      a.chan < 192 ∧ a.ctl = 0 :=
  ⟨edited [(pDev, R.DEV_PWR_EFF, 2), (pEng 95, R.ENG_STAT_STATE, 1), (pCh 0, R.CH_DEF_RATE_K, 2), (pCh 191, R.CH_DEF_RATE_K, 3)] fun d =>
      { d.setStrm 0 0 { StreamSt.init with cur := [.init] } with applies := [⟨95, 191, 0, 3, 1⟩] },
    ⟨95, 191, 0, 3, 1⟩, by decide +kernel⟩

theorem witness_EmissionTrips :
    (∃ (s : State) (est : BitVec 16), s.dev.reachable = true ∧ s.dev.chOn 5 = true ∧ s.dev.fld (pCh 5) R.CH_DEF_OUT_MASK ≠ 0 ∧
      s.dev.muted 5 = false ∧ s.dev.sfld (pCh 5) R.CH_GL_LVL_PMAX - 30 * 256 ≤ s.dev.sfld (pCh 5) R.CH_GL_PWR_POUT ∧
      s.dev.flag pProt R.PROT_CTL_OOBE_EN = true ∧ (s.dev.fld pProt R.PROT_THR_A_OOBE_MASK * 256 : Nat) = est.toInt) ∧
    ∃ (s : State) (est : BitVec 16), s.dev.reachable = true ∧ s.dev.chOn 5 = true ∧ s.dev.fld (pCh 5) R.CH_DEF_OUT_MASK ≠ 0 ∧
      s.dev.muted 5 = false ∧ s.dev.sfld (pCh 5) R.CH_GL_LVL_PMAX - 30 * 256 ≤ s.dev.sfld (pCh 5) R.CH_GL_PWR_POUT ∧
      s.dev.flag pProt R.PROT_CTL_OOBE_EN = true ∧ est.toInt < (s.dev.fld pProt R.PROT_THR_A_OOBE_MASK * 256 : Nat) ∧
      s.dev.fld pProt R.PROT_THR_B_OOBE_WIN ≤ (s.dev.gainSt 5).oobeRun + 1 ∧ s.dev.fld pProt (R.PROT_CH_STAT_ATTEMPT 5) = 3 :=
  ⟨⟨running [(pCh 5, R.PG_CTL_EN, 1), (pCh 5, R.CH_DEF_OUT_MASK, 1), (pProt, R.PROT_CTL_OOBE_EN, 1), (pProt, R.PROT_THR_A_OOBE_MASK, 40),
      (pCh 5, R.CH_GL_LVL_PMAX, 30 * 256), (pCh 5, R.CH_GL_PWR_POUT, 0)], 10240, by decide +kernel⟩,
    edited [(pCh 5, R.PG_CTL_EN, 1), (pCh 5, R.CH_DEF_OUT_MASK, 1), (pProt, R.PROT_CTL_OOBE_EN, 1), (pProt, R.PROT_THR_A_OOBE_MASK, 40),
      (pCh 5, R.CH_GL_LVL_PMAX, 30 * 256), (pCh 5, R.CH_GL_PWR_POUT, 0), (pProt, R.PROT_CH_STAT_ATTEMPT 5, 3)] fun d =>
        d.setGain 5 { GainSt.init with oobeRun := 254 }, 10239, by decide +kernel⟩

theorem witness_ProtectionLadder :
    (∃ s : State, s.dev.reachable = true ∧ s.dev.flag pProt (R.PROT_CH_STAT_MUTED 0) = true ∧
      s.dev.flag pProt (R.PROT_CH_STAT_LATCHED 0) = false ∧ s.dev.flag pProt (R.PROT_CH_STAT_MUTED 191) = true ∧
      s.dev.flag pProt (R.PROT_CH_STAT_LATCHED 191) = true ∧ s.dev.resets.contains pProt = false ∧
      s.dev.flag pProt R.PROT_DIR_DL_LATCH = false ∧ s.dev.prot.dlCauses = [10] ∧ s.dev.flag pProt R.PROT_DIR_UL_LATCH = false ∧
      s.dev.prot.ulCauses = [10] ∧ s.dev.flag pProt R.PROT_DIR_RF_LATCH = false ∧ s.dev.prot.devCauses = [10]) ∧
    (∃ s : State, s.dev.reachable = true ∧ s.dev.muted 5 = false ∧ s.dev.rfOff = false ∧ s.dev.flag (pSyn 0) R.SYN_STAT_LOCK = true ∧
      s.dev.flag (pSyn 1) R.SYN_STAT_LOCK = true) ∧
    ∃ s : State, s.dev.reachable = true ∧ s.dev.resets.contains pProt = false ∧ s.dev.flag pProt R.PROT_DIR_DL_LATCH = true ∧
      s.dev.flag pProt R.PROT_DIR_UL_LATCH = true ∧ s.dev.flag pProt R.PROT_DIR_RF_LATCH = true :=
  ⟨⟨edited [(pProt, R.PROT_CH_STAT_MUTED 0, 1), (pProt, R.PROT_CH_STAT_MUTED 191, 1), (pProt, R.PROT_CH_STAT_LATCHED 191, 1)] fun d =>
      { d with prot := { ProtSt.init with dlCauses := [10], ulCauses := [10], devCauses := [10] } }, by decide +kernel⟩,
    ⟨running [(pSyn 0, R.SYN_STAT_LOCK, 1), (pSyn 1, R.SYN_STAT_LOCK, 1)], by decide +kernel⟩,
    running [(pProt, R.PROT_DIR_DL_LATCH, 1), (pProt, R.PROT_DIR_UL_LATCH, 1), (pProt, R.PROT_DIR_RF_LATCH, 1)], by decide +kernel⟩

theorem witness_SynthesiserEvents :
    (∃ s : State, s.dev.reachable = true ∧ s.dev.resets.contains (pSyn 1) = false ∧ s.dev.flag (pSyn 1) R.SYN_STAT_CAL_BUSY = false ∧
      s.dev.synRelays 1 = false ∧ s.dev.flag (pSyn 1) R.SYN_STAT_LOCK = true) ∧
    (∃ s : State, s.dev.reachable = true ∧ s.dev.resets.contains (pSyn 0) = false ∧ s.dev.flag (pSyn 0) R.SYN_STAT_CAL_BUSY = false ∧
      s.dev.synRelays 0 = true ∧ (s.dev.synSt 0).relockWait = true ∧ (s.dev.synSt 0).retryWait = true) ∧
    ∃ s : State, s.dev.reachable = true ∧ s.dev.flag (pSyn 0) R.SYN_STAT_CAL_BUSY = true ∧ (s.dev.synSt 0).cause = 3 :=
  ⟨⟨running [(pSyn 1, R.SYN_STAT_LOCK, 1), (pSyn 1, R.SYN_STAT_CAL_BUSY, 0)], by decide +kernel⟩,
    ⟨edited [(pFe, R.FE_PG_STAT_EFF 3, 4), (pSyn 0, R.SYN_STAT_CAL_BUSY, 0)] fun d => d.setSyn 0 ⟨0, true, true⟩, by decide +kernel⟩,
    edited [(pSyn 0, R.SYN_STAT_CAL_BUSY, 1)] fun d => d.setSyn 0 ⟨3, false, false⟩, by decide +kernel⟩

theorem witness_SpareRotates :
    ∃ (s : State) (good far rail : SpareMeas), s.dev.reachable = true ∧ s.dev.bgRuns 7 = true ∧ (s.dev.adcCal 7).stepping = true ∧
      (s.dev.adcCal 7).replace = none ∧ good.quiet = false ∧ railed [good.offset, good.gain, good.skew] = false ∧ good.rOffset = 1 ∧
      good.rGain = 2 ∧ good.rSkew = 4 ∧ far.quiet = false ∧ railed [far.offset, far.gain, far.skew] = false ∧ 1 < far.rOffset ∧
      rail.quiet = false ∧ railed [rail.offset, rail.gain, rail.skew] = true ∧ (s.dev.adcCal 0).replace = none ∧
      (s.dev.adcCal 0).stepping = false :=
  ⟨edited [(pAdc 7, R.ADC_CTL_BG_EN, 1), (pSyn 0, R.SYN_STAT_LOCK, 1)] fun d =>
      (d.setConv 7 { ConvSt.init with powered := true }).setAdcCal 7 { AdcCal.init with stepping := true },
    ⟨510, -511, 2046, 1, 2, 4, false, true⟩, ⟨0, 0, 0, 2, 0, 0, false, true⟩, ⟨511, 0, 0, 0, 0, 0, false, true⟩, by decide +kernel⟩

/-- A device ready for a LOAD run: powered, its sets frozen and valid, each at its temperature point. -/
def loadReady0 : Dev :=
  devWith ([(pDev, R.DEV_PWR_EFF, 2), (pCal, R.CAL_CTL_FREEZE_SETS, 1), (pCal, R.CAL_STAT_STATE, 0), (pSyn 0, R.SYN_STAT_CAL_BUSY, 0),
    (pSyn 1, R.SYN_STAT_CAL_BUSY, 0), (pFe, R.FE_PG_STAT_EFF 0, 6), (pFe, R.FE_PG_STAT_EFF 1, 6), (pFe, R.FE_PG_STAT_EFF 2, 6),
    (pFe, R.FE_PG_STAT_EFF 3, 6)] ++ (List.range 8).flatMap fun s =>
      [(pCal, R.CALW_HDR_VALID s, 1), (pCal, R.CALW_HDR_TPOINT s, twos 16 (256 * calPoint s))])

theorem sigBytes_congr (a b : Dev) (h : ∀ i, a.reg (pCal + 0x1000 + i / 4 * 4) = b.reg (pCal + 0x1000 + i / 4 * 4)) :
    a.calSigBytes = b.calSigBytes := by
  unfold Dev.calSigBytes
  simp only [h]

theorem sigBytes_lt (d : Dev) : ∀ b ∈ d.calSigBytes, b < 2 ^ 32 := by
  intro b hb
  rcases List.mem_append.mp hb with h | h <;>
    (obtain ⟨i, -, rfl⟩ := List.mem_map.mp h; exact Nat.lt_of_lt_of_le (Nat.mod_lt _ (by decide)) (by decide))

/-- A device with the expected signature of its sets put there. -/
def withSig (d : Dev) : Dev := { d with regs := (0x312054, BitVec.ofNat 32 (crc32c d.calSigBytes)) :: d.regs }

theorem withSig_sig (d : Dev) : crc32c (withSig d).calSigBytes = (withSig d).fld pCal R.CAL_SIG_EXP_SIG := by
  have h1 : (withSig d).calSigBytes = d.calSigBytes := sigBytes_congr _ _ fun i =>
    if_neg (by
      have : pCal = 0x312000 := rfl
      omega)
  have h2 : (withSig d).reg 0x312054 = BitVec.ofNat 32 (crc32c d.calSigBytes) := by
    unfold withSig Dev.reg
    rw [mget, if_pos rfl]
  have h3 : crc32c d.calSigBytes < 2 ^ 32 := crc_lt d.calSigBytes (sigBytes_lt d)
  show _ = ((withSig d).reg 0x312054 >>> 0).toNat % 2 ^ 32
  rw [h1, h2, BitVec.ushiftRight_zero, BitVec.toNat_ofNat, Nat.mod_mod, Nat.mod_eq_of_lt h3]

theorem witness_CalibrationRuns :
    (∃ s : State, s.dev.reachable = true ∧ s.dev.resets.contains pCal = false ∧ s.dev.calRefuse 1 = 0 ∧ s.dev.calRefuse 3 = 0 ∧
      s.dev.flag pCal R.CAL_CTL_FREEZE_SETS = true ∧ s.dev.setsOpen = true) ∧
    (∃ s : State, s.dev.reachable = true ∧ s.dev.resets.contains pCal = false ∧ s.dev.calRefuse 1 ≠ 0 ∧ s.dev.setsOpen = false) ∧
    (∃ s : State, s.dev.reachable = true ∧ s.dev.resets.contains pCal = false ∧ s.dev.calRefuse 2 = 0) ∧
    (∃ s : State, s.dev.reachable = true ∧ s.dev.resets.contains pCal = false ∧ s.dev.cal.kind = 1 ∧ s.dev.cal.step = 1 ∧
      s.dev.cal.abort = false ∧ s.dev.bothLocked = true) ∧
    (∃ s : State, s.dev.reachable = true ∧ s.dev.resets.contains pCal = false ∧ s.dev.cal.kind = 1 ∧ s.dev.cal.step = 1 ∧
      s.dev.cal.abort = false ∧ s.dev.bothLocked = false) ∧
    (∃ s : State, s.dev.reachable = true ∧ s.dev.resets.contains pCal = false ∧ s.dev.cal.kind = 2 ∧ s.dev.cal.abort = true) ∧
    (∃ s : State, s.dev.reachable = true ∧ s.dev.resets.contains pCal = false ∧ s.dev.cal.kind = 3) ∧
    ∃ (p : PageDef) (r : RegRow), pageDefAt 0x313000 = some p ∧ rowAt p (offOf p 0x313000) = some r ∧ r.writable ≠ 0 :=
  ⟨⟨withDev loadReady0, by decide +kernel⟩, ⟨running [(pDev, R.DEV_PWR_EFF, 1)], by decide +kernel⟩,
    ⟨withDev (withSig loadReady0), by decide +kernel, by decide +kernel, by
      show (withSig loadReady0).calRefuse 2 = 0
      unfold Dev.calRefuse
      rw [if_neg (by decide +kernel), if_neg (by decide +kernel), if_neg (fun h => h.2 (withSig_sig loadReady0)), if_neg (by decide +kernel),
        if_neg (by decide +kernel), if_neg (by decide +kernel)]⟩,
    ⟨edited [(pSyn 0, R.SYN_STAT_LOCK, 1), (pSyn 1, R.SYN_STAT_LOCK, 1), (pSyn 0, R.SYN_STAT_CAL_BUSY, 0), (pSyn 1, R.SYN_STAT_CAL_BUSY, 0)]
      fun d => { d with cal := { CalSt.init with kind := 1, step := 1 } }, by decide +kernel⟩,
    ⟨edited [(pSyn 0, R.SYN_STAT_LOCK, 0)] fun d => { d with cal := { CalSt.init with kind := 1, step := 1 } }, by decide +kernel⟩,
    ⟨edited [] fun d => { d with cal := { CalSt.init with kind := 2, abort := true } }, by decide +kernel⟩,
    ⟨edited [] fun d => { d with cal := { CalSt.init with kind := 3 } }, by decide +kernel⟩,
    pageDefs[8], rowOf pageDefs[8] 0 0x1000, by decide +kernel⟩

/-- That device with path group `g` in a state of its own. -/
def grouped (l : List (Nat × Fld × Nat)) (g : Nat) (x : GroupSt) : State := edited l fun d => d.setGrp g x

theorem witness_PathSteps :
    (∃ s : State, s.dev.reachable = true ∧ (s.dev.grp 3).stepTo = none ∧ nextState (s.dev.grp 3).pos (s.dev.grpGoal 3) = some 4 ∧
      s.dev.grpLocked 3 = true) ∧
    (∃ s : State, s.dev.reachable = true ∧ (s.dev.grp 3).stepTo = none ∧ nextState (s.dev.grp 3).pos (s.dev.grpGoal 3) = some 4 ∧
      s.dev.grpLocked 3 = false) ∧
    (∃ s : State, s.dev.reachable = true ∧ (s.dev.grp 0).stepTo = none ∧ nextState (s.dev.grp 0).pos (s.dev.grpGoal 0) = some 2 ∧
      (s.dev.grp 0).pos = 6 ∧ s.dev.calHolds 0 = false) ∧
    (∃ s : State, s.dev.reachable = true ∧ (s.dev.grp 1).stepTo = some 4 ∧ (s.dev.grp 1).seqDone = true ∧ (s.dev.grp 1).prot = 0) ∧
    (∃ s : State, s.dev.reachable = true ∧ (s.dev.grp 2).seqRun = some (8, 7) ∧ bitsOf (s.dev.seqStep 2 8 7) 63 60 ≠ 1 ∧
      (s.dev.grp 2).hwDone = false) ∧
    (∃ s : State, s.dev.reachable = true ∧ (s.dev.grp 2).seqRun = some (8, 7) ∧ bitsOf (s.dev.seqStep 2 8 7) 63 60 = 1) ∧
    (∃ s : State, s.dev.reachable = true ∧ (s.dev.grp 1).retDue = true ∧ s.dev.grpEff 1 = 4) ∧
    (∃ s : State, s.dev.reachable = true ∧ (s.dev.grp 1).retDue = true ∧ s.dev.grpEff 1 ≠ 4) ∧
    ∃ s : State, s.dev.reachable = true ∧ (s.dev.convSt 15).waking = true :=
  ⟨⟨grouped [(pDev, R.DEV_PWR_EFF, 3), (pFe, R.FE_PG_STAT_REQ 3, 4), (pSyn 1, R.SYN_STAT_LOCK, 1), (pSyn 1, R.SYN_STAT_CAL_BUSY, 0)] 3
      { GroupSt.init with pos := 3 }, by decide +kernel⟩,
    ⟨grouped [(pDev, R.DEV_PWR_EFF, 3), (pFe, R.FE_PG_STAT_REQ 3, 4), (pSyn 1, R.SYN_STAT_LOCK, 0)] 3 { GroupSt.init with pos := 3 },
      by decide +kernel⟩,
    ⟨grouped [(pDev, R.DEV_PWR_EFF, 3)] 0 { GroupSt.init with pos := 6 }, by decide +kernel⟩,
    ⟨grouped [] 1 { GroupSt.init with stepTo := some 4, seqDone := true, pos := 3 }, by decide +kernel⟩,
    ⟨grouped [] 2 { GroupSt.init with seqRun := some (8, 7), stepTo := some 0, pos := 1 }, by decide +kernel⟩,
    ⟨grouped [(pFe, R.FE_SEQ_HI_STEP 2 8 7, 0x10000000)] 2 { GroupSt.init with seqRun := some (8, 7) }, by decide +kernel⟩,
    ⟨grouped [(pFe, R.FE_PG_STAT_EFF 1, 4)] 1 { GroupSt.init with retDue := true }, by decide +kernel⟩,
    ⟨grouped [] 1 { GroupSt.init with retDue := true }, by decide +kernel⟩,
    edited [] fun d => d.setConv 15 { ConvSt.init with powered := true, waking := true }, by decide +kernel⟩

/-- A timed write from the event table. -/
def aWrite : RffeWrite := { usid := 15, addr := 65535, data := 255, long := true, src := 0, grp := 0, idx := 0, undo := false }

/-- That device with RFFE master `m` in a state of its own. -/
def onBus (m : Nat) (x : RffeSt) : State := edited [] fun d => d.setRffe m x

theorem witness_RffeBus :
    (∃ s : State, s.dev.reachable = true ∧ (s.dev.rffe 3).run = none ∧ (s.dev.rffe 3).hostRun = false ∧
      (s.dev.rffe 3).queue = [aWrite, aWrite] ∧ s.dev.resets.contains pFe = false ∧ (s.dev.rffe 3).host = none) ∧
    (∃ s : State, s.dev.reachable = true ∧ (s.dev.rffe 0).run = some aWrite ∧ aWrite.src ≠ 1) ∧
    (∃ s : State, s.dev.reachable = true ∧ (s.dev.rffe 0).host.isSome = true ∧ (s.dev.rffe 0).queue = [] ∧ (s.dev.rffe 0).run = none ∧
      (s.dev.rffe 0).hostRun = false) ∧
    ∃ s : State, s.dev.reachable = true ∧ (s.dev.rffe 0).run = none ∧ (s.dev.rffe 0).hostRun = true ∧
      (s.dev.rffe 0).host = some (4, 4, 15, 31, 0) :=
  ⟨⟨onBus 3 { RffeSt.init with queue := [aWrite, aWrite] }, by decide +kernel⟩,
    ⟨onBus 0 { RffeSt.init with run := some aWrite }, by decide +kernel⟩,
    ⟨onBus 0 { RffeSt.init with host := some (3, 1, 15, 31, 0) }, by decide +kernel⟩,
    onBus 0 { RffeSt.init with host := some (4, 4, 15, 31, 0), hostRun := true }, by decide +kernel⟩

theorem witness_MonitorConverts :
    (∃ s : State, s.dev.reachable = true ∧ s.dev.resets.contains pMon = false ∧ s.dev.flag pMon R.MON_CTL_PAIR = false ∧
      s.dev.monOn 1 = true ∧ s.dev.monCompat 1 = false ∧ (s.dev.monSt 1).conv = none ∧ s.dev.flag pMon R.MON_CTL_PIN_EN = true ∧
      s.dev.flag pMon R.MON_CTL_PIN_EDGE = false ∧ s.dev.fld pMon R.MON_CTL_PIN_CONV = 1 ∧ s.dev.fld pMon (R.MON_CMP_ACT 0) = 0 ∧
      s.dev.fld pMon (R.MON_CMP_ACT 3) = 1 ∧ s.dev.flag pMon R.PG_CTL_EN = true ∧ s.dev.fld pMon R.MON_CTL_REF = 1) ∧
    ∃ (s : State) (cv : MonConv), s.dev.reachable = true ∧ (s.dev.monSt 1).conv = some cv ∧ cv.src = 0 ∧ cv.input = 15 ∧
      s.dev.mon.waitOn.contains 1 = false ∧ s.dev.flag pMon (R.MON_STAT_PEND.bit 1) = false ∧ s.dev.flag pMon R.PG_CTL_EN = true ∧
      s.dev.fld pMon R.MON_CTL_REF ≠ 1 :=
  ⟨⟨running [(pMon, R.PG_CTL_EN, 1), (pMon, R.MON_CTL_EN_A.bit 1, 1), (pMon, R.MON_CTL_PIN_EN, 1), (pMon, R.MON_CTL_PIN_CONV, 1),
      (pMon, R.MON_CMP_ACT 3, 1), (pMon, R.MON_CTL_REF, 1)], by decide +kernel⟩,
    edited [(pMon, R.PG_CTL_EN, 1), (pMon, R.MON_CTL_REF, 0)] fun d => d.setMon 1 { MonSt.init with conv := some ⟨0, 2, 15, 0, 0⟩ },
    ⟨0, 2, 15, 0, 0⟩, by decide +kernel⟩

theorem witness_BiasOutputs :
    ∃ s : State, s.dev.reachable = true ∧ s.dev.resets.contains (pBias 0) = false ∧ s.dev.biasHeld 15 = false ∧
      (8 : BitVec 4).toNat.testBit (s.dev.fld (pBias 15) R.BIAS_CTL_GROUP) = true ∧
      (s.dev.fld (pBias 0) R.BIAS_LDPIN_MASK).testBit (s.dev.fld (pBias 15) R.BIAS_CTL_GROUP) = true ∧
      (s.dev.biasOut 15).line = some (0, 65535, 0, 100) ∧ s.dev.flag (pBias 0) R.BIAS_STAT_DEGLITCH = true ∧
      s.dev.flag (pBias 0) R.BIAS_STAT_RANGE_CHG = true ∧ s.dev.fld (pBias 0) R.BIAS_CTL_RANGE = 1 ∧
      s.dev.fld (pBias 15) R.BIAS_CTL_RANGE = 2 :=
  ⟨edited [(pBias 15, R.BIAS_CTL_GROUP, 3), (pBias 0, R.BIAS_LDPIN_MASK, 8), (pBias 0, R.BIAS_STAT_DEGLITCH, 1),
      (pBias 0, R.BIAS_STAT_RANGE_CHG, 1), (pBias 0, R.BIAS_CTL_RANGE, 1), (pBias 15, R.BIAS_CTL_RANGE, 2)] fun d =>
      d.setBias 15 { BiasSt.init with line := some (0, 65535, 0, 100) }, by decide +kernel⟩

theorem witness_ThermalReadings :
    (∃ s : State, s.dev.reachable = true ∧ (s.dev.sensor 0).lastRaw ≠ 0xC900 ∧ signed 16 0xC900 ≤ 150 * 256 ∧
      -55 * 256 ≤ signed 16 0xC900) ∧
    (∃ s : State, s.dev.reachable = true ∧ s.dev.flag pTherm R.THERM_DIE_BROKEN = false ∧ (s.dev.sensor 0).held = false) ∧
    ∃ s : State, s.dev.reachable = true ∧ s.dev.resets.contains pTherm = false ∧ (s.dev.sensor 8).held = true ∧ (s.dev.sensor 8).cause = 0 ∧
      (s.dev.sensor 8).seen = true ∧ s.dev.flag pTherm (R.THERM_EXT_CFG_EN 7) = true ∧ (s.dev.sensor 1).held = false :=
  ⟨⟨running [], by decide +kernel⟩, ⟨running [], by decide +kernel⟩,
    edited [(pTherm, R.THERM_EXT_CFG_EN 7, 1)] fun d => d.setSensor 8 { SensorSt.init with held := true, seen := true }, by decide +kernel⟩

/-- What a frame of a type carries: its destination, the segments it holds, the stream of the first and its payload. -/
def aFrameParts (typ occ stampCh dst : Nat) (body : List Nat) : FrameParts := ⟨typ, occ, 0, stampCh, 0, dst, body, 0, 0⟩

/-- A frame as it comes from device 7 in period 0. -/
def aFrame (pos : Nat) (p : FrameParts) : List Byte := (makeFrame 7 0 pos 0 p).map (BitVec.ofNat 8)

theorem aFrame_nums (pos : Nat) (p : FrameParts) (h1 : p.typ < 256) (h2 : pos < 256) (h3 : p.stampCh < 256) (h4 : p.stampJ < 256)
    (h5 : ∀ b ∈ p.body, b < 256) :
    frameNums (aFrame pos p) = makeFrame 7 0 pos 0 p ∧ frameOk (makeFrame 7 0 pos 0 p) = true := by
  have hp := padTo_lt 3136 p.body h5
  have hpl := padTo_length 3136 p.body
  have hr : ∀ n, ∀ b ∈ List.replicate n 0, b < 256 := fun n b h => by rw [List.eq_of_mem_replicate h]; decide
  have hz : ∀ b ∈ [p.typ, 0], b < 256 := by simp [h1]
  have hq : ∀ b ∈ [pos, 0], b < 256 := by simp [h2]
  have hs : ∀ b ∈ [p.stampCh, p.stampJ, 0, 0, 0, 0, 0], b < 256 := by simp [h3, h4]
  have hall : ∀ g : List Nat, g = [p.typ, 0] ++ le 2 7 ++ le 2 0 ++ [pos, 0] ++ le 4 0 ++ le 8 p.occ ++ le 5 p.stamp ++
      [p.stampCh, p.stampJ, 0, 0, 0, 0, 0] ++ le 2 p.dst ++ List.replicate 30 0 ++ padTo 3136 p.body ++ le 8 p.poison ++
      le 2 p.origin ++ List.replicate 18 0 → g.length = 3228 ∧ ∀ b ∈ g, b < 256 := by
    rintro g rfl
    constructor
    · simp only [List.length_append, le_length, hpl, List.length_replicate, List.length_cons, List.length_nil]
    · intro b hb
      simp only [List.mem_append] at hb
      rcases hb with ((((((((((((h | h) | h) | h) | h) | h) | h) | h) | h) | h) | h) | h) | h) | h
      all_goals first
        | exact hz b h
        | exact hq b h
        | exact hs b h
        | exact hp b h
        | exact le_lt _ _ b h
        | exact hr _ b h
  unfold aFrame makeFrame
  obtain ⟨hl, hb⟩ := hall _ rfl
  refine ⟨nums_bytes ?_, sealed_ok _ hl hb⟩
  intro b h
  rcases List.mem_append.mp h with h | h
  · exact hb b h
  · exact le_lt _ _ b h

/-- What is read of a frame, read of its bytes as they were put. -/
theorem aFrame_reads (pos : Nat) (p : FrameParts) (h1 : p.typ < 256) (h2 : pos < 256) (h3 : p.stampCh < 256) (h4 : p.stampJ < 256)
    (h5 : ∀ b ∈ p.body, b < 256) (Q : List Nat → Prop) (hQ : Q (makeFrame 7 0 pos 0 p)) :
    frameOk (frameNums (aFrame pos p)) = true ∧ Q (frameNums (aFrame pos p)) := by
  rw [(aFrame_nums pos p h1 h2 h3 h4 h5).1]
  exact ⟨(aFrame_nums pos p h1 h2 h3 h4 h5).2, hQ⟩

theorem witness_ControlFramesArrive :
    (∃ frame : List Byte, frameOk (frameNums frame) = true ∧ frameType (frameNums frame) = 3 ∧ framePos (frameNums frame) = 0 ∧
      framePoison (frameNums frame) = 0 ∧ (payload (frameNums frame)).getD 0 0 % 2 = 1) ∧
    (∃ frame : List Byte, frameOk (frameNums frame) = true ∧ frameType (frameNums frame) = 0 ∧
      typeAllowed 0 (framePos (frameNums frame)) = true ∧ typeAllowed 3 (framePos (frameNums frame)) = false) ∧
    (∃ s : State, s.dev.reachable = true ∧ s.dev.portOn 0 = true ∧ s.dev.linkState 0 = 2 ∧ s.dev.isMaster = false ∧
      s.dev.linkUp 2 = true) ∧ frameOk (frameNums []) = false :=
  ⟨⟨aFrame 0 (aFrameParts 3 0 0 0 [1]), aFrame_reads 0 _ (by decide) (by decide) (by decide) (by decide) (by decide)
      (fun f => frameType f = 3 ∧ framePos f = 0 ∧ framePoison f = 0 ∧ (payload f).getD 0 0 % 2 = 1) (by decide +kernel)⟩,
    ⟨aFrame 63 (aFrameParts 0 0 0 0 []), aFrame_reads 63 _ (by decide) (by decide) (by decide) (by decide) (by decide)
      (fun f => frameType f = 0 ∧ typeAllowed 0 (framePos f) = true ∧ typeAllowed 3 (framePos f) = false) (by decide +kernel)⟩,
    ⟨running [(pHaul 0, R.HAUL_CTL_EN, 1), (pDev, R.DEV_CLK_STAT_HAUL_LOCK, 1), (pHaul 0, R.HAUL_LINK_STATE, 2),
      (pHaul 2, R.HAUL_LINK_STATE, 3)], by decide +kernel⟩, by decide +kernel⟩

theorem witness_DataFramesArrive :
    (∃ (s : State) (frame : List Byte), s.dev.reachable = true ∧ s.dev.linkUp 2 = true ∧ s.dev.linkUp 1 = true ∧ s.dev.isMaster = true ∧
      frameOk (frameNums frame) = true ∧ frameType (frameNums frame) = 4 ∧ typeAllowed 4 (framePos (frameNums frame)) = true ∧
      framePoison (frameNums frame) = 0 ∧ bytesNum (frameNums frame) 32 2 = 5 ∧ s.dev.route 5 = some 1 ∧ s.dev.inRange 1 5 = true) ∧
    (∃ (s : State) (frame : List Byte), s.dev.reachable = true ∧ s.dev.linkUp 2 = true ∧ s.dev.isMaster = true ∧
      frameOk (frameNums frame) = true ∧ frameType (frameNums frame) = 4 ∧ typeAllowed 4 (framePos (frameNums frame)) = true ∧
      framePoison (frameNums frame) = 0 ∧ bytesNum (frameNums frame) 32 2 = 0 ∧ s.dev.route 0 = some 3) ∧
    (∃ (s : State) (frame : List Byte), s.dev.reachable = true ∧ s.dev.linkUp 2 = true ∧ s.dev.isMaster = true ∧
      frameOk (frameNums frame) = true ∧ frameType (frameNums frame) = 4 ∧ typeAllowed 4 (framePos (frameNums frame)) = true ∧
      framePoison (frameNums frame) = 0 ∧ bytesNum (frameNums frame) 32 2 = 5 ∧ s.dev.route 5 = none ∧ s.dev.inRange 1 5 = false ∧
      s.dev.inRange 2 5 = false) ∧
    ∃ (s : State) (frame : List Byte), s.dev.reachable = true ∧ s.dev.linkUp 0 = true ∧ s.dev.fld (pHaul 0) R.HAUL_CTL_FMT = 0 ∧
      s.dev.takes 0 5 = true ∧ s.dev.haulAbsent 0 5 = false ∧
      (slotsAt 0 1 (s.dev.port 0).rxSlots)[0]? = some (some 21) ∧ ((s.dev.port 0).grid.find? fun e => e.1 == 21) = none ∧
      frameOk (frameNums frame) = true ∧ frameType (frameNums frame) = 1 ∧ framePos (frameNums frame) = 1 ∧
      typeAllowed 1 1 = true ∧ framePoison (frameNums frame) = 0 ∧ bytesNum (frameNums frame) 12 8 = 2 ^ 0 ∧
      bytesNum (frameNums frame) 25 1 = 21 / 4 ∧ bytesNum (frameNums frame) 26 1 % 4 = 21 % 4 :=
  ⟨⟨running [(pHaul 2, R.HAUL_LINK_STATE, 3), (pHaul 1, R.HAUL_LINK_STATE, 4), (pHaul 0, R.HAUL_CASC_STAT_MASTER, 1),
        (pHaul 1, R.HAUL_RANGE_FIRST, 5), (pHaul 1, R.HAUL_RANGE_LAST, 5)], aFrame 48 (aFrameParts 4 0 0 5 []),
      by decide +kernel, by decide +kernel, by decide +kernel, by decide +kernel, by
      obtain ⟨h, h1, h2, h3, h4⟩ := aFrame_reads 48 (aFrameParts 4 0 0 5 []) (by decide) (by decide) (by decide) (by decide) (by decide)
        (fun f => frameType f = 4 ∧ typeAllowed 4 (framePos f) = true ∧ framePoison f = 0 ∧ bytesNum f 32 2 = 5) (by decide +kernel)
      exact ⟨h, h1, h2, h3, h4, by decide +kernel, by decide +kernel⟩⟩,
    ⟨running [(pHaul 2, R.HAUL_LINK_STATE, 3), (pHaul 0, R.HAUL_CASC_STAT_MASTER, 1)], aFrame 48 (aFrameParts 4 0 0 0 []),
      by decide +kernel, by decide +kernel, by decide +kernel, by
      obtain ⟨h, h1, h2, h3, h4⟩ := aFrame_reads 48 (aFrameParts 4 0 0 0 []) (by decide) (by decide) (by decide) (by decide) (by decide)
        (fun f => frameType f = 4 ∧ typeAllowed 4 (framePos f) = true ∧ framePoison f = 0 ∧ bytesNum f 32 2 = 0) (by decide +kernel)
      exact ⟨h, h1, h2, h3, h4, by decide +kernel⟩⟩,
    ⟨running [(pHaul 2, R.HAUL_LINK_STATE, 3), (pHaul 0, R.HAUL_CASC_STAT_MASTER, 1)], aFrame 48 (aFrameParts 4 0 0 5 []),
      by decide +kernel, by decide +kernel, by decide +kernel, by
      obtain ⟨h, h1, h2, h3, h4⟩ := aFrame_reads 48 (aFrameParts 4 0 0 5 []) (by decide) (by decide) (by decide) (by decide) (by decide)
        (fun f => frameType f = 4 ∧ typeAllowed 4 (framePos f) = true ∧ framePoison f = 0 ∧ bytesNum f 32 2 = 5) (by decide +kernel)
      exact ⟨h, h1, h2, h3, h4, by decide +kernel, by decide +kernel, by decide +kernel⟩⟩,
    edited [(pHaul 0, R.HAUL_LINK_STATE, 3), (pHaul 0, R.HAUL_CTL_FMT, 0), (pCh 5, R.PG_CTL_EN, 1), (pCh 5, R.CH_DEF_SRC_HAUL, 1)] fun d =>
        d.setPort 0 { HaulSt.init with rxSlots := [some 21], rxSched := some ⟨0, 1, [d.chDesc 5]⟩ },
    aFrame 1 { aFrameParts 1 1 5 0 [] with stampJ := 1 },
    by decide +kernel, by decide +kernel, by decide +kernel, by decide +kernel, by decide +kernel, by decide +kernel, by decide +kernel, by
      obtain ⟨h, h1, h2, h3, h4, h5, h6⟩ := aFrame_reads 1 { aFrameParts 1 1 5 0 [] with stampJ := 1 } (by decide) (by decide) (by decide)
        (by decide) (by decide)
        (fun f => frameType f = 1 ∧ framePos f = 1 ∧ framePoison f = 0 ∧ bytesNum f 12 8 = 2 ^ 0 ∧ bytesNum f 25 1 = 21 / 4 ∧
          bytesNum f 26 1 % 4 = 21 % 4) (by decide +kernel)
      exact ⟨h, h1, h2, by decide, h3, h4, h5, h6⟩⟩

theorem witness_LinksAndPlayout :
    (∃ s : State, s.dev.reachable = true ∧ s.dev.portOn 0 = true ∧ s.dev.linkState 0 = 0 ∧ s.dev.portOn 1 = false ∧
      s.dev.linkState 2 = 1) ∧
    (∃ s : State, s.dev.reachable = true ∧ s.dev.portOn 2 = true ∧ s.dev.linkState 2 = 4 ∧ 8 ≤ (s.dev.port 2).missing ∧
      s.dev.linkUp 2 = true ∧ (s.dev.port 2).txNew = some ⟨9, 2, []⟩) ∧
    (∃ s : State, s.dev.reachable = true ∧ (s.dev.port 0).txNew = none ∧ (s.dev.port 0).rxNew = none ∧ (s.dev.port 0).duePlay = none) ∧
    (∃ s : State, s.dev.reachable = true ∧ (s.dev.port 0).duePlay = some (21, 4) ∧ s.dev.haulAbsent 0 (21 / 4) = true) ∧
    ∃ s : State, s.dev.reachable = true ∧ (s.dev.port 0).duePlay = some (21, 4) ∧ s.dev.haulAbsent 0 (21 / 4) = false ∧
      s.dev.takes 0 (21 / 4) = true ∧ (s.dev.port 0).play = [] :=
  ⟨⟨running [(pHaul 0, R.HAUL_CTL_EN, 1), (pDev, R.DEV_CLK_STAT_HAUL_LOCK, 1), (pHaul 2, R.HAUL_LINK_STATE, 1),
      (pHaul 1, R.HAUL_CTL_EN, 0)], by decide +kernel⟩,
    ⟨edited [(pHaul 2, R.HAUL_CTL_EN, 1), (pDev, R.DEV_CLK_STAT_HAUL_LOCK, 1), (pHaul 2, R.HAUL_LINK_STATE, 4)] fun d =>
      d.setPort 2 { HaulSt.init with missing := 8, txNew := some ⟨9, 2, []⟩ }, by decide +kernel⟩,
    ⟨running [], by decide +kernel⟩, ⟨edited [] fun d => d.setPort 0 { HaulSt.init with next := [(21, 4), (22, 5)] }, by decide +kernel⟩,
    edited [(pHaul 0, R.HAUL_LINK_STATE, 3), (pCh 5, R.PG_CTL_EN, 1), (pCh 5, R.CH_DEF_SRC_HAUL, 1)] fun d =>
      d.setPort 0 { HaulSt.init with next := [(21, 4), (22, 5)], rxSched := some ⟨0, 1, [d.chDesc 5]⟩ }, by decide +kernel⟩

theorem witness_PositionsSend :
    (∃ s : State, s.dev.reachable = true ∧ s.dev.portOn 1 = true ∧ 1 ≤ s.dev.linkState 1 ∧ (s.dev.port 1).pos = 0 ∧
      s.dev.injArmed (pHaul 1) 0 = false ∧ s.dev.flag pObs R.OBS_STAT_FROZEN = false) ∧
    (∃ (s : State) (f : MgmtFrame), s.dev.reachable = true ∧ s.dev.portOn 1 = true ∧ 1 ≤ s.dev.linkState 1 ∧ (s.dev.port 1).pos = 48 ∧
      s.dev.linkUp 1 = true ∧ (s.dev.port 1).out = [f] ∧ s.dev.credit 1 = 49) ∧
    ∃ s : State, s.dev.reachable = true ∧ s.dev.portOn 1 = true ∧ 1 ≤ s.dev.linkState 1 ∧ (s.dev.port 1).pos = 16 ∧
      s.dev.linkUp 1 = true ∧ s.dev.credit 1 = 48 :=
  ⟨⟨running [(pHaul 1, R.HAUL_CTL_EN, 1), (pDev, R.DEV_CLK_STAT_HAUL_LOCK, 1), (pHaul 1, R.HAUL_LINK_STATE, 1)], by decide +kernel⟩,
    ⟨edited [(pHaul 1, R.HAUL_CTL_EN, 1), (pDev, R.DEV_CLK_STAT_HAUL_LOCK, 1), (pHaul 1, R.HAUL_LINK_STATE, 3)] fun d =>
      d.setPort 1 { HaulSt.init with pos := 48, out := [⟨5, 0, 3, [1], false, 0⟩], sentUnits := 1999 }, ⟨5, 0, 3, [1], false, 0⟩,
      by decide +kernel⟩,
    edited [(pHaul 1, R.HAUL_CTL_EN, 1), (pDev, R.DEV_CLK_STAT_HAUL_LOCK, 1), (pHaul 1, R.HAUL_LINK_STATE, 3)] fun d =>
      d.setPort 1 { HaulSt.init with pos := 16, sentUnits := 2000 }, by decide +kernel⟩

theorem witness_EnumerationAndSync :
    (∃ s : State, s.dev.reachable = true ∧ s.dev.resets.contains (pHaul 0) = false ∧ s.dev.isMaster = true ∧
      s.dev.casc.enumBusy = false ∧ s.dev.linkUp 1 = true ∧ s.dev.casc.sync = none ∧
      (frameTicks : Int) ≤ (((s.dev.fld (pHaul 0) R.HAUL_SYNC_LO_FRAME_LO + s.dev.fld (pHaul 0) R.HAUL_SYNC_HI_FRAME_HI * 512) * frameTicks +
        s.dev.fld (pHaul 0) R.HAUL_SYNC_LO_TICK : Nat) - s.dev.now : Int) % (1024 * frameTicks : Nat)) ∧
    (∃ s : State, s.dev.reachable = true ∧ s.dev.resets.contains (pHaul 0) = false ∧ s.dev.isMaster = true ∧
      s.dev.casc.enumBusy = false ∧ s.dev.linkUp 1 = false ∧ s.dev.linkUp 2 = false) ∧
    (∃ s : State, s.dev.reachable = true ∧ s.dev.resets.contains (pHaul 0) = false ∧ s.dev.isMaster = false ∧
      s.dev.casc.enumBusy = true ∧ s.dev.casc.enumPort = 0) ∧
    (∃ s : State, s.dev.reachable = true ∧ s.dev.casc.sync = some (5, 0x8000) ∧
      wrap16 ((5 : Int) - s.dev.now) (1024 * frameTicks) < 0) ∧
    ∃ s : State, s.dev.reachable = true ∧ s.dev.casc.sync = some (5, 0x8000) ∧
      0 ≤ wrap16 ((5 : Int) - s.dev.now) (1024 * frameTicks) ∧ (s.dev.convSt 15).runs = true ∧ (s.dev.convSt 15).ref = false :=
  ⟨⟨running [(pHaul 0, R.HAUL_CASC_STAT_MASTER, 1), (pHaul 1, R.HAUL_LINK_STATE, 3), (pHaul 0, R.HAUL_SYNC_LO_FRAME_LO, 1)],
      by decide +kernel⟩,
    ⟨running [(pHaul 0, R.HAUL_CASC_STAT_MASTER, 1)], by decide +kernel⟩,
    ⟨edited [] fun d => { d with casc := { CascSt.init with enumBusy := true } }, by decide +kernel⟩,
    ⟨edited [] fun d => { d with casc := { CascSt.init with sync := some (5, 0x8000) }, frame := { FrameSt.init with tick := 6 } },
      by decide +kernel⟩,
    edited [] fun d => { d.setConv 15 { ConvSt.init with powered := true } with
      casc := { CascSt.init with sync := some (5, 0x8000) }, frame := { FrameSt.init with tick := 5 } }, by decide +kernel⟩

theorem witness_FramesReadBack :
    ∃ p : FrameParts, p.typ < 256 ∧ p.occ < 2 ^ 64 ∧ p.stamp < 2 ^ 40 ∧ p.stampCh < 256 ∧ p.stampJ < 256 ∧ p.dst < 2 ^ 16 ∧
      p.poison < 2 ^ 64 ∧ p.origin < 2 ^ 16 ∧ ∀ b ∈ p.body, b < 256 :=
  ⟨⟨255, 2 ^ 64 - 1, 2 ^ 40 - 1, 255, 255, 0xFFFF, [255, 0, 255], 2 ^ 64 - 1, 0xFFFF⟩, by decide⟩

theorem witness_SlotsByWeight :
    ∃ (ls : List SlotLine) (n : Nat), n = (ls.map (·.weight)).sum ∧ 0 < n ∧ (ls.map (·.key)).Nodup ∧ (∀ l ∈ ls, l.c = 0) ∧
      ls.length = 3 :=
  ⟨[⟨some 0, 3, 0⟩, ⟨some 4, 1, 0⟩, ⟨none, 2, 0⟩], 6, by decide⟩

/-- Three lines of weights 3, 1 and 2 share six slots so (R291, worked by hand from the rule). -/
theorem test_slot_run : slotRun 6 6 [⟨some 0, 3, 0⟩, ⟨some 4, 1, 0⟩, ⟨none, 2, 0⟩] =
    [some 0, none, some 0, some 4, none, some 0] := by decide

theorem witness_RecordsExecute :
    (∃ s : State, s.dev.reachable = true ∧ (s.host.qm.uploads.any fun u => u.q == 7) = false ∧ accessBad 0x3F8000 4 = false ∧
      0x3F8000 % 8 = 0 ∧ accessBad 0x002000 4 = true ∧ s.fenceFree 7 0 = true) ∧
    (∃ p : PageDef, pageDefAt 0x3F8004 = some p ∧ offOf p 0x3F8004 ≠ 0xC) ∧
    (∃ s : State, s.dev.reachable = true ∧ (s.host.qm.uploads.any fun u => u.q == 7) = false ∧ s.fenceFree 7 0 = false) ∧
    descOk 9 = false :=
  ⟨⟨running [], by decide +kernel⟩, ⟨pageDefs[22], by decide +kernel⟩,
    ⟨(running []).setQm { QmgrSt.init with exec := [⟨7, 8⟩, ⟨7, 5⟩] }, by decide +kernel⟩, by decide⟩

theorem witness_UploadsGoOut :
    (∃ s : State, s.dev.reachable = true ∧ (s.host.qm.uploads.any fun u => u.q == 0) = false ∧ s.host.qm.uploads = [] ∧
      (0x25F000 : BitVec 26).toNat = pEng 95 ∧ (∀ e, e < 96 → (0x260000 : BitVec 26).toNat ≠ pEng e)) ∧
    ∃ (s : State) (x : Upload), s.dev.reachable = true ∧ s.host.qm.uploads = [x] ∧ x.bytes = some [1, 2, 3] :=
  ⟨⟨running [], by decide +kernel⟩,
    (running []).setQm { QmgrSt.init with uploads := [⟨0, 5, 14, 4096, 4096, some [1, 2, 3]⟩] }, ⟨0, 5, 14, 4096, 4096, some [1, 2, 3]⟩,
    by decide +kernel⟩

/-- A master with a running queue manager: channel 0 serves it, device pages 0 and 1 are translated, and the context of queue 0 names a ring
of 16 entries at 0x1000 with one record waiting. -/
def served : State :=
  { running [(pHaul 0, R.HAUL_CASC_STAT_MASTER, 1), (pQmgr, R.QMGR_CTL_EN, 1), (pQmgr, R.QMGR_CTX_LIMIT_DEVICES, 1), (pDma 0, R.PG_CTL_EN, 1),
      (pDma 0, R.DMA_CTL_CLIENT, 4), (pXlat, R.XLAT_CTL_EN, 1)] with
    host := { HostSide.init with
      mem := [(0, 0x24), (1, 0x10), (8, 1)], xlat := { XlatSt.init with cache := [⟨0, 2, 0, true, true, false⟩] },
      qm := { QmgrSt.init with ready := [0] } } }

theorem witness_MasterServesQueues :
    (∃ (s : State) (k : QCtx), s.dev.reachable = true ∧ s.dev.qmRuns = true ∧ 0 < 16 * s.dev.fld pQmgr R.QMGR_CTX_LIMIT_DEVICES ∧
      s.dev.qmFree = some 0 ∧ (s.readCtx 0 0).2 = some k ∧ k.ok = true ∧ k.waiting ≠ 0 ∧
      16 * s.dev.fld pQmgr R.QMGR_CTX_LIMIT_DEVICES ≤ (0xFFFFF : BitVec 20).toNat) ∧
    (∃ (s p t f : State) (k : QCtx) (w : Nat), s.dev.reachable = true ∧ s.dev.qmRuns = true ∧ s.turnOrder = [0] ∧ s.pickIndex 0 = some 0 ∧
      s.canServe 0 0 = true ∧ s.dev.qmFree = some 0 ∧ p = s.setQm { s.host.qm with ptr := 1 } ∧ t = (p.readCtx 0 0).1 ∧
      (p.readCtx 0 0).2 = some k ∧ k.ok = true ∧ k.waiting = 1 ∧ f = (t.xread 0 0 (k.entry k.head) 16).1 ∧
      (t.xread 0 0 (k.entry k.head) 16).2 = some w ∧
      (f.xwrite 0 0 2 (f.dev.ctxAt 0 + 16) (le 4 (k.wrap (k.head + 1)))).2 = none ∧
      (f.xwrite 0 0 2 (f.dev.ctxAt 0 + 16) (le 4 (k.wrap (k.head + 1)))).1.dev.route 0 = some 3) ∧
    (∃ s : State, s.dev.reachable = true ∧ s.dev.qmRuns = true ∧ s.turnOrder = [0] ∧ s.pickIndex 0 = some 0 ∧ s.canServe 0 0 = false) ∧
    (∃ s : State, s.dev.reachable = true ∧ s.dev.qmRuns = true ∧ mat none s.host.qm.seqLast 8 = some 5 ∧
      serialNewer (OutRec.of 8 0x500000081).seq 5 = false) ∧
    (∃ s : State, s.dev.reachable = true ∧ s.dev.qmRuns = true ∧ mat none s.host.qm.seqLast 8 = none ∧
      (OutRec.of 8 0x500070081).waits = true ∧ (OutRec.of 8 0x500070081).kind ≠ 0x87 ∧
      (s.host.qm.outst.any fun o => o.awaits 0 8 (OutRec.of 8 0x500070081).tag) = true ∧
      (s.host.qm.outst.any fun o => o.awaits 0 8 6) = false ∧ s.dev.qmFree = none) ∧
    (∃ s : State, s.dev.reachable = true ∧ s.dev.qmRuns = false ∧ s.host.qm.outst = []) :=
  ⟨⟨served, ⟨4, true, 0x1000, 1, 0⟩, by decide +kernel⟩,
    ⟨served, _, _, _, ⟨4, true, 0x1000, 1, 0⟩, 0, by decide +kernel, by decide +kernel, by decide +kernel, by decide +kernel,
      by decide +kernel, by decide +kernel, rfl, rfl, by decide +kernel, by decide +kernel, by decide +kernel, rfl, by decide +kernel,
      by decide +kernel, by decide +kernel⟩,
    ⟨served.onDev fun d => d.setDmaState 0 3, by decide +kernel⟩,
    ⟨served.setQm { QmgrSt.init with seqLast := [(8, some 5)] }, by decide +kernel⟩,
    ⟨(served.onDev fun d => d.setDmaState 0 3).setQm { QmgrSt.init with outst := [⟨0, 0, 7, false⟩] }, by decide +kernel⟩,
    running [], by decide +kernel⟩

theorem witness_TranslationUnit :
    (∃ s : State, s.dev.reachable = true ∧ s.dev.flag pXlat R.XLAT_CTL_EN = false ∧ s.dev.resets.contains pXlat = false ∧
      s.dev.flag pXlat R.XLAT_STAT_INV_BUSY = false) ∧
    (∃ (s : State) (e : XlatEnt), s.dev.reachable = true ∧ s.dev.flag pXlat R.XLAT_CTL_EN = true ∧ s.dev.pins.pcieUp = true ∧
      0x1FFF < 2 ^ (21 + s.dev.fld pXlat R.XLAT_L1_CFG_LOG2) ∧
      (s.host.xlat.cache.find? fun e => Nat.ble e.vpage (0x1FFF / 4096) && Nat.blt (0x1FFF / 4096) (e.vpage + e.span)) = some e) ∧
    (∃ s : State, s.dev.reachable = true ∧ s.dev.flag pXlat R.XLAT_CTL_EN = true ∧ s.dev.pins.pcieUp = false) ∧
    (∃ s : State, s.dev.reachable = true ∧ s.dev.resets.contains pXlat = false ∧ s.dev.flag pXlat R.XLAT_STAT_INV_BUSY = true ∧
      2 ^ (21 + s.dev.fld pXlat R.XLAT_L1_CFG_LOG2) ≤ 2 ^ 63) :=
  ⟨⟨running [], by decide +kernel⟩, ⟨served, ⟨0, 2, 0, true, true, false⟩, by decide +kernel⟩,
    ⟨edited [(pXlat, R.XLAT_CTL_EN, 1)] fun d => { d with pins := { d.pins with pcieUp := false } }, by decide +kernel⟩,
    running [(pXlat, R.XLAT_STAT_INV_BUSY, 1)], by decide +kernel⟩

/-- Channel 15 with a transfer of eight bytes from its feed to bench 11. -/
def feeding (st : Nat) : List (Nat × Fld × Nat) :=
  [(pDma 15, R.PG_CTL_EN, 1), (pDma 15, R.DMA_CTL_CLIENT, 0), (pDma 15, R.DMA_SRC_HI_SRC, 0x80000003), (pDma 15, R.DMA_DST_HI_DST, 0x80000002),
    (pDma 15, R.DMA_DST_LO_DST, 11 * 0x200000), (pDma 15, R.DMA_LEN_LEN, 8), (pDma 15, R.DMA_STAT_STATE, st)]

theorem witness_DmaChannels :
    (∃ s : State, s.dev.reachable = true ∧ s.dev.resets.contains (pDma 15) = false ∧ s.dev.dmaState 15 = 0 ∧ s.dev.dmaClient 15 = 0 ∧
      s.dev.dmaOn 15 = true ∧ s.dev.transferOk 15 = true ∧ s.dev.transferOk 0 = false ∧ s.grant = none ∧ (s.dmaSt 15).feed.length < 256) ∧
    (∃ s : State, s.dev.reachable = true ∧ s.dev.resets.contains (pDma 15) = false ∧ s.dev.dmaState 15 = 3 ∧ s.dev.dmaClient 15 = 0 ∧
      256 ≤ (s.dmaSt 15).feed.length) ∧
    (∃ s : State, s.dev.reachable = true ∧ s.grant = some 15 ∧ s.dev.dmaClient 15 = 0 ∧ (s.dmaSt 15).chain = false ∧
      dmaRegion (s.dev.dmaSrc 15) = .feed ∧ dmaRegion (s.dev.dmaDst 15) = .bench 11 0 ∧ s.dev.beatBytes 15 = 8 ∧
      s.dev.fld (pDma 15) R.DMA_LEN_LEN ≤ s.dev.fld (pDma 15) R.DMA_DONE_BYTES_BYTES + s.dev.beatBytes 15 ∧
      s.dev.flag (pDma 15) R.DMA_FLAGS_CHAIN = false) ∧
    ∃ s : State, s.dev.reachable = true ∧ s.dev.resets.contains (pDma 0) = false ∧ s.grant = some 0 ∧ s.dev.dmaOn 0 = true ∧
      s.dev.dmaClient 0 = 0 ∧ s.dev.dmaState 0 = 1 ∧ (s.dmaSt 0).chain = false ∧
      dmaRegion (s.dev.dmaSrc 0 + s.dev.fld (pDma 0) R.DMA_DONE_BYTES_BYTES) = .host 0 ∧ s.dev.flag pXlat R.XLAT_CTL_EN = false :=
  ⟨⟨running (feeding 0), by decide +kernel⟩,
    ⟨{ running (feeding 3) with host := { HostSide.init with dma := [(15, { DmaSt.init with feed := List.replicate 256 0 })] } },
      by decide +kernel⟩,
    ⟨{ running (feeding 1) with host := { HostSide.init with dma := [(15, { DmaSt.init with feed := [1, 2] })] } }, by decide +kernel⟩,
    running [(pDma 0, R.PG_CTL_EN, 1), (pDma 0, R.DMA_STAT_STATE, 1)], by decide +kernel⟩

theorem witness_EventSourcesOfPages :
    (∃ p : PageDef, pageDefAt 0x25F000 = some p ∧ offOf p 0x25F000 = 0 ∧ p.blk = .eng) ∧
      ∃ p : PageDef, pageDefAt 0x100000 = some p ∧ offOf p 0x100000 = 0 ∧ p.blk ≠ .eng :=
  ⟨⟨pageDefs[3], by decide +kernel⟩, pageDefs[2], by decide +kernel⟩

theorem witness_CheckersRaiseSources :
    ∃ (s : State) (x y : FaultHit), s.dev.reachable = true ∧ sourceAt x.src.toNat (0x1000 * x.page.toNat) = true ∧
      losesNothing x.src.toNat = true ∧ x.inj = false ∧ sourceAt 200 (0x1000 * 0x200) = false ∧ y.inj = true ∧
      sourceAt y.src.toNat (0x1000 * y.page.toNat) = true ∧ losesNothing y.src.toNat = true ∧
      s.dev.fld (0x1000 * y.page.toNat) R.PG_FLT_INJ_MODE ≠ 0 ∧ s.dev.flag (0x1000 * y.page.toNat) R.PG_FLT_INJ_CONT = false :=
  ⟨running [(pHaul 2, R.PG_FLT_INJ_MODE, 1)], ⟨22, 0x207, false⟩, ⟨168, 0x382, true⟩, by decide +kernel⟩

theorem witness_FaultsAreRecorded :
    (∃ (x : FaultSig) (r : FaultRow), faultRow x.src = some r ∧ x.page % 0x1000 = 0) ∧
    ∃ (d : Dev) (xs : List FaultSig), d.flag pFault (R.FAULT_BLK_VALID 15) = true ∧ d.flag pFault (R.FAULT_BLK_VALID 25) = false ∧
      (∀ x ∈ xs, x.src < 256 ∧ x.page < 0x4000000) ∧ ∃ x ∈ xs, x.src / 8 = 25 :=
  ⟨⟨⟨200, pRec, true⟩, (faultRow 200).get (by decide), by decide⟩, devWith [(pFault, R.FAULT_BLK_VALID 15, 1)],
    [⟨200, pRec, false⟩, ⟨203, pRec, true⟩], by decide +kernel⟩

theorem witness_ReactionsStart :
    (∃ (s : State) (r : FaultRow), s.dev.reachable = true ∧ faultRow 1 = some r ∧ s.dev.reacting 0 = false ∧ s.dev.sticky 1 = false ∧
      reactLevel (s.dev.reactSet 1) = 5 ∧ s.dev.pins.refHold = false) ∧
    (∃ s : State, s.dev.reachable = true ∧ s.dev.reacting 0 = false ∧ s.dev.sticky 4 = false ∧ reactLevel (s.dev.reactSet 4) = 2) ∧
    (∃ s : State, s.dev.reachable = true ∧ s.dev.reacting 2 = false ∧ s.dev.sticky 22 = false ∧ reactLevel (s.dev.reactSet 22) = 3) ∧
    (∃ s : State, s.dev.reachable = true ∧ s.dev.reacting 0 = true) ∧
    ∃ s : State, s.dev.reachable = true ∧ s.dev.reacting 0 = false ∧ s.dev.sticky 4 = true :=
  ⟨⟨running [], (faultRow 1).get (by decide), by decide +kernel⟩, ⟨running [], by decide +kernel⟩, ⟨running [], by decide +kernel⟩,
    ⟨edited [] fun d => { d with fault := { FaultSt.init with progress := [⟨0, [], none⟩] } }, by decide +kernel⟩,
    running [(pDev, R.PG_FLT_FLT.bit 4, 1)], by decide +kernel⟩

theorem witness_FaultRegisters :
    (∃ s : State, s.dev.reachable = true ∧ s.dev.resets.contains pIrq = false ∧ s.dev.resets.contains pFault = false ∧
      ∀ x ∈ s.dev.standingFaults, (s.dev.reactSet x.1).testBit 1 = false) ∧
    ∃ s : State, s.dev.reachable = true ∧ s.dev.resets.contains pFault = false ∧
      (∃ x ∈ s.dev.standingFaults, (s.dev.reactSet x.1).testBit 1 = true) ∧ (4, pDev) ∈ s.dev.standingFaults ∧
      ((0x10 : Word).getLsbD (4 % 32)) = true :=
  ⟨⟨running [], by decide +kernel⟩, running [(pDev, R.PG_FLT_FLT.bit 4, 1)], by decide +kernel⟩

/-- A recorder that is enabled and idle, with a tail slot ready. -/
def recorderIdle (st : Nat) : List (Nat × Fld × Nat) :=
  [(pRec, R.PG_CTL_EN, 1), (pRec, R.REC_STAT_STATE, st), (pRec, R.REC_STAT_TAIL_READY, 1), (pDev, R.DEV_PWR_EFF, 1),
    (pPin, R.PIN_STRAP_TEST, 0)]

/-- A snapshot in the shadow. -/
def aSnapshot : Snapshot := ⟨false, 9, 0, 0, 2, 0, .init, [], []⟩

theorem witness_RecorderFlushes :
    (∃ s : State, s.dev.fld pDev R.DEV_PWR_EFF = 0) ∧
    (∃ s : State, s.dev.fld pDev R.DEV_PWR_EFF ≠ 0 ∧ s.dev.pins.porHold = false ∧ s.dev.reachable = true ∧
      s.dev.resets.contains pRec = false ∧ s.dev.flag pPin R.PIN_STRAP_TEST = false ∧ s.dev.flag pRec R.PG_CTL_EN = true ∧
      s.dev.fld pRec R.REC_STAT_STATE = 1 ∧ s.dev.rcd.deferred = none) ∧
    (∃ s : State, s.dev.pins.held = false ∧ s.dev.rcd.erasing = false ∧ s.dev.rcd.adopt = false ∧ s.dev.rcd.stage = 3 ∧
      s.dev.rcd.queued = none ∧ s.dev.flag pRec R.REC_STAT_TAIL_READY = true) ∧
    (∃ s : State, s.dev.pins.held = false ∧ s.dev.rcd.erasing = false ∧ s.dev.rcd.adopt = false ∧ s.dev.rcd.stage = 4 ∧
      s.dev.rcd.shadow = some aSnapshot ∧ s.dev.rcd.queued = none ∧ s.dev.flag pRec R.REC_STAT_TAIL_READY = true) ∧
    ∃ s : State, s.dev.reachable = true ∧ s.dev.rcd.deferred = some 22 ∧ s.dev.rcd.lastFault = some 0 ∧
      0 + 60 * s.dev.fld pRec R.REC_CFG_FAULT_GAP ≤ s.dev.rcd.secs ∧ s.dev.flag pPin R.PIN_STRAP_TEST = false ∧
      s.dev.flag pRec R.PG_CTL_EN = true ∧ s.dev.fld pRec R.REC_STAT_STATE = 1 :=
  ⟨⟨running [(pDev, R.DEV_PWR_EFF, 0)], by decide +kernel⟩, ⟨running (recorderIdle 1), by decide +kernel⟩,
    ⟨edited (recorderIdle 2) fun d => { d with rcd := { RecSt.init with stage := 3 } }, by decide +kernel⟩,
    ⟨edited (recorderIdle 2) fun d => { d with rcd := { RecSt.init with stage := 4, shadow := some aSnapshot } }, by decide +kernel⟩,
    edited (recorderIdle 1) fun d => { d with rcd := { RecSt.init with deferred := some 22, lastFault := some 0, secs := 100000 } },
    by decide +kernel⟩

/-- Word `t` of the token a device expects. -/
def tokenWord (d : Dev) (t : Nat) : Word := BitVec.ofNat 32 (bytesNum d.token (4 * t) 4)

/-- A device to which the host has written the token it expects. -/
def authorised (d : Dev) : Dev :=
  { d with regs := [(0x3E0080, tokenWord d 0), (0x3E0084, tokenWord d 1), (0x3E0088, tokenWord d 2), (0x3E008C, tokenWord d 3),
      (0x3E0090, tokenWord d 4), (0x3E0094, tokenWord d 5), (0x3E0098, tokenWord d 6), (0x3E009C, tokenWord d 7)] ++ d.regs }

theorem authorised_reg (d : Dev) (a : Nat) (h : a < 0x3E0080 ∨ 0x3E009C < a) : (authorised d).reg a = d.reg a := by
  unfold authorised Dev.reg
  simp only [List.cons_append, List.nil_append, mget]
  repeat rw [if_neg (by omega)]

theorem authorised_word (d : Dev) (t : Nat) (h : t < 8) : (authorised d).reg (0x3E0080 + 4 * t) = tokenWord d t := by
  unfold authorised Dev.reg
  simp only [List.cons_append, List.nil_append, mget]
  match t, h with
  | 0, _ => rfl
  | 1, _ => rfl
  | 2, _ => rfl
  | 3, _ => rfl
  | 4, _ => rfl
  | 5, _ => rfl
  | 6, _ => rfl
  | 7, _ => rfl

theorem authorised_token (d : Dev) : (authorised d).tokenWritten = (authorised d).token := by
  have ht : (authorised d).token = d.token := by
    unfold Dev.token Dev.fld
    rw [authorised_reg d (pRec + R.REC_PCC_COUNT.off) (by decide), authorised_reg d (pRec + R.REC_NONCE_LO_NONCE.off) (by decide),
      authorised_reg d (pRec + R.REC_NONCE_HI_NONCE.off) (by decide)]
  have hl : d.token.length = 32 := sha256_length _
  have hb : ∀ b ∈ d.token, b < 256 := sha256_lt _
  have hw : ∀ t, t < 8 → le 4 ((authorised d).fld pRec (R.REC_TOKEN_DIGEST t)) = (d.token.drop (4 * t)).take 4 := by
    intro t h
    have ha : pRec + (R.REC_TOKEN_DIGEST t).off = 0x3E0080 + 4 * t := by
      show 0x3E0000 + (0x80 + t * 4) = _
      omega
    unfold Dev.fld
    rw [ha, authorised_word d t h, ← le_bytesNum hb 4 (4 * t) (by omega)]
    have hn : bytesNum d.token (4 * t) 4 < 2 ^ 32 := bytesNum_lt hb 4 (4 * t)
    show le 4 ((tokenWord d t >>> 0).toNat % 2 ^ 32) = _
    rw [BitVec.ushiftRight_zero]
    unfold tokenWord
    rw [BitVec.toNat_ofNat, Nat.mod_mod, Nat.mod_eq_of_lt hn]
  rw [ht]
  unfold Dev.tokenWritten
  rw [show (List.range 8) = [0, 1, 2, 3, 4, 5, 6, 7] from rfl]
  simp only [List.flatMap_cons, List.flatMap_nil]
  rw [hw 0 (by decide), hw 1 (by decide), hw 2 (by decide), hw 3 (by decide), hw 4 (by decide), hw 5 (by decide), hw 6 (by decide),
    hw 7 (by decide)]
  generalize d.token = l at hl
  match l, hl with
  | [a0, a1, a2, a3, a4, a5, a6, a7, b0, b1, b2, b3, b4, b5, b6, b7, c0, c1, c2, c3, c4, c5, c6, c7, d0, d1, d2, d3, d4, d5, d6, d7], _ => rfl

theorem witness_PowerFailureAndClearing :
    (∃ s : State, s.dev.pins.held = false ∧ s.dev.flag pPin R.PIN_STRAP_TEST = false ∧ s.dev.fld pRec R.REC_STAT_STATE = 2 ∧
      s.dev.flag pRec R.REC_STAT_TAIL_READY = true ∧ s.dev.rcd.stage = 5) ∧
    (∃ s : State, s.dev.pins.held = false ∧ s.dev.flag pPin R.PIN_STRAP_TEST = false ∧ s.dev.flag pRec R.REC_STAT_TAIL_READY = false) ∧
    (∃ s : State, s.dev.reachable = true ∧ s.dev.resets.contains pRec = false ∧ s.dev.flag pRec R.REC_STAT_LOCKED = true) ∧
    (∃ s : State, s.dev.reachable = true ∧ s.dev.resets.contains pRec = false ∧ s.dev.flag pRec R.REC_STAT_LOCKED = false ∧
      s.dev.fld pRec R.REC_STAT_STATE = 2 ∧ s.dev.tokenWritten = s.dev.token ∧ s.dev.rcd.live.log.length < 48) ∧
    (∃ s : State, s.dev.reachable = true ∧ s.dev.resets.contains pRec = false ∧ s.dev.flag pRec R.REC_STAT_LOCKED = false ∧
      s.dev.fld pRec R.REC_STAT_STATE = 5 ∧ s.dev.tokenWritten = s.dev.token) ∧
    ∃ s t : State, s.dev.reachable = true ∧ s.dev.resets.contains pRec = false ∧ s.dev.flag pRec R.REC_STAT_LOCKED = false ∧
      s.dev.fld pRec R.REC_STAT_STATE = 1 ∧ t.dev.reachable = true ∧ t.dev.resets.contains pRec = false ∧
      t.dev.flag pRec R.REC_STAT_LOCKED = false ∧ t.dev.fld pRec R.REC_STAT_STATE = 1 ∧
      (s.dev.tokenWritten ≠ s.dev.token ∨ t.dev.tokenWritten ≠ t.dev.token) :=
  ⟨⟨edited (recorderIdle 2) fun d => { d with rcd := { RecSt.init with stage := 5 } }, by decide +kernel⟩,
    ⟨running [(pRec, R.REC_STAT_TAIL_READY, 0)], by decide +kernel⟩, ⟨running [(pRec, R.REC_STAT_LOCKED, 1)], by decide +kernel⟩,
    ⟨withDev (authorised (devWith (recorderIdle 2))), by decide +kernel, by decide +kernel, by decide +kernel, by decide +kernel,
      authorised_token _, by decide +kernel⟩,
    ⟨withDev (authorised (devWith (recorderIdle 5))), by decide +kernel, by decide +kernel, by decide +kernel, by decide +kernel,
      authorised_token _⟩,
    running (recorderIdle 1), running ((pRec, R.REC_TOKEN_DIGEST 0, 1) :: recorderIdle 1), by decide +kernel, by decide +kernel,
    by decide +kernel, by decide +kernel, by decide +kernel, by decide +kernel, by decide +kernel, by decide +kernel, by
      by_contra h
      rw [not_or, not_not, not_not] at h
      have he : (running (recorderIdle 1)).dev.token = (running ((pRec, R.REC_TOKEN_DIGEST 0, 1) :: recorderIdle 1)).dev.token := by
        unfold Dev.token
        rw [show (running (recorderIdle 1)).dev.fld pRec R.REC_PCC_COUNT =
            (running ((pRec, R.REC_TOKEN_DIGEST 0, 1) :: recorderIdle 1)).dev.fld pRec R.REC_PCC_COUNT by decide +kernel,
          show (running (recorderIdle 1)).dev.fld pRec R.REC_NONCE_LO_NONCE =
            (running ((pRec, R.REC_TOKEN_DIGEST 0, 1) :: recorderIdle 1)).dev.fld pRec R.REC_NONCE_LO_NONCE by decide +kernel,
          show (running (recorderIdle 1)).dev.fld pRec R.REC_NONCE_HI_NONCE =
            (running ((pRec, R.REC_TOKEN_DIGEST 0, 1) :: recorderIdle 1)).dev.fld pRec R.REC_NONCE_HI_NONCE by decide +kernel]
      exact (show (running (recorderIdle 1)).dev.tokenWritten ≠
        (running ((pRec, R.REC_TOKEN_DIGEST 0, 1) :: recorderIdle 1)).dev.tokenWritten by decide +kernel) (h.1.trans (he.trans h.2.symm))⟩

theorem witness_PacketsAndCounters :
    (∃ s : State, s.dev.reachable = true ∧ s.dev.flag pObs R.PG_CTL_EN = false) ∧
    ∃ (s : State) (rec : BitVec 128), s.dev.reachable = true ∧ s.dev.flag pObs R.PG_CTL_EN = true ∧ s.dev.obs.seq = 1 ∧
      s.dev.obs.dropped = 0 ∧ s.dev.obs.timeDue = false ∧ s.dev.obs.fifo = [(95, rec)] ∧ s.dev.resets.contains pObs = false :=
  ⟨⟨running [], by decide +kernel⟩,
    edited [(pObs, R.PG_CTL_EN, 1)] fun d => { d with obs := { ObsSt.init with seq := 1, fifo := [(95, 7)] } }, 7, by decide +kernel⟩

theorem witness_TestAccessPort :
    (∃ s : State, s.dev.flag pPin R.PIN_STRAP_TEST = false) ∧ ∃ s : State, s.dev.flag pPin R.PIN_STRAP_TEST = true :=
  ⟨⟨.reset, by decide +kernel⟩, running [(pPin, R.PIN_STRAP_TEST, 1)], by decide +kernel⟩

/-! ### Values and single steps the spec gives -/

/-- The block after one command. -/
def ran (c : Instr) (s : State) : State :=
  match exec c s with
  | .next t => t
  | _ => s

/-- Table 03-2: the final reduction of 18-bit inputs. -/
theorem test_table_03_2 : [6, 10, 14, 7, -6, -10, 131071, -131071].map (reduceTo 2 16) = [2, 2, 4, 2, -2, -2, 32767, -32767] := by
  decide

/-- Table 03-2: the last two are clamped and counted. -/
theorem test_table_03_2_clamps : [14, -10, 131071, -131071].map (clamped 2 16) = [false, false, true, true] := by decide

/-- The trim example under R211: 63.0 °C between the 50 °C and 75 °C sets. -/
theorem test_trim_example : bracket (63 * 256) = (4, 5, 133) ∧ interpolate 133 412 468 = 441 := by decide

/-- Table 04-5 in 1/32 tick. -/
theorem test_table_04_5 : ([0, 1, 2, 3, 4, 5, 6].map (decDelay 0) = [8195, 4099, 2051, 1027, 515, 259, 131]) ∧
    ([0, 1, 2, 3, 4, 5, 6].map (decDelay 1) = [15363, 7683, 3843, 1923, 963, 483, 243]) ∧
    [0, 1, 2, 3, 4, 5, 6].map (decDelay 2) = [23547, 11771, 5883, 2939, 1467, 731, 363] := by decide

/-- The published check value of CRC-32C. -/
theorem test_crc32c_check : crc32c [49, 50, 51, 52, 53, 54, 55, 56, 57] = 0xE3069283 := by decide +kernel

/-- The published check value of the CRC-16 of R36. -/
theorem test_crc16_check :
    crc16 ([49, 50, 51, 52, 53, 54, 55, 56, 57].flatMap fun b => (List.range 8).map fun i => Nat.testBit b (7 - i)) = 0x29B1 := by
  decide +kernel

/-- The published SHA-256 of "abc". -/
theorem test_sha256_abc : (sha256 [97, 98, 99]).take 8 = [0xBA, 0x78, 0x16, 0xBF, 0x8F, 0x01, 0xCF, 0xEA] := by decide +kernel

/-- The first two rows of Table 16-6: an engine's uncorrectable instruction word beside a corrected read of its local memory. -/
theorem test_table_16_6 :
    let t := ran (.faultRaise [⟨18, 0x202, false⟩, ⟨21, 0x202, false⟩]) (running [])
    t.dev.fld pFault (R.FAULT_BLK_FIRST_SRC 2) = 21 ∧ t.dev.fld pFault (R.FAULT_BLK_FIRST_PAGE 2) = 0x202 ∧
      t.dev.fld pFault (R.FAULT_BLK_FIRST_CLASS 2) = 3 ∧ t.dev.flag pFault (R.FAULT_BLK_VALID 2) = true ∧
      t.dev.flag pIrq R.IRQ_STAT_V0 = true := by decide +kernel

/-- R6: a write to a read-only register is discarded and counted. -/
theorem test_read_only_write_counted :
    let t := ran (.registerWrite .spi 0x000000 4 5) (running [])
    t.dev.fld pDev R.DEV_BAD_ACC_CNT_COUNT = 1 := by decide +kernel

/-- R8: a 2-byte read is invalid on every path. -/
theorem test_short_read_counted :
    (ran (.badAccessRead .pcie 0x000000 2) (running [])).dev.fld pDev R.DEV_BAD_ACC_CNT_COUNT = 1 := by decide +kernel

/-- A device held in reset takes no SPI transaction. -/
theorem test_held_device_ignores : (ran .status State.reset) = State.reset := by decide +kernel

/-- R352: a group's vector is never 0. -/
theorem test_vector_zero_refused :
    let t := ran (.registerWrite .spi 0x3C0084 4 0) (running [])
    t.dev.fld pDev R.DEV_BAD_ACC_CNT_COUNT = 1 := by decide +kernel

end Sys2Proof.Tests
end

section
/-! PROOFS. Routes of management frames (R305): what the books of a haul port leave as they were, where an address is routed, and what a good
MGMT frame does by its route. -/

namespace Sys2Proof.Machine

open Sys2Proof

/-! ### Haul ports -/

/-- A port reads as what was put there. -/
@[simp] theorem Dev.setPort_port (d : Dev) (h : Nat) (p : HaulSt) : (d.setPort h p).port h = p := mget_mset_same _ d.haul h p

/-- Changing a port leaves every other port as it was. -/
theorem Dev.setPort_port_other (d : Dev) {h k : Nat} (p : HaulSt) (hk : k ≠ h) : (d.setPort h p).port k = d.port k :=
  mget_mset_other _ d.haul p hk

/-! ### The books of a port

Receiving a frame keeps books on its port: buffer use, credit and performance counters. None of them bears on where a frame goes. -/

/-- For what forwarding looks at, `d` differs from `o` in the books of port `h` at most: the same signals stand on the wires, the same frames
wait at every port, and no register in effect but the credit register of port `h` reads otherwise. -/
structure Dev.BooksOf (h : Nat) (d o : Dev) : Prop where
  wires : d.wires = o.wires
  out : ∀ k, (d.port k).out = (o.port k).out
  reg : ∀ a, a ≠ pHaul h + R.HAUL_CREDIT_AVAIL.off → d.reg a = o.reg a

theorem Dev.BooksOf.refl (h : Nat) (d : Dev) : d.BooksOf h d := ⟨rfl, fun _ => rfl, fun _ _ => rfl⟩

theorem Dev.BooksOf.trans {h : Nat} {a b c : Dev} (x : a.BooksOf h b) (y : b.BooksOf h c) : a.BooksOf h c :=
  ⟨x.wires.trans y.wires, fun k => (x.out k).trans (y.out k), fun r hr => (x.reg r hr).trans (y.reg r hr)⟩

theorem Dev.setPort_booksOf (d : Dev) (h : Nat) (p : HaulSt) (hp : p.out = (d.port h).out) : (d.setPort h p).BooksOf h d where
  wires := rfl
  out k := by
    by_cases hk : k = h
    · subst hk
      rw [Dev.setPort_port, hp]
    · rw [Dev.setPort_port_other d p hk]
  reg _ _ := rfl

theorem Dev.showCredit_booksOf (d : Dev) (h : Nat) : (d.showCredit h).BooksOf h d where
  wires := rfl
  out _ := rfl
  reg a ha := by
    unfold Dev.showCredit
    exact (Dev.setFld_reg_other _ _ a R.HAUL_CREDIT_USED _ ha).trans (Dev.setFld_reg_other _ _ a R.HAUL_CREDIT_AVAIL _ ha)

theorem Dev.perf_booksOf (d : Dev) (h c n : Nat) : (d.perf c n).BooksOf h d := by
  unfold Dev.perf
  split
  · exact .refl h d
  · exact ⟨rfl, fun _ => rfl, fun _ _ => rfl⟩

theorem Dev.freeUnits_booksOf (d : Dev) (h : Nat) : (d.freeUnits h).BooksOf h d := by
  unfold Dev.freeUnits
  split
  · exact .refl h d
  · exact (Dev.showCredit_booksOf _ h).trans (Dev.setPort_booksOf d h _ rfl)

theorem Dev.haulGood_booksOf (d : Dev) (h : Nat) (f : List Nat) : (d.haulGood h f).BooksOf h d := by
  unfold Dev.haulGood
  refine (Dev.perf_booksOf _ h _ _).trans ?_
  split
  · exact (Dev.showCredit_booksOf _ h).trans (Dev.setPort_booksOf d h _ rfl)
  · exact .refl h d

/-- A field of a haul page outside the credit register reads as before. -/
theorem Dev.BooksOf.fld {h : Nat} {d o : Dev} (b : d.BooksOf h o) (q : Nat) (F : Fld) (hF : F.off < 0x1000)
    (hc : F.off ≠ R.HAUL_CREDIT_AVAIL.off) : d.fld (pHaul q) F = o.fld (pHaul q) F := by
  unfold Dev.fld
  rw [b.reg]
  simp only [pHaul, R.HAUL_CREDIT_AVAIL] at hc ⊢
  omega

theorem Dev.BooksOf.linkUp {h : Nat} {d o : Dev} (b : d.BooksOf h o) (q : Nat) : d.linkUp q = o.linkUp q := by
  unfold Dev.linkUp Dev.linkState
  rw [b.fld q R.HAUL_LINK_STATE (by decide) (by decide)]

theorem Dev.BooksOf.inRange {h : Nat} {d o : Dev} (b : d.BooksOf h o) (q a : Nat) : d.inRange q a = o.inRange q a := by
  unfold Dev.inRange
  rw [b.fld q R.HAUL_RANGE_FIRST (by decide) (by decide), b.fld q R.HAUL_RANGE_LAST (by decide) (by decide)]

theorem Dev.BooksOf.route {h : Nat} {d o : Dev} (b : d.BooksOf h o) (a : Nat) : d.route a = o.route a := by
  unfold Dev.route Dev.isMaster Dev.flag
  rw [b.inRange, b.inRange, b.fld 0 R.HAUL_CASC_STAT_ADDRESSED (by decide) (by decide),
    b.fld 0 R.HAUL_CASC_STAT_ADDR (by decide) (by decide), b.fld 0 R.HAUL_CASC_STAT_MASTER (by decide) (by decide)]

/-! ### Where an address is routed (R305) -/

/-- Is `a` this device's own address, 0 on the master even before it is addressed? -/
def Dev.owns (d : Dev) (a : Nat) : Bool :=
  d.flag (pHaul 0) R.HAUL_CASC_STAT_ADDRESSED && d.fld (pHaul 0) R.HAUL_CASC_STAT_ADDR == a || d.isMaster && a == 0

/-- Address 0 lies in no subtree. -/
theorem Dev.inRange_zero (d : Dev) (h : Nat) : d.inRange h 0 = false := by
  simp only [Dev.inRange, decide_eq_false_iff_not]
  omega

theorem Dev.route_own {d : Dev} {a : Nat} (h : d.owns a = true) : d.route a = some 3 := by
  unfold Dev.owns at h
  unfold Dev.route
  split
  · rfl
  · next hn =>
    obtain ⟨hm, rfl⟩ : d.isMaster = true ∧ a = 0 := by simpa [hn] using h
    simp [Dev.inRange_zero, hm]

/-- The route of an address of another device: the subtree it lies in, else UP, and nowhere on a master. -/
theorem Dev.route_other {d : Dev} {a : Nat} (h : d.owns a = false) :
    d.route a = if d.inRange 1 a then some 1 else if d.inRange 2 a then some 2 else if d.isMaster then none else some 0 := by
  obtain ⟨hown, hzero⟩ := Bool.or_eq_false_iff.mp h
  unfold Dev.route
  rw [hown]
  cases hm : d.isMaster
  · simp
  · have ha : a ≠ 0 := by simpa [hm] using hzero
    simp [ha]

/-- A frame for another device is not executed here. -/
theorem Dev.route_other_ne {d : Dev} {a : Nat} (h : d.owns a = false) : d.route a ≠ some 3 := by
  rw [Dev.route_other h]
  split_ifs <;> simp

/-! ### What a good MGMT frame does -/

/-- The frame `f` is a good MGMT frame without poison, at a position that allows it, and the link of port `h` is up to take it. -/
structure Dev.TakesMgmt (d : Dev) (h : Nat) (f : List Nat) : Prop where
  up : d.linkUp h = true
  ok : frameOk f = true
  mgmt : frameType f = 4
  allowed : typeAllowed 4 (framePos f) = true
  clean : framePoison f = 0

/-- The device with a MGMT frame in the receive buffer of port `h`, its credit taken and the frame counted. -/
def Dev.mgmtBooked (d : Dev) (h : Nat) (f : List Nat) : Dev :=
  ((d.setPort h { d.port h with usedUnits := (d.port h).usedUnits + 49 }).showCredit h).haulGood h f

/-- The management frame that the clean frame `f` from port `h` carries. -/
def mgmtCarried (h : Nat) (f : List Nat) : MgmtFrame :=
  { dst := bytesNum f 32 2, src := bytesNum f 2 2, port := h, body := payload f, poison := false, origin := bytesNum f 3208 2 }

theorem Dev.mgmtBooked_booksOf (d : Dev) (h : Nat) (f : List Nat) : (d.mgmtBooked h f).BooksOf h d :=
  (Dev.haulGood_booksOf _ h f).trans ((Dev.showCredit_booksOf _ h).trans (Dev.setPort_booksOf d h _ rfl))

/-- What becomes of a frame booked on port `h` whose DST is routed to `way`. -/
def Dev.mgmtSent (d : Dev) (h : Nat) (f : List Nat) (cut : Bool) (way : Option Nat) : Dev :=
  match way with
  | some 3 =>
    let e := d.freeUnits h
    { e with wires := { e.wires with mail := e.wires.mail ++ [(bytesNum f 2 2, payload f)] } }
  | some q => d.mgmtForward q (mgmtCarried h f) cut
  | none => (d.bump (pHaul h) R.HAUL_CNT_C_MGMT_DROP).freeUnits h

/-- A good frame is booked and goes by the route that its DST had when it came. -/
theorem Dev.mgmtIn_takes {d : Dev} {h : Nat} {f : List Nat} (t : d.TakesMgmt h f) (cut : Bool) :
    d.mgmtIn h f cut = (d.mgmtBooked h f).mgmtSent h f cut (d.route (bytesNum f 32 2)) := by
  obtain ⟨hup, hok, hty, hpos, hclean⟩ := t
  have hr := ((Dev.showCredit_booksOf (d.setPort h { d.port h with usedUnits := (d.port h).usedUnits + 49 }) h).trans
    (Dev.setPort_booksOf d h _ rfl)).route (bytesNum f 32 2)
  simp only [Dev.mgmtIn, hup, hty, hpos, hok, hclean, hr]
  rfl

theorem Dev.mgmtSent_own_mail (d : Dev) (h : Nat) (f : List Nat) (cut : Bool) :
    (d.mgmtSent h f cut (some 3)).wires.mail = d.wires.mail ++ [(bytesNum f 2 2, payload f)] := by
  rw [← (d.freeUnits_booksOf h).wires]
  rfl

theorem Dev.mgmtSent_some {q : Nat} (d : Dev) (h : Nat) (f : List Nat) (cut : Bool) (hq : q ≠ 3) :
    d.mgmtSent h f cut (some q) = d.mgmtForward q (mgmtCarried h f) cut := by
  unfold Dev.mgmtSent
  split
  · next heq => exact absurd (Option.some.inj heq) hq
  · next heq => rw [Option.some.inj heq]
  · next heq => cases heq

theorem Dev.mgmtForward_wires (d : Dev) (q : Nat) (m : MgmtFrame) (cut : Bool) : (d.mgmtForward q m cut).wires = d.wires := by
  unfold Dev.mgmtForward
  split
  · exact (Dev.perf_booksOf _ q _ _).wires
  · exact (d.freeUnits_booksOf m.port).wires

/-- A frame for another device raises no mail. -/
theorem Dev.mgmtSent_other_wires (d : Dev) (h : Nat) (f : List Nat) (cut : Bool) {way : Option Nat} (hw : way ≠ some 3) :
    (d.mgmtSent h f cut way).wires = d.wires := by
  cases way with
  | none => exact (Dev.freeUnits_booksOf _ h).wires
  | some q => rw [Dev.mgmtSent_some d h f cut fun hq => hw (congrArg some hq), Dev.mgmtForward_wires]

/-- A forwarded frame waits last at its port, and every other port keeps what waits there. -/
theorem Dev.mgmtForward_out (d : Dev) {q : Nat} (m : MgmtFrame) (cut : Bool) (hup : d.linkUp q = true) :
    ((d.mgmtForward q m cut).port q).out = (d.port q).out ++ [m] ∧
      ∀ k, k ≠ q → ((d.mgmtForward q m cut).port k).out = (d.port k).out := by
  unfold Dev.mgmtForward
  rw [if_pos hup]
  refine ⟨?_, fun k hk => ?_⟩
  · rw [(Dev.perf_booksOf _ q _ _).out, Dev.setPort_port]
  · rw [(Dev.perf_booksOf _ q _ _).out, Dev.setPort_port_other d _ hk]

/-- A frame without a route is counted in MGMT_DROP and waits nowhere. -/
theorem Dev.mgmtSent_none (d : Dev) (h : Nat) (f : List Nat) (cut : Bool) :
    (d.mgmtSent h f cut none).fld (pHaul h) R.HAUL_CNT_C_MGMT_DROP =
        min (d.fld (pHaul h) R.HAUL_CNT_C_MGMT_DROP + 1) (2 ^ R.HAUL_CNT_C_MGMT_DROP.w - 1) ∧
      ∀ k, ((d.mgmtSent h f cut none).port k).out = (d.port k).out := by
  have freed : (d.mgmtSent h f cut none).BooksOf h (d.bump (pHaul h) R.HAUL_CNT_C_MGMT_DROP) := Dev.freeUnits_booksOf _ h
  exact ⟨(freed.fld h _ (by decide) (by decide)).trans (Dev.bump_fld d _ _ (by decide)), freed.out⟩

/-! ### The obligation -/

/-- Settles O45: the frame is booked on its port, which changes no route, and each route has its own effect. -/
theorem managementRoutes : Obligations.ManagementRoutes := by
  unfold Obligations.ManagementRoutes
  rintro s h frame cut own dst hreach hup hok hty hpos hclean rfl hown
  have hin := Dev.mgmtIn_takes (d := s.dev) ⟨hup, hok, hty, hpos, hclean⟩ cut
  have hbooks := s.dev.mgmtBooked_booksOf h.val (frameNums frame)
  replace hown : s.dev.owns (bytesNum (frameNums frame) 32 2) = own := hown.symm
  subst hown
  refine ⟨s.onDev fun d => d.mgmtIn h.val (frameNums frame) cut, State.afterTick_runs _ hreach, ⟨rfl, rfl⟩, ?_⟩
  rw [State.onDev_dev, hin]
  refine ⟨fun hmine => ?_, fun hother => ?_, fun q _ hq hother hway => ?_, fun hother h1 h2 hm => ?_⟩
  · rw [Dev.route_own hmine, Dev.mgmtSent_own_mail, hbooks.wires]
  · rw [Dev.mgmtSent_other_wires _ _ _ _ (Dev.route_other_ne hother), hbooks.wires]
  · have hroute : s.dev.route (bytesNum (frameNums frame) 32 2) = some q := by
      rw [Dev.route_other hother]
      obtain ⟨rfl, h1⟩ | ⟨rfl, h1, h2⟩ | ⟨rfl, h1, h2, hm⟩ := hway
      · simp [h1]
      · simp [h1, h2]
      · simp [h1, h2, hm]
    obtain ⟨hlast, hrest⟩ := Dev.mgmtForward_out (s.dev.mgmtBooked h.val (frameNums frame)) (mgmtCarried h.val (frameNums frame)) cut
      ((hbooks.linkUp q).trans hq)
    rw [hroute, Dev.mgmtSent_some _ _ _ _ (by omega)]
    exact ⟨mgmtCarried h.val (frameNums frame), hlast.trans (by rw [hbooks.out]), rfl, rfl, rfl,
      fun k _ hk => (hrest k hk).trans (hbooks.out k)⟩
  · have hroute : s.dev.route (bytesNum (frameNums frame) 32 2) = none := by simp [Dev.route_other hother, h1, h2, hm]
    obtain ⟨hcount, hout⟩ := (s.dev.mgmtBooked h.val (frameNums frame)).mgmtSent_none h.val (frameNums frame) cut
    rw [hroute, hcount, hbooks.fld h.val _ (by decide) (by decide)]
    exact ⟨rfl, fun k _ => (hout k).trans (hbooks.out k)⟩

end Sys2Proof.Machine
end

section
/-! PROOFS. Event sources of a page (R350, R351): what PG_CAP.SRC reads in every page of Table 01-16, and which of a page's two sources
covers a PG_EVT bit. -/

namespace Sys2Proof.Machine

open Sys2Proof

/-! ### The PG_EVT bits a source covers -/

/-- A power of two has one bit. -/
theorem testBit_two_pow_beq (k bit : Nat) : (2 ^ k).testBit bit = (bit == k) := by
  rw [Nat.testBit_two_pow, beq_eq_decide, decide_eq_decide]
  exact eq_comm

/-- The second source covers one bit: bit 2 in ENG pages, bit 31 elsewhere. -/
theorem testBit_secondSourceMask (b : Blk) (bit : Nat) :
    (secondSourceMask b).testBit bit = if b = .eng then bit == 2 else bit == 31 := by
  unfold secondSourceMask
  split
  · exact testBit_two_pow_beq 2 bit
  · next hne =>
    rw [if_neg hne]
    exact testBit_two_pow_beq 31 bit

/-- The first source covers the bits that the second does not. -/
theorem testBit_firstSourceMask (b : Blk) {bit : Nat} (hbit : bit < 32) :
    (firstSourceMask b).testBit bit = !(secondSourceMask b).testBit bit := by
  have hlt : secondSourceMask b < 2 ^ 32 := by unfold secondSourceMask; split <;> decide
  have hcompl : firstSourceMask b = 2 ^ 32 - (secondSourceMask b + 1) := by
    unfold firstSourceMask secondSourceMask
    split <;> rfl
  rw [hcompl, Nat.testBit_two_pow_sub_succ hlt, decide_eq_true hbit, Bool.true_and]

/-! ### PG_CAP.SRC -/

/-- The page found at an address is one of Table 01-16, and the address lies in one of its instances. -/
theorem pageDefAt_some {a : Nat} {p : PageDef} (h : pageDefAt a = some p) : p ∈ pageDefs ∧ instOf p a < p.count := by
  have hmem : p ∈ pageDefs := List.mem_of_find?_eq_some h
  have hin : p.base ≤ a ∧ a < p.base + p.count * p.span := by simpa using List.find?_some h
  exact ⟨hmem, (Nat.div_lt_iff_lt_mul (span_pos hmem)).mpr (by omega)⟩

/-- The event sources of the block fit the field SRC. -/
theorem firstSource_lt {p : PageDef} {n : Nat} (hp : p ∈ pageDefs) (hn : n < p.count) :
    firstSource p.blk n < 2 ^ R.PG_CAP_SRC.w := by
  have h : ∀ q ∈ pageDefs, ∀ k < q.count, firstSource q.blk k < 2 ^ R.PG_CAP_SRC.w := by decide +kernel
  exact h p hp n hn

/-- SRC holds the first source: the fields below it do not reach its bits. -/
theorem pageCap_src {p : PageDef} (hp : p ∈ pageDefs) (n : Nat) : pageCap p n / 2 ^ R.PG_CAP_SRC.lo = firstSource p.blk n := by
  have hspan : ∀ q ∈ pageDefs, q.span / 0x1000 < 2 ^ 8 := by decide +kernel
  have hpages : (if p.blk = .recorder then 16 else p.span / 0x1000) < 2 ^ 8 := by
    split
    · decide
    · exact hspan p hp
  have hshadow := Bool.toNat_lt (p.rows.any fun r => r.rwc != 0)
  have hclaims := Bool.toNat_lt (canClaim p.blk)
  have hfixed := Bool.toNat_lt (fixedEn p.blk)
  simp only [pageCap, R.PG_CAP_SRC]
  omega

/-- PG_CAP of a page reads as it is formed (Table 15-3). -/
theorem State.live_pageCap (s : State) {p : PageDef} (hp : p ∈ pageDefs) (pg : Nat) :
    s.live p pg R.PG_CAP_SRC.off = BitVec.ofNat 32 (pageCap p (instOf p pg)) := by
  have hrow : ∀ q ∈ pageDefs, (rowAt q R.PG_CAP_SRC.off).isSome = true := by decide +kernel
  obtain ⟨r, hr⟩ := Option.isSome_iff_exists.mp (hrow p hp)
  have hin : rowIn p (instOf p pg) R.PG_CAP_SRC.off = some r := by simpa [rowIn, R.PG_CAP_SRC] using hr
  have hformed : s.formed p pg R.PG_CAP_SRC.off = some (pageCap p (instOf p pg)) := rfl
  simp only [State.live, hin, hformed]

/-- A field of a word given as a number. -/
theorem Fld.get_ofNat (F : Fld) (hF : F.lo + F.w ≤ 32) (v : Nat) : F.get (BitVec.ofNat 32 v) = v / 2 ^ F.lo % 2 ^ F.w := by
  apply Nat.eq_of_testBit_eq
  intro i
  rw [Fld.testBit_get, BitVec.getLsbD_ofNat, Nat.testBit_mod_two_pow, Nat.testBit_div_two_pow, Nat.add_comm F.lo i]
  by_cases hi : i < F.w
  · simp [hi, show i + F.lo < 32 by omega]
  · simp [hi]

/-- PG_CAP.SRC of a page reads as the page's first event source (R351). -/
theorem State.live_src (s : State) {p : PageDef} {pg : Nat} (h : pageDefAt pg = some p) :
    R.PG_CAP_SRC.get (s.live p pg R.PG_CAP_SRC.off) = firstSource p.blk (instOf p pg) := by
  obtain ⟨hmem, hinst⟩ := pageDefAt_some h
  rw [State.live_pageCap s hmem, Fld.get_ofNat _ (by decide), pageCap_src hmem, Nat.mod_eq_of_lt (firstSource_lt hmem hinst)]

/-- A PG_EVT bit belongs to the first source of its page, or to the one after it where the second source covers the bit. -/
theorem evtSource_of_page {p : PageDef} {pg : Nat} (h : pageDefAt pg = some p) (bit : Nat) :
    evtSource pg bit = some (firstSource p.blk (instOf p pg) + ((secondSourceMask p.blk).testBit bit).toNat) := by
  unfold evtSource
  rw [h, Option.map_some]
  cases (secondSourceMask p.blk).testBit bit <;> rfl

/-! ### The obligation -/

/-- Settles O54: SRC reads as the first source, and the two masks divide the bits between it and the next. -/
theorem eventSourcesOfPages : Obligations.EventSourcesOfPages := by
  unfold Obligations.EventSourcesOfPages
  intro s pg bit p second hpage _ hbit hsecond
  have hmask : (secondSourceMask p.blk).testBit bit = second := (testBit_secondSourceMask p.blk bit).trans hsecond.symm
  refine ⟨?_, hmask, ?_⟩
  · rw [evtSource_of_page hpage, State.live_src s hpage, hmask]
  · rw [testBit_firstSourceMask p.blk hbit, hmask]

end Sys2Proof.Machine
end
